-- ==== Sys2Proof/Word.lean ====
section
/-! DEFINITION. The word types of the GF-480: the byte of a trunk frame, the two-byte field, and the numbers that
name seats, channels and levels (spec/00_scope.md, Conventions). -/

namespace Sys2Proof

/-- One byte of a trunk frame. -/
abbrev Byte := BitVec 8

/-- A two-byte frame field, profile word or check sequence. -/
abbrev Half := BitVec 16

/-- A seat number, 0 to 1023 (R1). -/
abbrev SeatNo := Fin 1024

/-- A channel number, 0 to 15 (R82). -/
abbrev ChanNo := Fin 16

/-- A level, 0 to 3; level 0 has the highest precedence (spec/00_scope.md, Levels). -/
abbrev Level := Fin 4

/-- A trunk frame as the transceiver delimits it: every byte from the kind byte to the check sequence (2.8). -/
abbrev Frame := List Byte

end Sys2Proof
end

