-- ==== Sys2Proof/Syntax.lean ====
section
/-! DEFINITION. The commands of the GF-480: one constructor of `Instr` for each row of spec/opcode_table.json, with
the row's operands. A frame that arrives carries the bytes the line delivered; a management row carries the frame's
tag, its received length byte and check sequence, and the operation's fields. -/

namespace Sys2Proof

/-- The four branch ports (2). -/
inductive BranchId where
  | branchA | branchB | branchC | branchD
deriving DecidableEq, Repr

/-- What a MANAGEMENT frame carries beside its operation and fields: the tag, and the length byte and the check
sequence as they were received (R26, R39, R43). -/
structure MgmtHead where
  tag : Byte
  len : Byte
  check : Half
deriving DecidableEq, Repr

/-- What the profile memory held in place of the check word a STORE wrote. -/
inductive CheckCell where
  /-- the check word took its write -/
  | written
  /-- the check word reads as if erased -/
  | erased
  /-- the check word holds another value -/
  | left (v : Half)
deriving DecidableEq, Repr

/-- What the read-back of a STORE finds (R171): the profile words that did not take their write, each with the value
the memory holds, and the check word. -/
structure ReadBack where
  words : List (Nat × Half)
  check : CheckCell
deriving DecidableEq, Repr

/-- The read-back of a memory that took every write. -/
def ReadBack.good : ReadBack := ⟨[], .written⟩

/-- The commands: every operation and event of spec/opcode_table.json. -/
inductive Instr where
  /-- SEAT_REPORT: a frame finishes arriving on a branch (R14, R26 to R29). -/
  | seatReport (b : BranchId) (frame : Frame)
  /-- SEAT_AUDIO: a frame finishes arriving on a branch (R97, R26 to R29). -/
  | seatAudio (b : BranchId) (frame : Frame)
  /-- PROGRAMME: a frame finishes arriving on the uplink (R31). -/
  | programme (frame : Frame)
  /-- BRANCH_LINK_UP: a branch transceiver begins to report carrier (R22, R23). -/
  | branchLinkUp (b : BranchId)
  /-- BRANCH_LINK_DOWN: a branch transceiver stops reporting carrier (R23). -/
  | branchLinkDown (b : BranchId)
  /-- UPLINK_UP: the uplink transceiver begins to report carrier (R24). -/
  | uplinkUp
  /-- UPLINK_DOWN: the uplink transceiver stops reporting carrier (R24). -/
  | uplinkDown
  /-- SEAT_COMMAND: a branch transmitter starts the seat command at the head of its set (R35). -/
  | seatCommand (b : BranchId)
  /-- PROGRAMME_TRANSMIT: a branch transmitter starts its oldest waiting programme frame (R32). -/
  | programmeTransmit (b : BranchId)
  /-- BRANCH_TRANSMIT_COMPLETE: a frame's transmission on a branch completes (R32). -/
  | branchTransmitComplete (b : BranchId)
  /-- CHANNEL_AUDIO_TRANSMIT: the uplink transmitter starts the first waiting CHANNEL AUDIO frame (R40). -/
  | channelAudioTransmit
  /-- REPLY_TRANSMIT: the uplink transmitter starts the reply at the head of the reply queue (R39, R41). -/
  | replyTransmit
  /-- NOTICE_TRANSMIT: the uplink transmitter starts the notice at the head of the notice queue (R41). -/
  | noticeTransmit
  /-- UPLINK_TRANSMIT_COMPLETE: a frame's transmission on the uplink completes (R41). -/
  | uplinkTransmitComplete
  /-- PRESENCE_TIMEOUT: a seat's presence timeout expires (R16). -/
  | presenceTimeout (n : SeatNo)
  /-- REFUSAL_TIMER_EXPIRY: a seat's refusal timer expires (R59). -/
  | refusalTimerExpiry (n : SeatNo)
  /-- COMMAND_REFRESH: 5,000 ms have passed since a seat's last command time (R34). -/
  | commandRefresh (n : SeatNo)
  /-- SECOND_ELAPSED: a channel's sub-second phase wraps (R132). -/
  | secondElapsed (c : ChanNo)
  /-- POWER_UP_RESET: the reset input or the return of power (R174). -/
  | powerUpReset
  /-- COMMAND_RESET: the reset that a RESET reply calls for (R174). -/
  | commandReset
  /-- START_UP_RECALL_COMPLETE: the recall of the RECALLING state completes (R174). -/
  | startUpRecallComplete
  /-- START_UP_READY: the roll call ends (R175). -/
  | startUpReady
  /-- IDENTIFY (R157). -/
  | identify (m : MgmtHead)
  /-- READ_TABLE: table code, first index, count (R158). -/
  | readTable (m : MgmtHead) (table : Byte) (first : Half) (count : Byte)
  /-- WRITE_TABLE_SEAT: index and the bytes of the row (R162). -/
  | writeTableSeat (m : MgmtHead) (index : Half) (row : List Byte)
  /-- WRITE_TABLE_CLASS: index and the bytes of the row (R163). -/
  | writeTableClass (m : MgmtHead) (index : Half) (row : List Byte)
  /-- WRITE_TABLE_BRANCH: index and the bytes of the row (R164). -/
  | writeTableBranch (m : MgmtHead) (index : Half) (row : List Byte)
  /-- WRITE_TABLE_FLOOR: index and the bytes of the row (R165). -/
  | writeTableFloor (m : MgmtHead) (index : Half) (row : List Byte)
  /-- SEAT_FLAGS_TEST: first seat, count, flag code (R166). -/
  | seatFlagsTest (m : MgmtHead) (first : Half) (count : Byte) (flag : Byte)
  /-- SEAT_FLAGS_SET: first seat, count, flag code (R166). -/
  | seatFlagsSet (m : MgmtHead) (first : Half) (count : Byte) (flag : Byte)
  /-- SEAT_FLAGS_CLEAR: first seat, count, flag code (R166). -/
  | seatFlagsClear (m : MgmtHead) (first : Half) (count : Byte) (flag : Byte)
  /-- SEAT_FLAGS_TOGGLE: first seat, count, flag code (R166). -/
  | seatFlagsToggle (m : MgmtHead) (first : Half) (count : Byte) (flag : Byte)
  /-- READ_LIST: first position (R159). -/
  | readList (m : MgmtHead) (position : Byte)
  /-- READ_FLOOR: channel group (R159). -/
  | readFloor (m : MgmtHead) (group : Byte)
  /-- READ_COUNTERS: clear option (R160). -/
  | readCounters (m : MgmtHead) (clear : Byte)
  /-- STORE_PROFILE (R171). -/
  | storeProfile (m : MgmtHead)
  /-- STORE_COMPLETE: a store's read-back completes with what it found (R171). -/
  | storeComplete (found : ReadBack)
  /-- RECALL_PROFILE (R172). -/
  | recallProfile (m : MgmtHead)
  /-- RECALL_COMPLETE: a recall's reading completes (R172). -/
  | recallComplete
  /-- RESET (R174). -/
  | reset (m : MgmtHead)
  /-- OPEN_FLOOR: reload option (R112). -/
  | openFloor (m : MgmtHead) (reload : Byte)
  /-- CLOSE_FLOOR (R113). -/
  | closeFloor (m : MgmtHead)
  /-- SUSPEND (R114). -/
  | suspend (m : MgmtHead)
  /-- RESUME (R115). -/
  | resume (m : MgmtHead)
  /-- SET_MODE: mode code (R116). -/
  | setMode (m : MgmtHead) (mode : Byte)
  /-- SET_LIMIT: open limit as given (R117). -/
  | setLimit (m : MgmtHead) (limit : Byte)
  /-- SET_GATE: gate level as given (R118). -/
  | setGate (m : MgmtHead) (gate : Byte)
  /-- GRANT: seat and force option (R119). -/
  | grant (m : MgmtHead) (seat : Half) (force : Byte)
  /-- END: selector and the seat or channel number (R120). -/
  | endTurn (m : MgmtHead) (selector : Byte) (number : Half)
  /-- WITHDRAW: seat (R121). -/
  | withdraw (m : MgmtHead) (seat : Half)
  /-- CLEAR_LIST (R122). -/
  | clearList (m : MgmtHead)
  /-- RELOAD_BUDGETS (R123). -/
  | reloadBudgets (m : MgmtHead)
  /-- NEXT (R110). -/
  | nextSpeaker (m : MgmtHead)
  /-- UNKNOWN_OPERATION: a frame finishes arriving on the uplink (R39, R154). -/
  | unknownOperation (frame : Frame)
deriving DecidableEq, Repr

end Sys2Proof
end

