-- ==== Sys2Proof/Decode.lean ====
section
/-! DEFINITION. The commands that a word of bits spells: spec/opcode_table.json gives bits to none of its rows, so no
word spells a command. -/

namespace Sys2Proof

/-- The command of a word by the table's bits: none, since no row of spec/opcode_table.json has a field or a fixed
bit. -/
def decodeTableWord (_nbits _w : Nat) : Option Instr := none

end Sys2Proof
end

