-- ==== Sys2Proof/Config.lean ====
section
/-! DEFINITION. What the manual leaves open, as opaque constants: nothing in Lean can evaluate them. -/

namespace Sys2Proof.Config

/-- How far a STORE had come when a reset cut it off, for the k-th such cut: the number of profile words written, a
value above 1,065 meaning that stage 3 had written the check word as well. The manual lets a store take up to 400 ms
and fixes the memory only by the stage reached (R171, R176). A free value: notes/assumptions/3.md. -/
opaque storeReach : Nat → Nat

end Sys2Proof.Config
end

