-- ==== Sys2Proof/Machine/Records.lean ====
section
/-! DEFINITION. The records each block of the GF-480 keeps: seats, classes, branches, the floor configuration, list
entries, channels, ports, notices, replies, the profile and start-up, field by field as the manual lists them. -/

namespace Sys2Proof.Machine

/-- A seat's class (R2). -/
inductive SeatClass where
  | delegate | official | chair | observer
deriving DecidableEq, Repr

/-- The configuration part of a seat record (R2); an order level of none is the manual's NONE. -/
structure SeatConfig where
  cls : SeatClass
  speak : Level
  order : Option Level
  barred : Bool
  exempt : Bool
  keyClose : Bool
deriving DecidableEq, Repr

/-- The unit kinds a report can carry (R5). -/
inductive UnitKind where
  | delegateUnit | chairUnit
deriving DecidableEq, Repr

/-- A seat's floor state (R8). -/
inductive SeatFloor where
  | idle | waiting | speaking
deriving DecidableEq, Repr

/-- The runtime part of a seat record (R5); moments are counts of the millisecond time base. -/
structure SeatRun where
  present : Bool
  unitKind : Option UnitKind
  mismatch : Bool
  lastHeard : Nat
  ref1 : BitVec 4
  ref2 : BitVec 4
  ref3 : BitVec 4
  down1 : Bool
  down2 : Bool
  down3 : Bool
  floor : SeatFloor
  chan : Option ChanNo
  budget : Nat
  refusalShown : Bool
  lastCommand : Nat
deriving DecidableEq, Repr

/-- One of the 1,024 seat records (R1). -/
structure SeatRecord where
  cfg : SeatConfig
  run : SeatRun
deriving DecidableEq, Repr

/-- An mm:ss value as four decimal digits: minutes tens and units, seconds tens and units (R125, R126). -/
structure Mmss where
  mt : Nat
  mu : Nat
  st : Nat
  su : Nat
deriving DecidableEq, Repr

/-- What a countdown does at 00:00 (R6). -/
inductive ExpiryAction where
  | cut | overrun
deriving DecidableEq, Repr

/-- One record of the class table (R6). -/
structure ClassRecord where
  speakLimit : Mmss
  orderLimit : Mmss
  warning : Mmss
  expiry : ExpiryAction
  enforced : Bool
  initial : Nat
deriving DecidableEq, Repr

/-- The class table: one record for each class (R6). -/
structure ClassTable where
  delegate : ClassRecord
  official : ClassRecord
  chair : ClassRecord
  observer : ClassRecord
deriving DecidableEq, Repr

/-- A branch record: whether the branch is enabled, and its seat range (R164). -/
structure BranchRecord where
  enabled : Bool
  first : Nat
  last : Nat
deriving DecidableEq, Repr

/-- The branch table, A to D. -/
structure BranchTable where
  a : BranchRecord
  b : BranchRecord
  c : BranchRecord
  d : BranchRecord
deriving DecidableEq, Repr

/-- The granting mode (R102). -/
inductive Mode where
  | auto | override | directed
deriving DecidableEq, Repr

/-- The floor configuration record (2.8, R165, R173). Bit n of the notice enables is for the notice kind of code
n + 1. -/
structure FloorConfig where
  mode : Mode
  limit : Nat
  gate : Level
  high : Nat
  low : Nat
  presenceMs : Nat
  silenceS : Nat
  onThreshold : Nat
  offThreshold : Nat
  openAtStart : Bool
  showBudget : Bool
  relist : Bool
  enables : BitVec 13
deriving DecidableEq, Repr

/-- The configuration a profile holds: what a recall replaces (R169, R172). -/
structure Configuration where
  seats : Vector SeatConfig 1024
  classes : ClassTable
  branches : BranchTable
  floorCfg : FloorConfig
deriving DecidableEq, Repr

/-- The kind of a request and of a list entry (R63). -/
inductive RequestKind where
  | speak | order
deriving DecidableEq, Repr

/-- The kind of a turn, fixed at its grant (R82). -/
inductive TurnKind where
  | speak | order | chair
deriving DecidableEq, Repr

/-- An entry of the request list (R63). -/
structure Entry where
  seat : SeatNo
  kind : RequestKind
  claimed : Level
  effective : Level
  arrival : Half
  clamped : Bool
  exhausted : Bool
  relisted : Bool
  upgraded : Bool
deriving DecidableEq, Repr

/-- The request list: its entries from head to tail, the restraint flag and the arrival sequence (R62, R64, R78). -/
structure RequestList where
  entries : List Entry
  restraint : Bool
  arrival : Half
deriving DecidableEq, Repr

/-- A channel's state: FREE, OPEN (here `opened`) or HELD (R82). -/
inductive ChanState where
  | free | opened | held
deriving DecidableEq, Repr

/-- The timer modes (R125). -/
inductive TimerMode where
  | countdown | overtime | elapsed
deriving DecidableEq, Repr

/-- The timer record of a channel (R125). -/
structure Timer where
  mode : TimerMode
  value : Mmss
  allowance : Nat
  used : Nat
  phase : Nat
  warned : Bool
deriving DecidableEq, Repr

/-- The detector record of a channel (R144). -/
structure Detector where
  voice : Bool
  level : Nat
  peak : Nat
  run : Nat
deriving DecidableEq, Repr

/-- The two hold causes (R82). -/
inductive Cause where
  | priority | suspend
deriving DecidableEq, Repr

/-- A channel record (R82); the hold-cause set is held as its two membership bits. -/
structure Channel where
  state : ChanState
  seat : Option SeatNo
  kind : Option TurnKind
  level : Option Level
  priority : Bool
  suspend : Bool
  timer : Timer
  detector : Detector
deriving DecidableEq, Repr

/-- The floor state of the chamber: CLOSED, OPEN (here `opened`) or SUSPENDED (R100). -/
inductive FloorState where
  | closed | opened | suspended
deriving DecidableEq, Repr

/-- The notice kinds (2.8). -/
inductive NoticeKind where
  | granted | closed | held | released | listed | unlisted | refused | warning | expired
  | seatPresent | seatAbsent | link | restraint
deriving DecidableEq, Repr

/-- The five ports, as LINK notices name them (R22). -/
inductive Port where
  | branch (b : BranchId) | uplink
deriving DecidableEq, Repr

/-- The reasons notices carry (2.8). -/
inductive Reason where
  | seatClosed | ended | timeUp | silence | displaced | nextSpeaker | seatLost | barred | floorClosed
  | granted | withdrawn | absent | cleared | operator
  | closed | notEntitled | listFull | restrained
  | priority | suspend | set | clear
  | linkUp (p : Port) | linkDown (p : Port)
deriving DecidableEq, Repr

/-- A notice as it is built (R167, R168). -/
structure Notice where
  kind : NoticeKind
  gap : Bool
  seat : Option SeatNo
  chan : Option ChanNo
  reason : Option Reason
  fill : Nat
  floor : FloorState
deriving DecidableEq, Repr

/-- The reply statuses (R155). -/
inductive Status where
  | done | adjusted | nothing | busy | refusedRange | refusedState | refusedLimit | unknown | failed
deriving DecidableEq, Repr

/-- A built reply; `resets` marks the reply to RESET, whose sending brings the command reset (R174). -/
structure Reply where
  tag : Byte
  status : Status
  data : List Byte
  resets : Bool
deriving DecidableEq, Repr

/-- A place of the reply queue (R39). -/
inductive ReplyPlace where
  /-- the reply is built and waits to be sent -/
  | built (r : Reply)
  /-- reserved for the reply of the STORE or RECALL in flight, with its frame's tag -/
  | profileOp (tag : Byte)
  /-- reserved for a frame handed on after RESET was taken, which is never answered (R174) -/
  | unanswered
deriving DecidableEq, Repr

/-- A CHANNEL AUDIO frame in its waiting place (R40, R98). -/
structure AudioFrame where
  chan : ChanNo
  seat : SeatNo
  held : Bool
  samples : List Half
deriving DecidableEq, Repr

/-- A branch port (2): the transceiver's carrier report, the link state, the seat command set, the programme waiting
place, the frame in transmission and the four counters (R22, R30 to R33). -/
structure BranchPort where
  carrier : Bool
  up : Bool
  cmdSet : List SeatNo
  programme : List Frame
  tx : Option Frame
  checkErr : Nat
  rangeErr : Nat
  kindErr : Nat
  audioStray : Nat
deriving DecidableEq, Repr

/-- The four branch ports. -/
structure BranchPorts where
  a : BranchPort
  b : BranchPort
  c : BranchPort
  d : BranchPort
deriving DecidableEq, Repr

/-- A frame in transmission on the uplink; `resets` marks the RESET reply (R174). -/
structure UplinkTx where
  frame : Frame
  resets : Bool
deriving DecidableEq, Repr

/-- The uplink port (2.6): carrier report, link state, waiting channel audio in sending order, the reply queue, the
notice queue and the frame in transmission (R39 to R41, R168). -/
structure UplinkPort where
  carrier : Bool
  up : Bool
  audio : List AudioFrame
  replies : List ReplyPlace
  notices : List Notice
  tx : Option UplinkTx
deriving DecidableEq, Repr

/-- The two global counters and the gap marker (R39, R168). -/
structure Management where
  mgmtErr : Nat
  noticeDrop : Nat
  gap : Bool
deriving DecidableEq, Repr

/-- The profile status (R170). -/
inductive ProfileStatus where
  | valid | invalid | defaulted
deriving DecidableEq, Repr

/-- The profile operation in flight, with the moment it was taken (R171, R172). -/
inductive ProfileOp where
  | store (since : Nat) | recall (since : Nat)
deriving DecidableEq, Repr

/-- The Profile Store: the nonvolatile words and check word (none while erased), the status and the operation in
flight (R169 to R172). -/
structure Profile where
  words : List Half
  check : Option Half
  status : ProfileStatus
  op : Option ProfileOp
deriving DecidableEq, Repr

/-- The start-up states (R175). -/
inductive StartState where
  | recalling | rollCall | ready
deriving DecidableEq, Repr

/-- The reset causes (R174). -/
inductive ResetCause where
  | power | command
deriving DecidableEq, Repr

/-- How far a RESET has come: none taken, its reply still to be sent, or the command reset due (R174). -/
inductive ResetStage where
  | none | requested | due
deriving DecidableEq, Repr

/-- Start-up Control: the state and the moment it was entered, the reset cause and the reset in progress (R174), and open
at start as the recall of RECALLING loaded it, by which the change to READY goes (R165 step 6, R175;
notes/assumptions/25.md). -/
structure StartUp where
  state : StartState
  since : Nat
  cause : ResetCause
  reset : ResetStage
  opens : Bool
deriving DecidableEq, Repr

end Sys2Proof.Machine
end

