-- ==== Sys2Proof/Machine/Defaults.lean ====
section
/-! DEFINITION. The default configuration (R6, R173), the after-reset records (R21, R42, R81, R99) and the fixed times
of the manual. -/

namespace Sys2Proof.Machine

/-- A refusal display lasts 2,000 ms (R45). -/
def refusalMs : Nat := 2000

/-- A PRESENT seat is refreshed 5,000 ms after its last command (R34). -/
def refreshMs : Nat := 5000

/-- The roll call lasts 2,000 ms (R174). -/
def rollCallMs : Nat := 2000

/-- A store takes up to 400 ms (R171). -/
def storeMs : Nat := 400

/-- A recall takes up to 50 ms (R172). -/
def recallMs : Nat := 50

/-- The largest value of a 16-bit counter, budget or used count (spec/00_scope.md, Counters). -/
def maxCount : Nat := 65535

/-- An mm:ss value written as its digits. -/
def mmss (mt mu st su : Nat) : Mmss := ⟨mt, mu, st, su⟩

/-- 00:00. -/
def zeroTime : Mmss := ⟨0, 0, 0, 0⟩

/-- The default seat configuration (R173). -/
def defaultSeatConfig : SeatConfig :=
  { cls := .delegate, speak := 3, order := some 2, barred := false, exempt := false, keyClose := true }

/-- The default class table (R6). -/
def defaultClasses : ClassTable :=
  { delegate := ⟨mmss 0 5 0 0, mmss 0 2 0 0, mmss 0 0 3 0, .cut, false, 1800⟩
    official := ⟨mmss 1 0 0 0, mmss 0 2 0 0, mmss 0 1 0 0, .overrun, false, 3600⟩
    chair := ⟨zeroTime, zeroTime, zeroTime, .overrun, false, 0⟩
    observer := ⟨zeroTime, zeroTime, zeroTime, .cut, false, 0⟩ }

/-- The default branch table (R173). -/
def defaultBranches : BranchTable :=
  { a := ⟨true, 0, 255⟩, b := ⟨true, 256, 511⟩, c := ⟨true, 512, 767⟩, d := ⟨true, 768, 1023⟩ }

/-- The default floor configuration record (R173). -/
def defaultFloorConfig : FloorConfig :=
  { mode := .auto, limit := 4, gate := 3, high := 56, low := 40, presenceMs := 1000, silenceS := 0,
    onThreshold := 1200, offThreshold := 600, openAtStart := false, showBudget := false, relist := true,
    enables := BitVec.allOnes 13 }

/-- A list of 1,024 seat items as the seat-indexed table. -/
def seatTable {α : Type} (l : List α) (h : l.length = 1024) : Vector α 1024 := ⟨l.toArray, h⟩

/-- The same item at every seat. -/
def everySeat {α : Type} (x : α) : Vector α 1024 := seatTable (List.replicate 1024 x) List.length_replicate

/-- The same item at every channel. -/
def everyChannel {α : Type} (x : α) : Vector α 16 := ⟨(List.replicate 16 x).toArray, List.length_replicate⟩

/-- The default configuration (R173). -/
def defaultConfiguration : Configuration :=
  { seats := everySeat defaultSeatConfig, classes := defaultClasses, branches := defaultBranches,
    floorCfg := defaultFloorConfig }

/-- The runtime part after either reset, at the moment of the reset, with an initial budget (R21). The last-heard
time is not used while ABSENT and is set to the moment of the reset (notes/assumptions/6.md). -/
def resetRun (now budget : Nat) : SeatRun :=
  { present := false, unitKind := none, mismatch := false, lastHeard := now, ref1 := 0, ref2 := 0, ref3 := 0,
    down1 := false, down2 := false, down3 := false, floor := .idle, chan := none, budget := budget,
    refusalShown := false, lastCommand := now }

/-- The timer record after either reset (R99). -/
def resetTimer : Timer :=
  { mode := .elapsed, value := zeroTime, allowance := 0, used := 0, phase := 0, warned := false }

/-- The detector record after either reset and at every grant (R99, R144). -/
def quietDetector : Detector := { voice := false, level := 0, peak := 0, run := 0 }

/-- A channel record after either reset (R99). -/
def resetChannel : Channel :=
  { state := .free, seat := none, kind := none, level := none, priority := false, suspend := false,
    timer := resetTimer, detector := quietDetector }

/-- A branch port after the first step of either reset, its transceiver reporting carrier or not (R42). -/
def resetPort (carrier : Bool) : BranchPort :=
  { carrier := carrier, up := false, cmdSet := [], programme := [], tx := none, checkErr := 0, rangeErr := 0,
    kindErr := 0, audioStray := 0 }

/-- The uplink port after the first step of either reset (R42). -/
def resetUplink (carrier : Bool) : UplinkPort :=
  { carrier := carrier, up := false, audio := [], replies := [], notices := [], tx := none }

/-- The request list after either reset (R81). -/
def resetList : RequestList := { entries := [], restraint := false, arrival := 0 }

/-- The global counters and the gap marker after either reset (R160, R168). -/
def resetManagement : Management := { mgmtErr := 0, noticeDrop := 0, gap := false }

/-- The profile memory of a part that was never stored: words of 0 and an erased check word. The manual gives no
factory contents (notes/assumptions/2.md). -/
def blankProfile : Profile :=
  { words := List.replicate 1065 0, check := none, status := .defaulted, op := none }

end Sys2Proof.Machine
end

