-- ==== Sys2Proof/Machine/State.lean ====
section
/-! DEFINITION. The whole state of the GF-480 as plain data, the reasons a step can stop, the state after reset, and
the named updates of one field each. -/

namespace Sys2Proof.Machine

/-- The block has no fault: the manual answers every event with an effect, a counted discard or a refusal reply,
none of which stops the controller. No constructor, so no command raises one. -/
inductive Fault where
deriving DecidableEq, Repr

/-- Why a command has no meaning in the model. -/
inductive Refusal where
  /-- Raised by an arm of `exec` whose command has no meaning yet; safe, since the run stops. No arm raises it. -/
  | notModelled (mnemonic : String)
deriving DecidableEq, Repr

/-- Everything the manual gives the controller, and the queue of commands that wait. -/
structure State where
  /-- the millisecond time base -/
  now : Nat
  /-- the 1,024 seat records (R1) -/
  seats : Vector SeatRecord 1024
  /-- Request Admission's refusal timers: the moment each running one was started (R45) -/
  refusal : Vector (Option Nat) 1024
  /-- the class table (R6) -/
  classes : ClassTable
  /-- the branch table (R164) -/
  branches : BranchTable
  /-- the floor configuration record (R165) -/
  floorCfg : FloorConfig
  /-- the four branch ports -/
  ports : BranchPorts
  /-- the uplink port -/
  uplink : UplinkPort
  /-- the request list (R62) -/
  list : RequestList
  /-- the 16 channel records (R82) -/
  channels : Vector Channel 16
  /-- the grant order, oldest first (R84) -/
  grantOrder : List ChanNo
  /-- the priority holder set, in ascending seat number (R93) -/
  holders : List SeatNo
  /-- the floor state (R100) -/
  floor : FloorState
  /-- MGMT_ERR, NOTICE_DROP and the gap marker -/
  mgmt : Management
  /-- the profile store (R169) -/
  profile : Profile
  /-- start-up control (R174) -/
  startUp : StartUp
  /-- the model's own: how many free values have been drawn -/
  free : Nat
  /-- the model's own: the commands that wait, first in, first out -/
  pending : List Instr
deriving DecidableEq, Repr

/-- The outcome of a command. -/
abbrev Out := Host.Outcome State Fault Refusal

namespace State

/-- The machine right after a power-up reset with no carrier at any port: RECALLING, on the default configuration
(R21, R42, R81, R99, R100, R174). -/
def reset : State :=
  { now := 0
    seats := everySeat ⟨defaultSeatConfig, resetRun 0 1800⟩
    refusal := everySeat none
    classes := defaultClasses
    branches := defaultBranches
    floorCfg := defaultFloorConfig
    ports := ⟨resetPort false, resetPort false, resetPort false, resetPort false⟩
    uplink := resetUplink false
    list := resetList
    channels := everyChannel resetChannel
    grantOrder := []
    holders := []
    floor := .closed
    mgmt := resetManagement
    profile := blankProfile
    startUp := ⟨.recalling, 0, .power, .none, false⟩
    free := 0
    pending := [] }

/-- The record of a seat. -/
def seat (s : State) (n : SeatNo) : SeatRecord := s.seats[n]

/-- The refusal timer of a seat. -/
def refusalOf (s : State) (n : SeatNo) : Option Nat := s.refusal[n]

/-- The record of a channel. -/
def chan (s : State) (c : ChanNo) : Channel := s.channels[c]

/-- The port of a branch. -/
def port (s : State) : BranchId → BranchPort
  | .branchA => s.ports.a
  | .branchB => s.ports.b
  | .branchC => s.ports.c
  | .branchD => s.ports.d

/-- Replace one seat record. -/
def setSeat (n : SeatNo) (r : SeatRecord) (s : State) : State := { s with seats := s.seats.set n r }

/-- Replace one refusal timer. -/
def setRefusal (n : SeatNo) (t : Option Nat) (s : State) : State := { s with refusal := s.refusal.set n t }

/-- Replace one channel record. -/
def setChan (c : ChanNo) (k : Channel) (s : State) : State := { s with channels := s.channels.set c k }

/-- Replace one branch port. -/
def setPort (b : BranchId) (p : BranchPort) (s : State) : State :=
  { s with ports := match b with
      | .branchA => { s.ports with a := p }
      | .branchB => { s.ports with b := p }
      | .branchC => { s.ports with c := p }
      | .branchD => { s.ports with d := p } }

/-- Replace the time base. -/
def withNow (t : Nat) (s : State) : State := { s with now := t }
/-- Replace every seat record. -/
def withSeats (v : Vector SeatRecord 1024) (s : State) : State := { s with seats := v }
/-- Replace every refusal timer. -/
def withRefusal (v : Vector (Option Nat) 1024) (s : State) : State := { s with refusal := v }
/-- Replace the class table. -/
def withClasses (t : ClassTable) (s : State) : State := { s with classes := t }
/-- Replace the branch table. -/
def withBranches (t : BranchTable) (s : State) : State := { s with branches := t }
/-- Replace the floor configuration record. -/
def withFloorCfg (f : FloorConfig) (s : State) : State := { s with floorCfg := f }
/-- Replace the four branch ports. -/
def withPorts (p : BranchPorts) (s : State) : State := { s with ports := p }
/-- Replace the uplink port. -/
def withUplink (u : UplinkPort) (s : State) : State := { s with uplink := u }
/-- Replace the request list. -/
def withList (l : RequestList) (s : State) : State := { s with list := l }
/-- Replace every channel record. -/
def withChannels (v : Vector Channel 16) (s : State) : State := { s with channels := v }
/-- Replace the grant order. -/
def withGrantOrder (l : List ChanNo) (s : State) : State := { s with grantOrder := l }
/-- Replace the priority holder set. -/
def withHolders (l : List SeatNo) (s : State) : State := { s with holders := l }
/-- Replace the floor state. -/
def withFloor (f : FloorState) (s : State) : State := { s with floor := f }
/-- Replace the global counters and the gap marker. -/
def withMgmt (m : Management) (s : State) : State := { s with mgmt := m }
/-- Replace the profile store. -/
def withProfile (p : Profile) (s : State) : State := { s with profile := p }
/-- Replace start-up control. -/
def withStartUp (u : StartUp) (s : State) : State := { s with startUp := u }
/-- Replace the count of free values drawn. -/
def withFree (k : Nat) (s : State) : State := { s with free := k }
/-- Replace the queue of waiting commands. -/
def withPending (q : List Instr) (s : State) : State := { s with pending := q }

/-- Change the runtime part of one seat record. -/
def updRun (n : SeatNo) (f : SeatRun → SeatRun) (s : State) : State :=
  s.setSeat n { s.seat n with run := f (s.seat n).run }

/-- Change one channel record. -/
def updChan (c : ChanNo) (f : Channel → Channel) (s : State) : State := s.setChan c (f (s.chan c))

/-- Change one branch port. -/
def updPort (b : BranchId) (f : BranchPort → BranchPort) (s : State) : State := s.setPort b (f (s.port b))

end State
end Sys2Proof.Machine
end

