-- ==== Sys2Proof/Machine/Bytes.lean ====
section
/-! DEFINITION. Byte order, saturation, the check sequence and the frame envelope (spec/00_scope.md, R26, R43, 2.8). -/

namespace Sys2Proof.Machine

/-- A count that stays at 65,535 (spec/00_scope.md, Counters). -/
def bump (n : Nat) : Nat := min maxCount (n + 1)

/-- A two-byte field, most significant byte first (R44). -/
def half (hi lo : Byte) : Half := hi ++ lo

/-- The two bytes of a field, most significant first (R44). -/
def bytesOf (h : Half) : List Byte := [h.extractLsb' 8 8, h.extractLsb' 0 8]

/-- A number as one byte. -/
def byte (n : Nat) : Byte := BitVec.ofNat 8 n

/-- A number as two bytes, most significant first. -/
def two (n : Nat) : List Byte := bytesOf (BitVec.ofNat 16 n)

/-- A number as three bytes, most significant first. -/
def three (n : Nat) : List Byte := byte (n / 65536) :: two n

/-- A flag as one byte. -/
def flagByte (b : Bool) : Byte := if b then 1 else 0

/-- One bit of a Boolean at a place of a byte. -/
def bitAt (b : Bool) (k : Nat) : Byte := if b then 1 <<< k else 0

/-- The check register after one more bit (R43: x^16 + x^12 + x^5 + 1). -/
def checkBit (r : Half) (b : Bool) : Half :=
  if r.msb != b then (r <<< 1) ^^^ 0x1021 else r <<< 1

/-- The check register after one more byte, most significant bit first (R43). -/
def checkByte (r : Half) (x : Byte) : Half :=
  [7, 6, 5, 4, 3, 2, 1, 0].foldl (fun r k => checkBit r (x.getLsbD k)) r

/-- The check sequence of bytes: the register starts at all ones, and no final inversion is applied (R43). -/
def checkSequence (l : List Byte) : Half := l.foldl checkByte 0xFFFF

/-- A frame the controller builds: kind, length, payload, check sequence (2.8, R43). -/
def mkFrame (kind : Byte) (payload : List Byte) : Frame :=
  let body := kind :: byte payload.length :: payload
  body ++ bytesOf (checkSequence body)

/-- The kind byte of a frame, if it has one. -/
def frameKind (f : Frame) : Option Byte := f.head?

/-- The payload bytes actually received, between the length byte and the check sequence (R26). -/
def payload (f : Frame) : List Byte := (f.drop 2).take (f.length - 4)

/-- The integrity check of R26: long enough, the length byte agrees, and the check sequence agrees. -/
def frameOk (f : Frame) : Bool :=
  4 ≤ f.length && (f.getD 1 0).toNat == f.length - 4
    && bytesOf (checkSequence (f.take (f.length - 2))) == f.drop (f.length - 2)

/-- The magnitude of a sample, that of -32,768 taken as 32,767 (R145). -/
def magnitude (x : Half) : Nat := min 32767 x.toInt.natAbs

/-- The level of a block: the largest magnitude among its samples (R145). -/
def blockLevel (l : List Half) : Nat := l.foldl (fun m x => max m (magnitude x)) 0

/-- Bytes taken two at a time, the first the more significant, an odd last byte completed with 0 (R169). -/
def pairUp : List Byte → List Half
  | [] => []
  | [x] => [half x 0]
  | x :: y :: l => half x y :: pairUp l

/-- Words written out as bytes. -/
def unpair (l : List Half) : List Byte := l.flatMap bytesOf

end Sys2Proof.Machine
end

