-- ==== Sys2Proof/Machine/Flags.lean ====
section
/-! DEFINITION. Every condition and flag the manual computes from the state: branches and ranges, budgets, mismatch,
eligibility, counts, timing classes, mm:ss arithmetic and the voice flag. -/

namespace Sys2Proof.Machine

/-- The record of a class (R6). -/
def ClassTable.record (t : ClassTable) : SeatClass → ClassRecord
  | .delegate => t.delegate
  | .official => t.official
  | .chair => t.chair
  | .observer => t.observer

/-- The record of a branch. -/
def BranchTable.record (t : BranchTable) : BranchId → BranchRecord
  | .branchA => t.a
  | .branchB => t.b
  | .branchC => t.c
  | .branchD => t.d

/-- The branches in the order A, B, C, D. -/
def branchIds : List BranchId := [.branchA, .branchB, .branchC, .branchD]

/-- A seat number lies within a range (R28). -/
def BranchRecord.holds (r : BranchRecord) (n : Nat) : Bool := r.first ≤ n && n ≤ r.last

/-- A seat's branch: the enabled branch whose range contains the seat number (R18). -/
def BranchTable.branchOf (t : BranchTable) (n : SeatNo) : Option BranchId :=
  branchIds.find? fun b => (t.record b).enabled && (t.record b).holds n.val

/-- Every seat number, ascending. -/
def allSeats : List SeatNo := List.finRange 1024

/-- Every channel number, ascending. -/
def allChannels : List ChanNo := List.finRange 16

/-- The seats whose record meets a condition, in ascending seat number. -/
def State.seatsWhere (s : State) (p : SeatNo → SeatRecord → Bool) : List SeatNo :=
  (List.zip allSeats s.seats.toList).filterMap fun x => if p x.1 x.2 then some x.1 else none

/-- The fill: the number of entries (R62). -/
def State.fill (s : State) : Nat := s.list.entries.length

/-- The entry that names a seat, if one does. -/
def State.entryOf (s : State) (n : SeatNo) : Option Entry := s.list.entries.find? fun e => e.seat == n

/-- A seat's list position: 1 plus the number of entries ahead of its entry, or 0 if no entry names it (R37, R69). -/
def positionIn (l : List Entry) (n : SeatNo) : Nat :=
  match l.findIdx? fun e => e.seat == n with
  | some k => k + 1
  | none => 0

/-- A budget applies to a seat of this configuration (R10). -/
def budgetApplies (t : ClassTable) (c : SeatConfig) : Bool := (t.record c.cls).enforced && !c.exempt

/-- A budget applies to a seat (R10). -/
def State.applies (s : State) (n : SeatNo) : Bool := budgetApplies s.classes (s.seat n).cfg

/-- The EXHAUSTED condition of a seat's entry (R76). -/
def State.isExhausted (s : State) (n : SeatNo) : Bool := s.applies n && (s.seat n).run.budget == 0

/-- The unit mismatch of a unit kind at a class (R19). -/
def mismatchOf (u : Option UnitKind) (c : SeatClass) : Bool :=
  match u with
  | none => false
  | some .chairUnit => c != .chair
  | some .delegateUnit => c == .chair

/-- A seat is IDLE or WAITING. -/
def SeatRun.offFloor (r : SeatRun) : Bool := r.floor != .speaking

/-- A channel is busy: OPEN or HELD (R82). -/
def Channel.busy (k : Channel) : Bool := k.state != .free

/-- A channel has a hold cause (R83). -/
def Channel.hasCause (k : Channel) : Bool := k.priority || k.suspend

/-- The FREE channel with the lowest channel number (R85). -/
def State.lowestFree (s : State) : Option ChanNo := allChannels.find? fun c => (s.chan c).state == .free

/-- A busy channel whose kind is not CHAIR. -/
def Channel.nonChair (k : Channel) : Bool := k.busy && k.kind != some .chair

/-- The non-chair count (R103). -/
def State.nonChairCount (s : State) : Nat := (allChannels.filter fun c => (s.chan c).nonChair).length

/-- The oldest channel in the grant order whose kind is not CHAIR (R109, R110, R119). -/
def State.oldestNonChair (s : State) : Option ChanNo := s.grantOrder.find? fun c => (s.chan c).nonChair

/-- An entry is eligible: its level is within the gate and it is not EXHAUSTED (R104). -/
def State.eligible (s : State) (e : Entry) : Bool := e.effective ≤ s.floorCfg.gate && !e.exhausted

/-- The first eligible entry (R104). -/
def State.firstEligible (s : State) : Option Entry := s.list.entries.find? s.eligible

/-- The entitled level of an entry's kind; an ORDER entry of a seat whose order level is NONE takes the speak level
(R52, R74). -/
def SeatConfig.entitled (c : SeatConfig) : RequestKind → Level
  | .speak => c.speak
  | .order => c.order.getD c.speak

/-- The effective level: the numerically larger of the claimed and the entitled level (R52). -/
def effectiveLevel (claimed entitled : Level) : Level := max claimed entitled

/-- CLAMPED: the request claimed better than its entitlement (R52). -/
def isClamped (claimed entitled : Level) : Bool := claimed < entitled

/-- The turn kind an entry's kind gives (R86). -/
def RequestKind.turn : RequestKind → TurnKind
  | .speak => .speak
  | .order => .order

/-- The kind of a grant: a seat of class CHAIR is granted with kind CHAIR on every path (R86). -/
def grantKind (c : SeatClass) (k : TurnKind) : TurnKind := if c = .chair then .chair else k

/-- The hold causes a grant computes: PRIORITY, then SUSPEND (R87). -/
def State.grantCauses (s : State) (n : SeatNo) (k : TurnKind) (asHolder : Bool) : Bool × Bool :=
  (!s.holders.isEmpty && !s.holders.contains n && !asHolder, s.floor == .suspended && k != .chair)

/-- An mm:ss value in seconds (R126). -/
def Mmss.seconds (v : Mmss) : Nat := 600 * v.mt + 60 * v.mu + 10 * v.st + v.su

/-- The display conversion (R126). -/
def display (n : Nat) : Mmss :=
  if n / 60 > 99 then ⟨9, 9, 5, 9⟩
  else ⟨n / 60 / 10, n / 60 % 10, n % 60 / 10, n % 60 % 10⟩

/-- A countdown's decrement by one second, digit by digit (R133). -/
def Mmss.pred (v : Mmss) : Mmss :=
  if v.su > 0 then { v with su := v.su - 1 }
  else if v.st > 0 then { v with su := 9, st := v.st - 1 }
  else if v.mu > 0 then { v with su := 9, st := 5, mu := v.mu - 1 }
  else { su := 9, st := 5, mu := 9, mt := v.mt - 1 }

/-- A count-up's increment by one second, digit by digit, staying at 99:59 (R134). -/
def Mmss.succ (v : Mmss) : Mmss :=
  if v = ⟨9, 9, 5, 9⟩ then v
  else if v.su < 9 then { v with su := v.su + 1 }
  else if v.st < 5 then { v with su := 0, st := v.st + 1 }
  else if v.mu < 9 then { v with su := 0, st := 0, mu := v.mu + 1 }
  else { su := 0, st := 0, mu := 0, mt := v.mt + 1 }

/-- The timing class of a turn (R127). -/
def timingClass (k : TurnKind) (c : SeatClass) : SeatClass := if k = .chair then .chair else c

/-- The turn limit L in seconds, read at the grant (R127). -/
def turnLimit (t : ClassTable) (k : TurnKind) (c : SeatClass) : Nat :=
  match k, c with
  | .chair, _ => t.chair.speakLimit.seconds
  | _, .observer => 0
  | .speak, c => (t.record c).speakLimit.seconds
  | .order, c => (t.record c).orderLimit.seconds

/-- The warning threshold W in seconds as a reading finds it; the OBSERVER record is not read (R129, R138). -/
def warningOf (t : ClassTable) (k : TurnKind) (c : SeatClass) : Nat :=
  match timingClass k c with
  | .observer => 0
  | x => (t.record x).warning.seconds

/-- The expiry action as a reading finds it; for an OBSERVER it is taken as CUT (R136, R138). -/
def expiryOf (t : ClassTable) (k : TurnKind) (c : SeatClass) : ExpiryAction :=
  match timingClass k c with
  | .observer => .cut
  | x => (t.record x).expiry

/-- The timer record a grant sets (R128, R129). -/
def startTimer (t : ClassTable) (k : TurnKind) (c : SeatConfig) (budget : Nat) : Timer :=
  let l := turnLimit t k c.cls
  let w := warningOf t k c.cls
  if l = 0 then resetTimer
  else
    let a := if budgetApplies t c && 1 ≤ budget then min l budget else l
    { mode := .countdown, value := display a, allowance := a, used := 0, phase := 0, warned := 0 < w && a ≤ w }

/-- The voice flag after a block, with hysteresis between the thresholds (R147). -/
def voiceAfter (f : FloorConfig) (voice : Bool) (level : Nat) : Bool :=
  if voice then !(level < f.offThreshold) else f.onThreshold ≤ level

/-- The largest silence run (R144). -/
def maxRun : Nat := 131071

/-- The detector record after a measured block of a level (R146 to R148). -/
def measure (f : FloorConfig) (d : Detector) (level : Nat) : Detector :=
  let v := voiceAfter f d.voice level
  { voice := v, level := level, peak := max d.peak level, run := if v then 0 else min maxRun (d.run + 1) }

/-- The silence release check (R149). -/
def releasesSilence (f : FloorConfig) (kind : Option TurnKind) (d : Detector) : Bool :=
  1 ≤ f.silenceS && f.silenceS ≤ 120 && kind != some .chair && f.silenceS * 1000 ≤ d.run

/-- The restraint flag an insertion leaves, for the fill after it (R78). -/
def restraintAfterInsertion (f : FloorConfig) (r : Bool) (fill : Nat) : Bool := r || f.high ≤ fill

/-- The restraint flag a removal leaves, for the fill after it (R78). -/
def restraintAfterRemoval (f : FloorConfig) (r : Bool) (fill : Nat) : Bool := r && !(fill ≤ f.low)

/-- The restraint flag a write of the marks leaves (R79). -/
def restraintAfterMarks (f : FloorConfig) (r : Bool) (fill : Nat) : Bool :=
  if f.high ≤ fill then true else if fill ≤ f.low then false else r

/-- The difference of a press count from its reference, modulo 16 (R46). -/
def pressDifference (count ref : BitVec 4) : BitVec 4 := count - ref

/-- An odd difference: one press act (R46). -/
def isPress (d : BitVec 4) : Bool := d.getLsbD 0

/-- An even difference that is not 0: presses that cancel (R46). -/
def isCancelled (d : BitVec 4) : Bool := !d.getLsbD 0 && d != 0

/-- The refusal reason of the first check of R53 that fails, if one does. -/
def State.admissionRefusal (s : State) (n : SeatNo) (effective : Level) : Option Reason :=
  if s.floor = .closed then some .closed
  else if (s.seat n).cfg.cls = .observer then some .notEntitled
  else if (s.seat n).cfg.barred then some .barred
  else if 64 ≤ s.fill then some .listFull
  else if s.list.restraint && effective == 3 then some .restrained
  else none

end Sys2Proof.Machine
end

