-- ==== Sys2Proof/Machine/Frames.lean ====
section
/-! DEFINITION. The codes and layouts of 2.8: what the controller writes into the frames it sends, the table rows, the
list entries, the channel records and the profile words (R36, R37, R44, R169). -/

namespace Sys2Proof.Machine

/-- Frame kind SEAT REPORT (2.8). -/
def kindSeatReport : Byte := 0x21
/-- Frame kind SEAT AUDIO (2.8). -/
def kindSeatAudio : Byte := 0x30
/-- Frame kind CHANNEL AUDIO (2.8). -/
def kindChannelAudio : Byte := 0x31
/-- Frame kind SEAT COMMAND (2.8). -/
def kindSeatCommand : Byte := 0x41
/-- Frame kind PROGRAMME (2.8). -/
def kindProgramme : Byte := 0x50
/-- Frame kind MANAGEMENT (2.8). -/
def kindManagement : Byte := 0x60
/-- Frame kind REPLY (2.8). -/
def kindReply : Byte := 0x61
/-- Frame kind NOTICE (2.8). -/
def kindNotice : Byte := 0x62

/-- The management operations (2.8). -/
inductive Op where
  | identify | readTable | writeTable | seatFlags | readList | readFloor | readCounters
  | storeProfile | recallProfile | reset
  | openFloor | closeFloor | suspend | resume | setMode | setLimit | setGate | grant | endTurn | withdraw
  | clearList | reloadBudgets | next
deriving DecidableEq, Repr

/-- The operation codes (2.8). -/
def Op.code : Op → Byte
  | .identify => 0x01
  | .readTable => 0x02
  | .writeTable => 0x03
  | .seatFlags => 0x04
  | .readList => 0x05
  | .readFloor => 0x06
  | .readCounters => 0x07
  | .storeProfile => 0x08
  | .recallProfile => 0x09
  | .reset => 0x0A
  | .openFloor => 0x10
  | .closeFloor => 0x11
  | .suspend => 0x12
  | .resume => 0x13
  | .setMode => 0x14
  | .setLimit => 0x15
  | .setGate => 0x16
  | .grant => 0x17
  | .endTurn => 0x18
  | .withdraw => 0x19
  | .clearList => 0x1A
  | .reloadBudgets => 0x1B
  | .next => 0x1C

/-- Every operation, in the order of its code. -/
def Op.all : List Op :=
  [.identify, .readTable, .writeTable, .seatFlags, .readList, .readFloor, .readCounters, .storeProfile,
   .recallProfile, .reset, .openFloor, .closeFloor, .suspend, .resume, .setMode, .setLimit, .setGate, .grant,
   .endTurn, .withdraw, .clearList, .reloadBudgets, .next]

/-- The operation of a code. -/
def Op.ofCode (x : Byte) : Option Op := Op.all.find? fun o => o.code == x

/-- The MANAGEMENT frame a command row stands for, with the length byte and check sequence as received (2.8). -/
def mgmtFrame (m : MgmtHead) (o : Op) (fields : List Byte) : Frame :=
  kindManagement :: m.len :: m.tag :: o.code :: fields ++ bytesOf m.check

/-- What a MANAGEMENT frame carries when nothing was damaged on the line: the true length and check sequence. -/
def soundHead (tag : Byte) (o : Op) (fields : List Byte) : MgmtHead :=
  { tag := tag, len := byte (2 + fields.length),
    check := checkSequence (kindManagement :: byte (2 + fields.length) :: tag :: o.code :: fields) }

/-- The status codes (2.8). -/
def Status.code : Status → Byte
  | .done => 0
  | .adjusted => 1
  | .nothing => 2
  | .busy => 3
  | .refusedRange => 4
  | .refusedState => 5
  | .refusedLimit => 6
  | .unknown => 7
  | .failed => 8

/-- The class codes (2.8). -/
def SeatClass.code : SeatClass → Nat
  | .delegate => 0
  | .official => 1
  | .chair => 2
  | .observer => 3

/-- The floor state codes (2.8). -/
def FloorState.code : FloorState → Nat
  | .closed => 0
  | .opened => 1
  | .suspended => 2

/-- The mode codes (2.8). -/
def Mode.code : Mode → Nat
  | .auto => 0
  | .override => 1
  | .directed => 2

/-- The reset cause codes (2.8). -/
def ResetCause.code : ResetCause → Nat
  | .power => 0
  | .command => 1

/-- The profile status codes (2.8). -/
def ProfileStatus.code : ProfileStatus → Nat
  | .valid => 0
  | .invalid => 1
  | .defaulted => 2

/-- The start-up state codes (2.8). -/
def StartState.code : StartState → Nat
  | .recalling => 0
  | .rollCall => 1
  | .ready => 2

/-- The channel state codes (2.8). -/
def ChanState.code : ChanState → Nat
  | .free => 0
  | .opened => 1
  | .held => 2

/-- The channel kind codes (2.8). -/
def TurnKind.code : TurnKind → Nat
  | .speak => 0
  | .order => 1
  | .chair => 2

/-- The timer mode codes of a channel record (2.8). -/
def TimerMode.code : TimerMode → Nat
  | .countdown => 0
  | .overtime => 1
  | .elapsed => 2

/-- The expiry action codes (2.8). -/
def ExpiryAction.code : ExpiryAction → Nat
  | .cut => 0
  | .overrun => 1

/-- The seat floor state codes of a SEAT row (2.8). -/
def SeatFloor.code : SeatFloor → Nat
  | .idle => 0
  | .waiting => 1
  | .speaking => 2

/-- The notice kind codes (2.8). -/
def NoticeKind.code : NoticeKind → Nat
  | .granted => 1
  | .closed => 2
  | .held => 3
  | .released => 4
  | .listed => 5
  | .unlisted => 6
  | .refused => 7
  | .warning => 8
  | .expired => 9
  | .seatPresent => 10
  | .seatAbsent => 11
  | .link => 12
  | .restraint => 13

/-- The code of a port's going UP; going DOWN is one more (2.8). -/
def Port.code : Port → Nat
  | .branch .branchA => 0x20
  | .branch .branchB => 0x22
  | .branch .branchC => 0x24
  | .branch .branchD => 0x26
  | .uplink => 0x28

/-- The reason codes (2.8). -/
def Reason.code : Reason → Nat
  | .seatClosed => 0x01
  | .ended => 0x02
  | .timeUp => 0x03
  | .silence => 0x04
  | .displaced => 0x05
  | .nextSpeaker => 0x06
  | .seatLost => 0x07
  | .barred => 0x08
  | .floorClosed => 0x09
  | .granted => 0x0A
  | .withdrawn => 0x0B
  | .absent => 0x0C
  | .cleared => 0x0D
  | .operator => 0x0E
  | .closed => 0x10
  | .notEntitled => 0x11
  | .listFull => 0x12
  | .restrained => 0x13
  | .priority => 0x18
  | .suspend => 0x19
  | .set => 0x1A
  | .clear => 0x1B
  | .linkUp p => p.code
  | .linkDown p => p.code + 1

/-- A seat field, 0xFFFF when absent (R44). -/
def seatField : Option SeatNo → List Byte
  | some n => two n.val
  | none => [0xFF, 0xFF]

/-- A channel field, 0xFF when absent (R44). -/
def chanField : Option ChanNo → Byte
  | some c => byte c.val
  | none => 0xFF

/-- An mm:ss field: two bytes of two BCD digits (2.8). -/
def mmssBytes (v : Mmss) : List Byte := [byte (16 * v.mt + v.mu), byte (16 * v.st + v.su)]

/-- The NOTICE frame of a notice (2.8). -/
def noticeFrame (x : Notice) : Frame :=
  mkFrame kindNotice ([byte x.kind.code, flagByte x.gap] ++ seatField x.seat
    ++ [chanField x.chan, byte ((x.reason.map Reason.code).getD 0), byte x.fill, byte x.floor.code])

/-- The REPLY frame of a reply (2.8). -/
def replyFrame (r : Reply) : Frame := mkFrame kindReply (r.tag :: r.status.code :: r.data)

/-- The CHANNEL AUDIO frame of a forwarded block (2.8). -/
def audioFrame (x : AudioFrame) : Frame :=
  mkFrame kindChannelAudio (byte x.chan.val :: two x.seat.val ++ flagByte x.held :: x.samples.flatMap bytesOf)

/-- What the microphone of a seat shows. -/
inductive Microphone where
  | off | live | held
deriving DecidableEq, Repr

/-- What the ring of a seat shows. -/
inductive Ring where
  | dark | steady | slowBlink | fastBlink
deriving DecidableEq, Repr

/-- What the request lamp of a seat shows. -/
inductive Lamp where
  | dark | waiting | refused
deriving DecidableEq, Repr

/-- The mode of a seat's time field. -/
inductive TimeMode where
  | blank | remaining | overtime | elapsed
deriving DecidableEq, Repr

/-- The content of a seat command (R36, R37). -/
structure SeatShow where
  microphone : Microphone
  ring : Ring
  lamp : Lamp
  position : Nat
  timeMode : TimeMode
  time : Mmss
deriving DecidableEq, Repr

/-- The ring of a speaking seat (R36). -/
def ringOf (t : Timer) : Ring :=
  match t.mode with
  | .countdown => if t.warned then .slowBlink else .steady
  | .overtime => .fastBlink
  | .elapsed => .steady

/-- The time mode of a speaking seat (R37). -/
def timeModeOf : TimerMode → TimeMode
  | .countdown => .remaining
  | .overtime => .overtime
  | .elapsed => .elapsed

/-- The channel a speaking seat holds. -/
def State.heldChannel (s : State) (n : SeatNo) : Option Channel :=
  match (s.seat n).run.floor with
  | .speaking => (s.seat n).run.chan.map s.chan
  | _ => none

/-- The content of a seat's command as its state stands (R36, R37). -/
def State.seatShow (s : State) (n : SeatNo) : SeatShow :=
  let r := (s.seat n).run
  let lamp : Lamp := if r.refusalShown then .refused else if r.floor = .waiting then .waiting else .dark
  let position := if r.floor = .waiting then positionIn s.list.entries n else 0
  match s.heldChannel n with
  | some k =>
    { microphone := if k.state = .held then .held else .live
      ring := ringOf k.timer, lamp := lamp, position := position
      timeMode := timeModeOf k.timer.mode, time := k.timer.value }
  | none =>
    if r.present && s.floorCfg.showBudget && s.applies n then
      { microphone := .off, ring := .dark, lamp := lamp, position := position
        timeMode := .remaining, time := display r.budget }
    else
      { microphone := .off, ring := .dark, lamp := lamp, position := position
        timeMode := .blank, time := zeroTime }

/-- The microphone codes (2.8). -/
def Microphone.code : Microphone → Nat
  | .off => 0
  | .live => 1
  | .held => 2

/-- The ring codes (2.8). -/
def Ring.code : Ring → Nat
  | .dark => 0
  | .steady => 1
  | .slowBlink => 2
  | .fastBlink => 3

/-- The lamp codes (2.8). -/
def Lamp.code : Lamp → Nat
  | .dark => 0
  | .waiting => 1
  | .refused => 2

/-- The time mode codes of a seat command (2.8). -/
def TimeMode.code : TimeMode → Nat
  | .blank => 0
  | .remaining => 1
  | .overtime => 2
  | .elapsed => 3

/-- The SEAT COMMAND frame of a seat (2.8). -/
def seatCommandFrame (n : SeatNo) (x : SeatShow) : Frame :=
  mkFrame kindSeatCommand (two n.val
    ++ [byte (64 * x.microphone.code + 16 * x.ring.code + x.lamp.code), byte x.position, byte x.timeMode.code]
    ++ mmssBytes x.time)

/-- The configuration word of a seat (2.8). -/
def configWord (c : SeatConfig) : Half :=
  BitVec.ofNat 16 (16384 * c.cls.code + 4096 * c.speak.val + 512 * (c.order.map Fin.val).getD 4
    + 256 * c.barred.toNat + 128 * c.exempt.toNat + 64 * c.keyClose.toNat)

/-- The unit kind code of a SEAT row (2.8). -/
def unitKindCode : Option UnitKind → Nat
  | none => 0
  | some .delegateUnit => 1
  | some .chairUnit => 2

/-- Milliseconds since the last-heard time, 65,535 while ABSENT (2.8, R158). -/
def sinceHeard (now : Nat) (r : SeatRun) : Nat := if r.present then min maxCount (now - r.lastHeard) else maxCount

/-- Milliseconds since the last command time (2.8, R158). -/
def sinceCommand (now : Nat) (r : SeatRun) : Nat := min maxCount (now - r.lastCommand)

/-- A SEAT row of 12 bytes (2.8). -/
def seatRow (now : Nat) (x : SeatRecord) : List Byte :=
  bytesOf (configWord x.cfg)
    ++ [byte (128 * x.run.present.toNat + 32 * unitKindCode x.run.unitKind + 16 * x.run.mismatch.toNat
          + 8 * x.run.refusalShown.toNat + 2 * x.run.floor.code)]
    ++ two (4096 * x.run.ref1.toNat + 256 * x.run.ref2.toNat + 16 * x.run.ref3.toNat
          + 4 * x.run.down1.toNat + 2 * x.run.down2.toNat + x.run.down3.toNat)
    ++ [chanField x.run.chan] ++ two x.run.budget ++ two (sinceHeard now x.run) ++ two (sinceCommand now x.run)

/-- A CLASS row of 10 bytes (2.8). -/
def classRow (r : ClassRecord) : List Byte :=
  mmssBytes r.speakLimit ++ mmssBytes r.orderLimit ++ mmssBytes r.warning
    ++ [byte r.expiry.code, flagByte r.enforced] ++ two r.initial

/-- A BRANCH row of 5 bytes (2.8). -/
def branchRow (r : BranchRecord) : List Byte := flagByte r.enabled :: two r.first ++ two r.last

/-- A FLOOR row of 17 bytes (2.8). -/
def floorRow (f : FloorConfig) : List Byte :=
  [byte f.mode.code, byte f.limit, byte f.gate.val, byte f.high, byte f.low] ++ two f.presenceMs
    ++ [byte f.silenceS] ++ two f.onThreshold ++ two f.offThreshold
    ++ [flagByte f.openAtStart, flagByte f.showBudget, flagByte f.relist] ++ bytesOf (f.enables.setWidth 16)

/-- The flags byte of a list entry (2.8). -/
def Entry.flags (e : Entry) : Byte :=
  byte (e.clamped.toNat + 2 * e.exhausted.toNat + 4 * e.relisted.toNat + 8 * e.upgraded.toNat)

/-- A list entry of 8 bytes (2.8). -/
def entryBytes (e : Entry) : List Byte :=
  two e.seat.val ++ [byte e.kind.turn.code, byte e.claimed.val, byte e.effective.val] ++ bytesOf e.arrival ++ [e.flags]

/-- A channel record of 24 bytes (2.8). -/
def channelBytes (k : Channel) : List Byte :=
  byte k.state.code :: seatField k.seat
    ++ [((k.kind.map fun x => byte x.code).getD 0xFF), ((k.level.map fun x => byte x.val).getD 0xFF),
        byte (k.priority.toNat + 2 * k.suspend.toNat), byte k.timer.mode.code]
    ++ mmssBytes k.timer.value ++ two k.timer.allowance ++ two k.timer.used ++ two k.timer.phase
    ++ [flagByte k.timer.warned, flagByte k.detector.voice] ++ two k.detector.level ++ two k.detector.peak
    ++ three k.detector.run

/-- A list cut or filled up to a length. -/
def padTo {α : Type} (k : Nat) (x : α) (l : List α) : List α := (l ++ List.replicate k x).take k

theorem padTo_length {α : Type} (k : Nat) (x : α) (l : List α) : (padTo k x l).length = k := by
  simp [padTo]

/-- The floor summary of 40 bytes (2.8). -/
def floorSummary (s : State) (group : Byte) : List Byte :=
  [group, byte s.floor.code, byte s.floorCfg.mode.code, byte s.floorCfg.limit, byte s.floorCfg.gate.val,
    byte s.nonChairCount, byte s.holders.length]
    ++ (padTo 8 [0xFF, 0xFF] (s.holders.map fun n => two n.val)).flatten
    ++ byte s.grantOrder.length :: padTo 16 0xFF (s.grantOrder.map fun c => byte c.val)

/-- The rows of the four branches, A to D. -/
def BranchTable.rows (t : BranchTable) : List BranchRecord := [t.a, t.b, t.c, t.d]

/-- The records of the four classes, in the order of their codes. -/
def ClassTable.rows (t : ClassTable) : List ClassRecord := [t.delegate, t.official, t.chair, t.observer]

/-- The 1,065 profile words of a configuration (R169). -/
def profileWords (g : Configuration) : List Half :=
  g.seats.toList.map configWord ++ g.classes.rows.flatMap (fun r => pairUp (classRow r))
    ++ g.branches.rows.flatMap (fun r => pairUp (branchRow r)) ++ pairUp (floorRow g.floorCfg)

/-- The check word of profile words: the one's complement of their sum modulo 65,536 (R169). -/
def checkWord (l : List Half) : Half := ~~~(l.foldl (· + ·) 0)

/-- The working configuration (R169). -/
def State.configuration (s : State) : Configuration :=
  { seats := seatTable (s.seats.toList.map SeatRecord.cfg) (by simp), classes := s.classes, branches := s.branches,
    floorCfg := s.floorCfg }

/-- The 18 counters in the order of R30, then MGMT_ERR and NOTICE_DROP (R160). -/
def State.counters (s : State) : List Nat :=
  branchIds.flatMap (fun b => [(s.port b).checkErr, (s.port b).rangeErr, (s.port b).kindErr, (s.port b).audioStray])
    ++ [s.mgmt.mgmtErr, s.mgmt.noticeDrop]

end Sys2Proof.Machine
end

