-- ==== Sys2Proof/Machine/Operands.lean ====
section
/-! DEFINITION. How the controller reads the fields of the frames it takes: seat reports, audio blocks, and the rows of
a table write with their clamps (2.8, R79, R152, R162 to R165), and the profile words of a recall (R169, R172). -/

namespace Sys2Proof.Machine

/-- The fields of a SEAT REPORT (2.8). -/
structure Report where
  seat : Nat
  attach : Bool
  unit : UnitKind
  claimed : Level
  count1 : BitVec 4
  count2 : BitVec 4
  count3 : BitVec 4
  down1 : Bool
  down2 : Bool
  down3 : Bool
deriving DecidableEq, Repr

/-- A level in the two low bits of a byte. -/
def levelBits (x : Byte) : Level := (x.extractLsb' 0 2).toFin

/-- The payload of a SEAT REPORT (2.8). -/
def readReport : List Byte → Option Report
  | [hi, lo, x, k1, k2, k3] =>
    some
      { seat := (half hi lo).toNat
        attach := x.getLsbD 7
        unit := if x.getLsbD 6 then .chairUnit else .delegateUnit
        claimed := levelBits x
        count1 := k1.extractLsb' 0 4, count2 := k2.extractLsb' 0 4, count3 := k3.extractLsb' 0 4
        down1 := k1.getLsbD 4, down2 := k2.getLsbD 4, down3 := k3.getLsbD 4 }
  | _ => none

/-- The fields of a SEAT AUDIO frame (2.8): seat number, channel number as received, samples. -/
structure Block where
  seat : Nat
  chan : Nat
  samples : List Half
deriving DecidableEq, Repr

/-- The payload of a SEAT AUDIO frame (2.8). -/
def readBlock : List Byte → Option Block
  | hi :: lo :: c :: l => some { seat := (half hi lo).toNat, chan := c.toNat, samples := pairUp l }
  | _ => none

/-- The class of a code; two bits hold every class (2.8). -/
def classOfCode : BitVec 2 → SeatClass
  | 0 => .delegate
  | 1 => .official
  | 2 => .chair
  | _ => .observer

/-- The order level of its three-bit code; codes 5 to 7 are clamped to NONE (R162). -/
def orderOfCode (x : BitVec 3) : Option Level :=
  if h : x.toNat < 4 then some ⟨x.toNat, h⟩ else none

/-- The configuration part in a configuration word (2.8). -/
def configOfWord (w : Half) : SeatConfig :=
  { cls := classOfCode (w.extractLsb' 14 2)
    speak := (w.extractLsb' 12 2).toFin
    order := orderOfCode (w.extractLsb' 9 3)
    barred := w.getLsbD 8, exempt := w.getLsbD 7, keyClose := w.getLsbD 6 }

/-- The order level code of a configuration word needs a clamp (R162). -/
def orderClamped (w : Half) : Bool := 4 < (w.extractLsb' 9 3).toNat

/-- A number clamped into a range. -/
def clamp (lo hi n : Nat) : Nat := min hi (max lo n)

/-- The four digits of an mm:ss field as they are written. -/
def digitsOf (m s : Byte) : Mmss :=
  { mt := m.toNat / 16, mu := m.toNat % 16, st := s.toNat / 16, su := s.toNat % 16 }

/-- The digits of an mm:ss field, clamped: minutes and seconds units to 9, seconds tens to 5 (R163). -/
def Mmss.clamped (v : Mmss) : Mmss := { mt := min 9 v.mt, mu := min 9 v.mu, st := min 5 v.st, su := min 9 v.su }

/-- A warning threshold clamped to 09:59 (R163). -/
def clampWarning (v : Mmss) : Mmss := if 599 < v.seconds then ⟨0, 9, 5, 9⟩ else v

/-- A yes or no field: a value above 1 becomes yes (R163 to R165). -/
def yes (x : Byte) : Bool := x != 0

/-- A CLASS row as written: the record stored, and whether a field was clamped (R163). -/
def readClassRow : List Byte → Option (ClassRecord × Bool)
  | [a, b, c, d, e, f, x, y, hi, lo] =>
    let sp := digitsOf a b
    let ord := digitsOf c d
    let w := digitsOf e f
    let r : ClassRecord :=
      { speakLimit := sp.clamped, orderLimit := ord.clamped, warning := clampWarning w.clamped
        expiry := if x = 0 then .cut else .overrun, enforced := yes y, initial := (half hi lo).toNat }
    some (r, sp != r.speakLimit || ord != r.orderLimit || w != r.warning || 1 < x.toNat || 1 < y.toNat)
  | _ => none

/-- A BRANCH row as written: the record, and whether a field was clamped (R164). -/
def readBranchRow : List Byte → Option (BranchRecord × Bool)
  | [e, a, b, c, d] =>
    some ({ enabled := yes e, first := (half a b).toNat, last := (half c d).toNat }, 1 < e.toNat)
  | _ => none

/-- The mode of a code, if it has one (2.8). -/
def modeOfCode (x : Byte) : Option Mode :=
  match x.toNat with
  | 0 => some .auto
  | 1 => some .override
  | 2 => some .directed
  | _ => none

/-- The marks as R79 clamps them: each into its range, then the low mark below the high mark. -/
def clampMarks (high low : Nat) : Nat × Nat :=
  let h := clamp 1 64 high
  let l := min 63 low
  (h, if h ≤ l then h - 1 else l)

/-- The thresholds as R152 clamps them: each into its range, then the OFF threshold below the ON threshold. -/
def clampThresholds (on off : Nat) : Nat × Nat :=
  let h := clamp 1 32767 on
  let l := min 32766 off
  (h, if h ≤ l then h - 1 else l)

/-- The presence timeout in ms as R165 clamps it: 200 to 5,000, rounded down to a multiple of 100. -/
def clampPresence (n : Nat) : Nat := clamp 200 5000 n / 100 * 100

/-- A gate level as given, clamped into 0 to 3 (R118). -/
def clampGate (x : Byte) : Level := if h : x.toNat < 4 then ⟨x.toNat, h⟩ else 3

/-- An open limit as given, clamped into 1 to 16 (R117). -/
def clampLimit (x : Byte) : Nat := clamp 1 16 x.toNat

/-- A FLOOR row as written: the record after the clamps, and whether a field was clamped (R79, R152, R165). -/
def readFloorRow : List Byte → Option (FloorConfig × Bool)
  | [mode, limit, gate, high, low, ph, pl, sil, onh, onl, offh, offl, start, budget, relist, eh, el] =>
    let marks := clampMarks high.toNat low.toNat
    let ms := (half ph pl).toNat
    let on := (half onh onl).toNat
    let off := (half offh offl).toNat
    let levels := clampThresholds on off
    let f : FloorConfig :=
      { mode := (modeOfCode mode).getD .directed, limit := clampLimit limit, gate := clampGate gate
        high := marks.1, low := marks.2, presenceMs := clampPresence ms, silenceS := min 120 sil.toNat
        onThreshold := levels.1, offThreshold := levels.2
        openAtStart := yes start, showBudget := yes budget, relist := yes relist
        enables := (half eh el).extractLsb' 0 13 }
    some (f, 2 < mode.toNat || f.limit != limit.toNat || f.gate.val != gate.toNat
      || f.high != high.toNat || f.low != low.toNat || f.presenceMs != ms || f.silenceS != sil.toNat
      || f.onThreshold != on || f.offThreshold != off
      || 1 < start.toNat || 1 < budget.toNat || 1 < relist.toNat)
  | _ => none

/-- The seat configurations in the first 1,024 profile words. -/
def seatsOfWords (l : List Half) : Vector SeatConfig 1024 :=
  seatTable ((padTo 1024 0 l).map configOfWord) (by rw [List.length_map, padTo_length])

/-- The class record in five profile words. -/
def classOfWords (l : List Half) : ClassRecord :=
  ((readClassRow (unpair (padTo 5 0 l))).map Prod.fst).getD defaultClasses.delegate

/-- The branch record in three profile words; the byte that completes the row is dropped. -/
def branchOfWords (l : List Half) : BranchRecord :=
  ((readBranchRow ((unpair (padTo 3 0 l)).take 5)).map Prod.fst).getD defaultBranches.a

/-- The floor configuration record in nine profile words; the byte that completes the row is dropped. -/
def floorOfWords (l : List Half) : FloorConfig :=
  ((readFloorRow ((unpair (padTo 9 0 l)).take 17)).map Prod.fst).getD defaultFloorConfig

/-- The configuration in profile words, in the order of R169. A stored profile holds only values in range, which the
clamps leave as they are. -/
def configurationOfWords (l : List Half) : Configuration :=
  let cl (k : Nat) := classOfWords (l.drop (1024 + 5 * k))
  let br (k : Nat) := branchOfWords (l.drop (1044 + 3 * k))
  { seats := seatsOfWords l, classes := ⟨cl 0, cl 1, cl 2, cl 3⟩, branches := ⟨br 0, br 1, br 2, br 3⟩
    floorCfg := floorOfWords (l.drop 1056) }

/-- The check word of the profile memory is good (R169). -/
def Profile.good (p : Profile) : Bool := p.check == some (checkWord p.words)

/-- The configuration a recall loads: the profile's contents if its check word is good, the defaults otherwise (R172). -/
def Profile.recalled (p : Profile) : Configuration :=
  if p.good then configurationOfWords p.words else defaultConfiguration

/-- The profile status a recall leaves (R170). -/
def Profile.recalledStatus (p : Profile) : ProfileStatus := if p.good then .valid else .defaulted

/-- Profile words of which some did not take their write, each left with the value the memory holds. -/
def leftWords (l : List Half) (bad : List (Nat × Half)) : List Half := bad.foldl (fun l x => l.set x.1 x.2) l

/-- What stands in the check word's place after a store that wrote a check word. -/
def checkLeft (c : CheckCell) (w : Half) : Option Half :=
  match c with
  | .written => some w
  | .erased => none
  | .left v => some v

end Sys2Proof.Machine
end

