-- ==== Sys2Proof/Machine/Ops.lean ====
section
/-! DEFINITION. The shared operations of the blocks: marks and notices, the request list, grants, closes, hold causes,
the fill rule, displacement, chair grants, NEXT, the refusal display, the absence cascade, the reply queue, budgets and
the reset. Every command's meaning is written over them. -/

namespace Sys2Proof.Machine

namespace State

/-! ### Marks and notices -/

/-- Mark a seat for a command: append it to the command set of its branch, unless it is there already, the branch is
DOWN or the seat has no branch (R33). -/
def mark (n : SeatNo) (s : State) : State :=
  match s.branches.branchOf n with
  | none => s
  | some b =>
    if (s.port b).up && !(s.port b).cmdSet.contains n then
      s.updPort b fun p => { p with cmdSet := p.cmdSet ++ [n] }
    else s

/-- Mark several seats, in their order. -/
def markAll (l : List SeatNo) (s : State) : State := l.foldl (fun s n => s.mark n) s

/-- A built notice enters the queue at the tail with the gap flag the gap marker gives, or is dropped and counted
while the queue holds 32 or the uplink is DOWN (R24, R168). -/
def enqueue (x : Notice) (s : State) : State :=
  if s.uplink.up && s.uplink.notices.length < 32 then
    (s.withUplink { s.uplink with notices := s.uplink.notices ++ [{ x with gap := s.mgmt.gap }] }).withMgmt
      { s.mgmt with gap := false }
  else s.withMgmt { s.mgmt with noticeDrop := bump s.mgmt.noticeDrop, gap := true }

/-- The notice enable of a kind: bit n is for the kind of code n + 1 (2.8, R167). -/
def notifies (s : State) (k : NoticeKind) : Bool := s.floorCfg.enables.getLsbD (k.code - 1)

/-- Reach the point at which a rule builds a notice: with the kind enabled it is built with the list fill and the
floor state as they stand, otherwise nothing happens (R167). -/
def notice (k : NoticeKind) (n : Option SeatNo) (c : Option ChanNo) (r : Option Reason) (s : State) : State :=
  if s.notifies k then s.enqueue { kind := k, gap := false, seat := n, chan := c, reason := r, fill := s.fill, floor := s.floor }
  else s

/-! ### The request list -/

/-- Place an entry directly after the last entry whose level is numerically equal to or smaller than its own, or at
the head (R65). -/
def placeEntry (e : Entry) : List Entry → List Entry
  | [] => [e]
  | x :: l => if (x :: l).any fun y => y.effective ≤ e.effective then x :: placeEntry e l else e :: x :: l

/-- Place an entry directly before the first entry of its own level. -/
def placeBefore (e : Entry) : List Entry → List Entry
  | [] => [e]
  | x :: l => if x.effective = e.effective then e :: x :: l else x :: placeBefore e l

/-- Place a RELISTED entry at the head of its level group (R67). -/
def placeRelisted (e : Entry) (l : List Entry) : List Entry :=
  if l.any fun y => y.effective = e.effective then placeBefore e l else placeEntry e l

/-- Mark each WAITING seat whose position differs from its position in the list before, in the order of the entries
(R69). -/
def markMoved (before : List Entry) (s : State) : State :=
  s.markAll ((s.list.entries.map Entry.seat).filter fun n => positionIn before n != positionIn s.list.entries n)

/-- Set the restraint flag, with a RESTRAINT notice if it changes (R78). -/
def setRestraint (r : Bool) (s : State) : State :=
  if r = s.list.restraint then s
  else (s.withList { s.list with restraint := r }).notice .restraint none none (some (if r then .set else .clear))

/-- Change a seat's floor state and channel field together (R8). -/
def seatFloor (n : SeatNo) (f : SeatFloor) (c : Option ChanNo) (s : State) : State :=
  s.updRun n fun r => { r with floor := f, chan := c }

/-- Steps 1 to 7 of an insertion: the place, the next arrival number, EXHAUSTED, WAITING, restraint and the marks
(R64, R66). An insertion for a seat that has an entry is not made (R62). -/
def insertBy (place : Entry → List Entry → List Entry) (e : Entry) (s : State) : State :=
  if (s.entryOf e.seat).isSome then s
  else
    let before := s.list.entries
    let e := { e with arrival := s.list.arrival + 1, exhausted := s.isExhausted e.seat }
    let s := s.withList { s.list with entries := place e before, arrival := s.list.arrival + 1 }
    let s := s.seatFloor e.seat .waiting none
    let s := s.setRestraint (restraintAfterInsertion s.floorCfg s.list.restraint s.fill)
    s.markMoved before

/-- An accepted request is inserted (R66). -/
def insertEntry (e : Entry) (s : State) : State := s.insertBy placeEntry e

/-- A displaced speaker is relisted with the grant level of its closed channel, unless the list holds 64 entries
(R67). -/
def relist (n : SeatNo) (level : Level) (s : State) : State :=
  if 64 ≤ s.fill || (s.entryOf n).isSome then s
  else
    let sp := (s.seat n).cfg.speak
    let s := s.insertBy placeRelisted
      { seat := n, kind := .speak, claimed := level, effective := effectiveLevel level sp, arrival := 0
        clamped := isClamped level sp, exhausted := false, relisted := true, upgraded := false }
    s.notice .listed (some n) none (some .displaced)

/-- The entries without the one of a seat. -/
def without (l : List Entry) (n : SeatNo) : List Entry := l.filter fun e => e.seat != n

/-- What a removal does beside the seat's floor state: the entry leaves, the UNLISTED notice, restraint, the marks
(R70, R71). -/
def takeOut (n : SeatNo) (r : Reason) (s : State) : State :=
  let before := s.list.entries
  let s := s.withList { s.list with entries := without before n }
  let s := s.notice .unlisted (some n) none (some r)
  let s := s.setRestraint (restraintAfterRemoval s.floorCfg s.list.restraint s.fill)
  (s.mark n).markMoved before

/-- One entry is removed with a reason other than GRANTED; a seat without an entry changes nothing (R70, R73). -/
def removeEntry (n : SeatNo) (r : Reason) (s : State) : State :=
  if (s.entryOf n).isSome then (s.seatFloor n .idle none).takeOut n r else s

/-- Every entry is removed, from the tail to the head (R72). -/
def bulkRemove (r : Reason) (s : State) : State :=
  (s.list.entries.map Entry.seat).reverse.foldl (fun s n => s.removeEntry n r) s

/-- An entry changed in its place. -/
def replaceEntry (l : List Entry) (n : SeatNo) (f : Entry → Entry) : List Entry :=
  l.map fun e => if e.seat = n then f e else e

/-- Move a seat's entry to the place R65 gives it, and mark each seat whose position changed (R68). -/
def reposition (n : SeatNo) (s : State) : State :=
  match s.entryOf n with
  | none => s
  | some e =>
    let before := s.list.entries
    (s.withList { s.list with entries := placeEntry e (without before n) }).markMoved before

/-- Recompute the EXHAUSTED flag of a seat's entry (R77). -/
def refreshExhausted (n : SeatNo) (s : State) : State :=
  s.withList { s.list with entries := replaceEntry s.list.entries n fun e => { e with exhausted := s.isExhausted n } }

/-- Recompute a WAITING seat's effective level and CLAMPED from its stored claim, reposition it if the level changed,
and refresh EXHAUSTED (R74). -/
def reclamp (n : SeatNo) (s : State) : State :=
  match s.entryOf n with
  | none => s
  | some e =>
    let ent := (s.seat n).cfg.entitled e.kind
    let eff := effectiveLevel e.claimed ent
    let s := s.withList { s.list with entries := replaceEntry s.list.entries n fun e =>
      { e with effective := eff, clamped := isClamped e.claimed ent } }
    let s := if eff = e.effective then s else s.reposition n
    s.refreshExhausted n

/-! ### Grants and closes -/

/-- A grant can be made: the seat is PRESENT and not SPEAKING, and a channel is FREE (R88). -/
def canGrant (s : State) (n : SeatNo) : Bool :=
  (s.seat n).run.present && (s.seat n).run.floor != .speaking && s.lowestFree.isSome

/-- The record a grant sets (R86, R87). -/
def grantedChannel (s : State) (n : SeatNo) (k : TurnKind) (level : Level) (asHolder : Bool) : Channel :=
  let kind := grantKind (s.seat n).cfg.cls k
  let causes := s.grantCauses n kind asHolder
  { state := if causes.1 || causes.2 then .held else .opened
    seat := some n, kind := some kind, level := some level, priority := causes.1, suspend := causes.2
    timer := startTimer s.classes kind (s.seat n).cfg (s.seat n).run.budget
    detector := quietDetector }

/-- A WAITING seat's entry leaves with GRANTED, within the act of its grant (R71). -/
def takeGranted (n : SeatNo) (s : State) : State := if (s.entryOf n).isSome then s.takeOut n .granted else s

/-- A grant on a path that gives a kind and a grant level; a grant that R88 rules out changes nothing (R87, R88). -/
def grant (n : SeatNo) (k : TurnKind) (level : Level) (asHolder : Bool) (s : State) : State :=
  if s.canGrant n then
    match s.lowestFree with
    | none => s
    | some c =>
      let s := s.takeGranted n
      let ch := s.grantedChannel n k level asHolder
      let s := s.setChan c ch
      let s := s.withGrantOrder (s.grantOrder ++ [c])
      let s := s.seatFloor n .speaking (some c)
      let s := s.mark n
      let s := s.notice .granted (some n) (some c) none
      if ch.state = .held then
        s.notice .held (some n) (some c) (some (if ch.priority then .priority else .suspend))
      else s
  else s

/-- The deduction of a close: the used count leaves the seat's budget where a budget applies (R140). -/
def deduct (n : SeatNo) (used : Nat) (s : State) : State :=
  if s.applies n then s.updRun n fun r => { r with budget := r.budget - used } else s

/-- A close is taken only of a busy channel that the seat it names holds (R91). -/
def canClose (s : State) (c : ChanNo) (n : SeatNo) : Bool := (s.chan c).busy && (s.chan c).seat == some n

/-- Steps 1 to 6 of a close (R89); the fill rule of step 7 is its caller's. -/
def closeChannel (c : ChanNo) (n : SeatNo) (r : Reason) (s : State) : State :=
  if s.canClose c n then
    let s := s.deduct n (s.chan c).timer.used
    let s := s.updChan c fun k =>
      { k with state := .free, seat := none, kind := none, level := none, priority := false, suspend := false }
    let s := s.withGrantOrder (s.grantOrder.erase c)
    let s := s.seatFloor n .idle none
    let s := s.mark n
    s.notice .closed (some n) (some c) (some r)
  else s

/-- One pass of the fill rule after another, as long as a place, a FREE channel and an eligible entry are there
(R105). -/
def fillLoop : Nat → State → State
  | 0, s => s
  | k + 1, s =>
    if s.floorCfg.limit ≤ s.nonChairCount || s.lowestFree.isNone then s
    else
      match s.firstEligible with
      | none => s
      | some e => fillLoop k (s.grant e.seat e.kind.turn e.effective false)

/-- The fill rule (R105). Each pass takes a FREE channel, so 16 passes are enough. -/
def fillRule (s : State) : State :=
  if s.floor = .opened && s.floorCfg.mode != .directed then s.fillLoop 16 else s

/-- A close whose fill rule runs at once (R92); a close that is not taken runs none (R91). -/
def closeAndFill (c : ChanNo) (n : SeatNo) (r : Reason) (s : State) : State :=
  if s.canClose c n then (s.closeChannel c n r).fillRule else s

/-- Close a busy channel of whichever seat holds it, without a fill rule. -/
def closeBusy (c : ChanNo) (r : Reason) (s : State) : State :=
  match (s.chan c).seat with
  | some n => s.closeChannel c n r
  | none => s

/-- The close of a SPEAKING seat's channel, with its fill rule; a seat that is not SPEAKING changes nothing. -/
def closeSeat (n : SeatNo) (r : Reason) (s : State) : State :=
  match (s.seat n).run.chan with
  | some c => s.closeAndFill c n r
  | none => s

/-! ### Hold causes and the priority holder set -/

/-- A channel carries a cause. -/
def carries (k : Channel) : Cause → Bool
  | .priority => k.priority
  | .suspend => k.suspend

/-- A channel record with one cause added or removed. -/
def causeSet (k : Channel) (x : Cause) (v : Bool) : Channel :=
  match x with
  | .priority => { k with priority := v }
  | .suspend => { k with suspend := v }

/-- The reason a cause gives to a HELD or RELEASED notice (R96). -/
def causeReason : Cause → Reason
  | .priority => .priority
  | .suspend => .suspend

/-- Mark the seat of a channel, if it has one. -/
def markOpt (n : Option SeatNo) (s : State) : State :=
  match n with
  | some n => s.mark n
  | none => s

/-- Add a hold cause to a busy channel; an OPEN channel becomes HELD (R96). -/
def addCause (c : ChanNo) (x : Cause) (s : State) : State :=
  let k := s.chan c
  if !k.busy || carries k x then s
  else
    let s := s.setChan c { causeSet k x true with state := .held }
    if k.hasCause then s
    else (s.notice .held k.seat (some c) (some (causeReason x))).markOpt k.seat

/-- Remove a hold cause from a busy channel; a channel whose set becomes empty becomes OPEN (R96). -/
def removeCause (c : ChanNo) (x : Cause) (s : State) : State :=
  let k := s.chan c
  if !k.busy || !carries k x then s
  else
    let k' := causeSet k x false
    if k'.hasCause then s.setChan c k'
    else
      ((s.setChan c { k' with state := .opened }).notice .released k.seat (some c) (some (causeReason x))).markOpt k.seat

/-- A seat number added to a set held in ascending order. -/
def insertAsc (n : SeatNo) (l : List SeatNo) : List SeatNo := l.filter (· < n) ++ n :: l.filter (n < ·)

/-- A seat joins the priority holder set, and PRIORITY follows (R94). -/
def joinHolders (n : SeatNo) (s : State) : State :=
  if s.holders.contains n then s
  else
    let first := s.holders.isEmpty
    let s := s.withHolders (insertAsc n s.holders)
    if first then
      s.grantOrder.foldl (fun s c => if (s.chan c).seat = some n then s else s.addCause c .priority) s
    else
      match (s.seat n).run.chan with
      | some c => s.removeCause c .priority
      | none => s

/-- A seat leaves the priority holder set, and PRIORITY follows (R94). -/
def leaveHolders (n : SeatNo) (s : State) : State :=
  if s.holders.contains n then
    let s := s.withHolders (s.holders.erase n)
    if s.holders.isEmpty then s.grantOrder.foldl (fun s c => s.removeCause c .priority) s
    else
      match (s.seat n).run.chan with
      | some c => s.addCause c .priority
      | none => s
  else s

/-! ### Displacement, chair grants and NEXT -/

/-- Close a channel with DISPLACED and relist its seat if relist displaced is set (R108 steps 1 and 2). -/
def displace (c : ChanNo) (s : State) : State :=
  match (s.chan c).seat, (s.chan c).level with
  | some n, some l =>
    let s := s.closeChannel c n .displaced
    if s.floorCfg.relist then s.relist n l else s
  | _, _ => s

/-- The channel a displacement takes for an entry's level (R107). -/
def victim (s : State) (level : Level) : Option ChanNo :=
  s.grantOrder.find? fun c => (s.chan c).nonChair && ((s.chan c).level.map fun l => decide (level ≤ l)).getD false

/-- The conditions under which displacement takes place for an entry just accepted or upgraded (R107). -/
def mayDisplace (s : State) (e : Entry) : Bool :=
  s.floor == .opened && s.floorCfg.mode == .override && s.firstEligible == some e
    && s.floorCfg.limit ≤ s.nonChairCount

/-- Request Admission hands on an entry: displacement is considered for it, and then the fill rule runs (R54, R107,
R108). -/
def handOn (n : SeatNo) (s : State) : State :=
  match s.entryOf n with
  | none => s.fillRule
  | some e =>
    match if s.mayDisplace e then s.victim e.effective else none with
    | none => s.fillRule
    | some c => ((s.displace c).grant n e.kind.turn e.effective false).fillRule

/-- A chair grant; `asHolder` at the priority key (R109). -/
def chairGrant (n : SeatNo) (asHolder : Bool) (s : State) : State :=
  if s.lowestFree.isSome then s.grant n .chair (s.seat n).cfg.speak asHolder
  else
    match s.oldestNonChair with
    | none => s
    | some c => ((s.displace c).grant n .chair (s.seat n).cfg.speak asHolder).fillRule

/-- Close the oldest non-chair channels with NEXT_SPEAKER until the count is below the limit (R110 step 3). -/
def closeDown : Nat → State → State
  | 0, s => s
  | k + 1, s =>
    if s.floorCfg.limit ≤ s.nonChairCount then
      match s.oldestNonChair with
      | some c => closeDown k (s.closeBusy c .nextSpeaker)
      | none => s
    else s

/-- Steps 5 and 6 of NEXT: the first eligible entry is granted, and the fill rule runs (R110). -/
def grantNext (s : State) : State :=
  match s.firstEligible with
  | some e => (s.grant e.seat e.kind.turn e.effective false).fillRule
  | none => s

/-- NEXT, with the status management is answered (R110). -/
def next (s : State) : State × Status :=
  if s.floor ≠ .opened then (s, .refusedState)
  else if s.firstEligible.isNone then (s, .nothing)
  else if s.floorCfg.limit ≤ s.nonChairCount then ((s.closeDown 16).grantNext, .done)
  else if s.lowestFree.isSome then (s.grantNext, .done)
  else
    match s.oldestNonChair with
    | some c => ((s.closeBusy c .nextSpeaker).grantNext, .done)
    | none => (s, .refusedLimit)

/-! ### Budgets -/

/-- Mark a seat for a change of its budget, where R9 calls for it. -/
def markBudget (n : SeatNo) (s : State) : State :=
  if (s.seat n).run.offFloor && s.floorCfg.showBudget && s.applies n then s.mark n else s

/-- Mark a seat for a change of whether a budget applies to it, where R9 calls for it. -/
def markApplies (n : SeatNo) (s : State) : State :=
  if (s.seat n).run.offFloor && s.floorCfg.showBudget then s.mark n else s

/-- Change every seat record alike. -/
def mapSeats (f : SeatRecord → SeatRecord) (s : State) : State :=
  s.withSeats (seatTable (s.seats.toList.map f) (by simp))

/-- A budget set to the initial budget of the seat's class. -/
def initialBudget (t : ClassTable) (r : SeatRecord) : SeatRecord :=
  { r with run := { r.run with budget := (t.record r.cfg.cls).initial } }

/-- Recompute EXHAUSTED of every entry (R77). -/
def refreshAll (s : State) : State :=
  s.withList { s.list with entries := s.list.entries.map fun e => { e with exhausted := s.isExhausted e.seat } }

/-- Every budget is set to the initial budget of its class, then every entry's EXHAUSTED is refreshed, then the marks of
R9 are made, ABSENT seats with them (R10, R11, R21; notes/assumptions/13.md). -/
def initialBudgets (s : State) : State :=
  let changed := s.seatsWhere fun _ r => r.run.budget != (s.classes.record r.cfg.cls).initial
  let s := (s.mapSeats (initialBudget s.classes)).refreshAll
  changed.foldl (fun s n => s.markBudget n) s

/-- The budget reload, but for the fill rule that follows it (R11). -/
def reload (s : State) : State := s.initialBudgets

/-! ### Presence and absence -/

/-- The first pass of the absence cascade for one seat (R17). -/
def goAbsent (n : SeatNo) (s : State) : State :=
  let s := s.updRun n fun r =>
    { r with present := false, unitKind := none, mismatch := false, down1 := false, down2 := false, down3 := false
             refusalShown := false }
  (((s.setRefusal n none).leaveHolders n).removeEntry n .absent)

/-- The absence cascade of a group of seats in ascending order: two passes, the SEAT_ABSENT notices, the marks (R17). -/
def cascade (group : List SeatNo) (s : State) : State :=
  let s := group.foldl (fun s n => s.goAbsent n) s
  let s := group.foldl (fun s n => s.closeSeat n .seatLost) s
  let s := group.foldl (fun s n => s.notice .seatAbsent (some n) none none) s
  s.markAll group

/-- The PRESENT seats whose branch under one table differs from their branch under the present one (R18). -/
def movedSeats (before : BranchTable) (s : State) : List SeatNo :=
  s.seatsWhere fun n r => r.run.present && before.branchOf n != s.branches.branchOf n

/-- Each branch port removes from its set the seats that no longer lie in its branch's range (R38). -/
def prune (s : State) : State :=
  branchIds.foldl (fun s b => s.updPort b fun p =>
    { p with cmdSet := p.cmdSet.filter fun n => s.branches.branchOf n == some b }) s

/-- The seats a shortened presence timeout makes absent at once, each with its own cascade (R16, R165); in ascending
order (notes/assumptions/7.md). -/
def expireOverdue (before : Nat) (s : State) : State :=
  if s.floorCfg.presenceMs < before then
    (s.seatsWhere fun _ r => r.run.present && s.floorCfg.presenceMs < s.now - r.run.lastHeard).foldl
      (fun s n => s.cascade [n]) s
  else s

/-- The marks take their clamped values, and restraint is re-evaluated (R79). -/
def reviewRestraint (s : State) : State :=
  s.setRestraint (restraintAfterMarks s.floorCfg s.list.restraint s.fill)

/-! ### The reply queue and the counters -/

/-- A reply fills the place its frame reserved at the tail of the queue (R39); while the uplink is DOWN it is
discarded as it is built (R24). -/
def pushReply (r : Reply) (s : State) : State :=
  if s.uplink.up then s.withUplink { s.uplink with replies := s.uplink.replies ++ [.built r] } else s

/-- A place stays reserved at the tail of the reply queue (R39). -/
def pushPlace (p : ReplyPlace) (s : State) : State :=
  s.withUplink { s.uplink with replies := s.uplink.replies ++ [p] }

/-- A place is the one reserved for the profile operation in flight. -/
def isProfilePlace : ReplyPlace → Bool
  | .profileOp _ => true
  | _ => false

/-- The reply of the STORE or RECALL in flight is built in its place, or discarded with its place while the uplink is
DOWN (R24, R39). -/
def completeProfile (st : Status) (s : State) : State :=
  s.withUplink { s.uplink with replies :=
    if s.uplink.up then s.uplink.replies.map fun p =>
      match p with
      | .profileOp tag => .built { tag := tag, status := st, data := [], resets := false }
      | p => p
    else s.uplink.replies.filter fun p => !isProfilePlace p }

/-- MGMT_ERR is incremented (R39). -/
def countMgmtErr (s : State) : State := s.withMgmt { s.mgmt with mgmtErr := bump s.mgmt.mgmtErr }

/-- The reset that RESET asked for falls due (R174). -/
def resetDue (s : State) : State := s.withStartUp { s.startUp with reset := .due }

/-! ### Links, the profile memory and the reset -/

/-- The uplink goes UP, with its LINK notice (R22, R24). -/
def raiseUplink (s : State) : State :=
  (s.withUplink { s.uplink with up := true }).notice .link none none (some (.linkUp .uplink))

/-- A branch port goes UP, with its LINK notice (R22, R23). -/
def raiseBranch (b : BranchId) (s : State) : State :=
  (s.updPort b fun p => { p with up := true }).notice .link none none (some (.linkUp (.branch b)))

/-- The profile memory as a store that is cut off leaves it: the words written so far over the old ones, and the check
word only if stage 3 was passed (R171, R176). The words are those of the working configuration at the cut
(notes/assumptions/24.md), written in ascending order (notes/assumptions/3.md). -/
def cutWords (s : State) : List Half × Option Half :=
  let new := profileWords s.configuration
  let reach := Config.storeReach s.free
  (new.take reach ++ s.profile.words.drop (min reach new.length),
    if new.length < reach then some (checkWord new) else none)

/-- A STORE or RECALL in flight is abandoned at once; its reserved reply place is freed without a reply (R174, R176). -/
def abandonProfile (s : State) : State :=
  let s := s.withUplink { s.uplink with replies := s.uplink.replies.filter fun p => !isProfilePlace p }
  match s.profile.op with
  | none => s
  | some (.recall _) => s.withProfile { s.profile with op := none }
  | some (.store _) =>
    (s.withProfile { s.profile with words := s.cutWords.1, check := s.cutWords.2, op := none }).withFree (s.free + 1)

/-- Step 1 to 3 of the reset sequence: every block at its after-reset values on the default configuration, the reset
cause, RECALLING, and each port UP at once if its transceiver reports carrier (R42, R174). -/
def restart (cause : ResetCause) (status : ProfileStatus) (s : State) : State :=
  let s := s.abandonProfile
  let s : State :=
    { State.reset with
      now := s.now
      seats := everySeat ⟨defaultSeatConfig, resetRun s.now defaultClasses.delegate.initial⟩
      ports := ⟨resetPort s.ports.a.carrier, resetPort s.ports.b.carrier, resetPort s.ports.c.carrier,
        resetPort s.ports.d.carrier⟩
      uplink := resetUplink s.uplink.carrier
      profile := { s.profile with status := status }
      startUp := ⟨.recalling, s.now, cause, .none, false⟩
      free := s.free
      pending := s.pending }
  let s := if s.uplink.carrier then s.raiseUplink else s
  branchIds.foldl (fun s b => if (s.port b).carrier then s.raiseBranch b else s) s

/-- The configuration part of every seat record is replaced (R172). -/
def replaceSeats (v : Vector SeatConfig 1024) (s : State) : State :=
  s.withSeats (seatTable (List.zipWith (fun c r => { r with cfg := c }) v.toList s.seats.toList) (by simp))

/-- The time display of a seat off the floor shows its budget (R37). -/
def showsBudget (t : ClassTable) (f : FloorConfig) (r : SeatRecord) : Bool :=
  r.run.present && r.run.offFloor && f.showBudget && budgetApplies t r.cfg

/-- A recall's replacement of the configuration, with its consequences in the order of R172. The floor record takes
effect at the fourth of them (notes/assumptions/8.md). -/
def replaceConfiguration (g : Configuration) (s : State) : State :=
  let old := s
  let s := ((s.replaceSeats g.seats).withClasses g.classes).withBranches g.branches
  let s := s.prune
  let s := s.cascade (s.movedSeats old.branches)
  let s := s.withHolders (s.holders.filter fun n => (s.seat n).cfg.cls == .chair)
  let s := s.mapSeats fun r => { r with run := { r.run with mismatch := mismatchOf r.run.unitKind r.cfg.cls } }
  let s := (s.withFloorCfg g.floorCfg).reviewRestraint
  let s := s.expireOverdue old.floorCfg.presenceMs
  s.markAll (s.seatsWhere fun n r =>
    r.run.present && showsBudget old.classes old.floorCfg (old.seat n) != showsBudget s.classes s.floorCfg r)

end State
end Sys2Proof.Machine
end

