-- ==== Sys2Proof/Machine/Admission.lean ====
section
/-! DEFINITION. Seat presence and Request Admission: seat reports, press counts, the meaning of each key, admission,
upgrades, the priority key and the refusal display (R13 to R15, R45 to R59). -/

namespace Sys2Proof.Machine

namespace State

/-- Refuse an act: the refusal display and the REFUSED notice (R58). -/
def refuse (n : SeatNo) (r : Reason) (s : State) : State :=
  (((s.updRun n fun x => { x with refusalShown := true }).setRefusal n (some s.now)).mark n).notice
    .refused (some n) none (some r)

/-- End a seat's refusal display, if one is showing (R59). -/
def endDisplay (n : SeatNo) (s : State) : State :=
  if (s.seat n).run.refusalShown then
    ((s.updRun n fun x => { x with refusalShown := false }).setRefusal n none).mark n
  else s

/-- A new request of a kind with a claimed level, through the checks of R53 (R52 to R54). -/
def newRequest (n : SeatNo) (k : RequestKind) (claimed : Level) (s : State) : State :=
  let ent := (s.seat n).cfg.entitled k
  let eff := effectiveLevel claimed ent
  match s.admissionRefusal n eff with
  | some r => s.refuse n r
  | none =>
    let s := s.insertEntry
      { seat := n, kind := k, claimed := claimed, effective := eff, arrival := 0, clamped := isClamped claimed ent
        exhausted := false, relisted := false, upgraded := false }
    (s.notice .listed (some n) none none).handOn n

/-- A WAITING seat's SPEAK entry becomes an ORDER entry in place (R56). -/
def upgrade (n : SeatNo) (claimed : Level) (s : State) : State :=
  if (s.seat n).cfg.barred then s.refuse n .barred
  else
    let ent := (s.seat n).cfg.entitled .order
    let s := s.withList { s.list with entries := replaceEntry s.list.entries n fun e =>
      { e with kind := .order, claimed := claimed, effective := effectiveLevel claimed ent
               clamped := isClamped claimed ent, upgraded := true } }
    let s := (s.reposition n).refreshExhausted n
    (s.notice .listed (some n) none none).handOn n

/-- A KEY1 press act, once the refusal display has ended (R48, R57). -/
def key1Act (n : SeatNo) (claimed : Level) (s : State) : State :=
  let c := (s.seat n).cfg
  match (s.seat n).run.floor with
  | .idle =>
    if c.cls = .chair then (if c.barred then s.refuse n .barred else s.chairGrant n false)
    else s.newRequest n .speak claimed
  | .waiting => s.removeEntry n .withdrawn
  | .speaking => if c.keyClose then s.closeSeat n .seatClosed else s

/-- A KEY2 press act of a seat whose class is not CHAIR (R49). -/
def key2Act (n : SeatNo) (claimed : Level) (s : State) : State :=
  match (s.seat n).cfg.order with
  | none => s.key1Act n claimed
  | some _ =>
    match (s.seat n).run.floor with
    | .idle => s.newRequest n .order claimed
    | .waiting =>
      match (s.entryOf n).map Entry.kind with
      | some .speak => s.upgrade n claimed
      | some .order => s.removeEntry n .withdrawn
      | none => s
    | .speaking => s

/-- The KEY2 level of a CHAIR seat, with the level held before it (R50). -/
def priorityKey (n : SeatNo) (down wasDown : Bool) (s : State) : State :=
  if down then
    if s.holders.contains n then s
    else if (s.seat n).cfg.barred then (if wasDown then s else s.refuse n .barred)
    else
      let s := if (s.seat n).run.floor = .speaking then s else s.chairGrant n true
      s.joinHolders n
  else s.leaveHolders n

/-- A KEY3 press act of a CHAIR seat: NEXT, without a reply (R51). -/
def chairNext (n : SeatNo) (s : State) : State :=
  if (s.seat n).cfg.barred then s.refuse n .barred else s.next.1

/-- The steps of one report's acts in READY, in the order of R47. -/
def takeActs (n : SeatNo) (r : Report) (d1 d2 d3 : BitVec 4) (wasDown2 : Bool) (s : State) : State :=
  let chair := (s.seat n).cfg.cls = .chair
  let s := if isCancelled d1 || isCancelled d2 || isCancelled d3 then s.mark n else s
  let s := if isPress d1 then (s.endDisplay n).key1Act n r.claimed else s
  let s :=
    if chair then s.priorityKey n r.down2 wasDown2
    else if isPress d2 then (s.endDisplay n).key2Act n r.claimed else s
  if isPress d3 && decide chair then (s.endDisplay n).chairNext n else s

/-- The fields every valid report records: presence, the moment, the unit kind, mismatch, the references and the levels
(R13, R14, R19, R20). -/
def recordReport (n : SeatNo) (r : Report) (s : State) : State :=
  s.updRun n fun x =>
    { x with
      present := true, lastHeard := s.now, unitKind := some r.unit
      mismatch := mismatchOf (some r.unit) (s.seat n).cfg.cls
      ref1 := r.count1, ref2 := r.count2, ref3 := r.count3
      down1 := r.down1, down2 := r.down2, down3 := r.down3 }

/-- A report from an ABSENT seat makes it PRESENT (R13). -/
def becomePresent (n : SeatNo) (r : Report) (s : State) : State :=
  let s := s.recordReport n r
  let s :=
    if (s.seat n).cfg.cls = .chair && s.startUp.state != .rollCall then s.priorityKey n r.down2 false else s
  (s.mark n).notice .seatPresent (some n) none none

/-- The ordinary report of a PRESENT seat: recorded, and in READY acted on (R14, R46, R47). -/
def ordinaryReport (n : SeatNo) (r : Report) (s : State) : State :=
  let x := (s.seat n).run
  let s := s.recordReport n r
  if s.startUp.state = .ready then
    s.takeActs n r (pressDifference r.count1 x.ref1) (pressDifference r.count2 x.ref2)
      (pressDifference r.count3 x.ref3) x.down2
  else s

/-- A report that passed its port's checks (R13 to R15); set aside during RECALLING (R175). -/
def takeReport (n : SeatNo) (r : Report) (s : State) : State :=
  if s.startUp.state = .recalling then s
  else if !(s.seat n).run.present then s.becomePresent n r
  else if r.attach then (s.cascade [n]).becomePresent n r
  else s.ordinaryReport n r

end State
end Sys2Proof.Machine
end

