-- ==== Sys2Proof/Machine/Start.lean ====
section
/-! DEFINITION. The resets and the start-up sequence (R174, R175). -/

namespace Sys2Proof.Machine

namespace State

/-- The RESET reply is in transmission. -/
def sendingReset (s : State) : Bool := (s.uplink.tx.map UplinkTx.resets).getD false

/-- The recall of start-up makes its replacement, the budgets take their initial values with the marks of R9, and the
roll call begins (R10, R21, R174). Open at start as recalled is kept for the change to READY (R175;
notes/assumptions/25.md). -/
def startUpRecall (s : State) : State :=
  let g := s.profile.recalled
  let s := s.withProfile { s.profile with status := s.profile.recalledStatus }
  let s := s.replaceConfiguration g
  let s := s.initialBudgets
  s.withStartUp { s.startUp with state := .rollCall, since := s.now, opens := g.floorCfg.openAtStart }

/-- The roll call has lasted its 2,000 ms (R174). -/
def rollCallOver (s : State) : Bool := s.startUp.state == .rollCall && s.startUp.since + rollCallMs ≤ s.now

end State

/-- POWER_UP_RESET (R174): from any state; the profile status becomes DEFAULTED (R170). -/
def execPowerUpReset (s : State) : Out := .next (s.restart .power .defaulted)

/-- COMMAND_RESET (R174): the reset a RESET asked for, due since its reply was sent or discarded, or falling due with
the completion of the reply in transmission; otherwise no reset was asked for and nothing happens. -/
def execCommandReset (s : State) : Out :=
  .next (if s.startUp.reset = .due || s.sendingReset then s.restart .command s.profile.status else s)

/-- START_UP_RECALL_COMPLETE (R174): in RECALLING. -/
def execStartUpRecallComplete (s : State) : Out :=
  .next (if s.startUp.state = .recalling then s.startUpRecall else s)

/-- START_UP_READY (R174, R175): at the end of ROLL_CALL; the floor opens if the recall of start-up loaded open at start
as yes, without a budget reload. A FLOOR row written in ROLL_CALL has no part in it (R165 step 6). -/
def execStartUpReady (s : State) : Out :=
  .next (if s.rollCallOver then
    let s := s.withStartUp { s.startUp with state := .ready, since := s.now }
    if s.startUp.opens then (s.withFloor .opened).fillRule else s
  else s)

end Sys2Proof.Machine
end

