-- ==== Sys2Proof/Machine/Timers.lean ====
section
/-! DEFINITION. The timed events of seats and channels: presence timeout, refusal timer, refresh and the elapsed second
(R16, R34, R59, R132 to R137). Each is tested against the time base when it is taken: one whose time was restarted by an
event taken first does not happen (R16, R59, R91; notes/assumptions/5.md). -/

namespace Sys2Proof.Machine

namespace State

/-- The presence timeout of a seat has expired: the seat is PRESENT, and the presence timeout as it stands has passed
since its last-heard time (R16). A report taken first restarts it, and the expiry of the timeout so restarted is the one that
applies the cascade to what the report's presses made (R61, last row; notes/assumptions/23.md). -/
def presenceExpired (s : State) (n : SeatNo) : Bool :=
  (s.seat n).run.present && s.floorCfg.presenceMs ≤ s.now - (s.seat n).run.lastHeard

/-- A seat's refusal timer runs and was last started 2,000 ms ago (R45). -/
def refusalExpired (s : State) (n : SeatNo) : Bool :=
  match s.refusalOf n with
  | some k => k + refusalMs ≤ s.now
  | none => false

/-- 5,000 ms have passed since the last command time of a PRESENT seat (R34). -/
def refreshPassed (s : State) (n : SeatNo) : Bool :=
  (s.seat n).run.present && refreshMs ≤ s.now - (s.seat n).run.lastCommand

/-- A channel is OPEN with its sub-second phase at 999, where the next millisecond completes a second (R130, R131). -/
def secondPassed (s : State) (c : ChanNo) : Bool := (s.chan c).state == .opened && 999 ≤ (s.chan c).timer.phase

/-- The warning check of an elapsed second: the threshold is above 0, the flag is clear, and the value is at or below
the threshold (R135). -/
def warns (s : State) (k : TurnKind) (n : SeatNo) (warned : Bool) (v : Mmss) : Bool :=
  let w := warningOf s.classes k (s.seat n).cfg.cls
  0 < w && !warned && v.seconds ≤ w

/-- A countdown's elapsed second: decrement, warning check, expiry check (R133, R135 to R137). -/
def countDown (c : ChanNo) (n : SeatNo) (k : TurnKind) (s : State) : State :=
  let t := (s.chan c).timer
  let v := t.value.pred
  let warn := s.warns k n t.warned v
  let s := s.updChan c fun x => { x with timer := { x.timer with value := v, warned := t.warned || warn } }
  let s := if warn then s.notice .warning (some n) (some c) none else s
  if v = zeroTime then
    match expiryOf s.classes k (s.seat n).cfg.cls with
    | .cut => s.closeAndFill c n .timeUp
    | .overrun =>
      (s.updChan c fun x => { x with timer := { x.timer with mode := .overtime, value := zeroTime } }).notice
        .expired (some n) (some c) none
  else s

/-- An elapsed second of a channel, taken as one act: the phase returns to 0, the used count rises, the value is
stepped, and the seat is marked if what it shows has changed (R130, R132, R139). -/
def elapse (c : ChanNo) (n : SeatNo) (k : TurnKind) (s : State) : State :=
  let t := (s.chan c).timer
  let s := s.updChan c fun x => { x with timer := { x.timer with phase := 0, used := bump x.timer.used } }
  match t.mode with
  | .countdown => (s.countDown c n k).mark n
  | _ =>
    let v := t.value.succ
    let s := s.updChan c fun x => { x with timer := { x.timer with value := v } }
    if v = t.value then s else s.mark n

end State

/-- PRESENCE_TIMEOUT (R16): the absence cascade of a seat whose presence timeout has expired. -/
def execPresenceTimeout (n : SeatNo) (s : State) : Out := .next (if s.presenceExpired n then s.cascade [n] else s)

/-- REFUSAL_TIMER_EXPIRY (R59): the refusal display of a seat whose timer has run out ends. -/
def execRefusalTimerExpiry (n : SeatNo) (s : State) : Out :=
  .next (if s.refusalExpired n then
    ((s.updRun n fun x => { x with refusalShown := false }).setRefusal n none).mark n
  else s)

/-- COMMAND_REFRESH (R34): a PRESENT seat is marked. -/
def execCommandRefresh (n : SeatNo) (s : State) : Out := .next (if s.refreshPassed n then s.mark n else s)

/-- SECOND_ELAPSED (R132): a second elapses only on an OPEN channel whose phase returns to 0; the turn of a channel
granted again has its phase at 0 (R91, R130, R141). -/
def execSecondElapsed (c : ChanNo) (s : State) : Out :=
  .next (match s.secondPassed c, (s.chan c).seat, (s.chan c).kind with
    | true, some n, some k => s.elapse c n k
    | _, _, _ => s)

end Sys2Proof.Machine
end

