-- ==== Sys2Proof/Machine/Transmit.lean ====
section
/-! DEFINITION. The transmitters: what each arbiter starts when it is free, and the end of a transmission (R32, R35,
R39 to R41). -/

namespace Sys2Proof.Machine

namespace State

/-- A branch transmitter is free to start a frame (R32). -/
def branchFree (s : State) (b : BranchId) : Bool := (s.port b).up && (s.port b).tx.isNone

/-- The uplink transmitter is free to start a frame; the RESET reply is the last frame before the reset (R41, R42). -/
def uplinkFree (s : State) : Bool := s.uplink.up && s.uplink.tx.isNone && s.startUp.reset != .due

/-- The head of the reply queue, if its place holds a built reply (R41). -/
def readyReply (s : State) : Option Reply :=
  match s.uplink.replies.head? with
  | some (.built r) => some r
  | _ => none

/-- The arbiter of a branch chooses the oldest waiting programme frame (R32). -/
def startsProgramme (s : State) (b : BranchId) : Bool := s.branchFree b && !(s.port b).programme.isEmpty

/-- The arbiter of a branch chooses the command for the head of the set (R32). -/
def startsCommand (s : State) (b : BranchId) : Bool :=
  s.branchFree b && (s.port b).programme.isEmpty && !(s.port b).cmdSet.isEmpty

/-- The uplink arbiter chooses the first waiting CHANNEL AUDIO frame (R41). -/
def startsAudio (s : State) : Bool := s.uplinkFree && !s.uplink.audio.isEmpty

/-- The uplink arbiter chooses the reply at the head of the reply queue (R41). -/
def startsReply (s : State) : Bool := s.uplinkFree && s.uplink.audio.isEmpty && s.readyReply.isSome

/-- The uplink arbiter chooses the notice at the head of the notice queue (R41). -/
def startsNotice (s : State) : Bool :=
  s.uplinkFree && s.uplink.audio.isEmpty && s.readyReply.isNone && !s.uplink.notices.isEmpty

/-- The command for the head of a branch's set starts, built from the seat's state at this moment (R35). -/
def startCommand (b : BranchId) (s : State) : State :=
  match (s.port b).cmdSet with
  | [] => s
  | n :: l =>
    let f := seatCommandFrame n (s.seatShow n)
    (s.updPort b fun p => { p with cmdSet := l, tx := some f }).updRun n fun r => { r with lastCommand := s.now }

/-- The oldest waiting programme frame of a branch starts (R32). -/
def startProgramme (b : BranchId) (s : State) : State :=
  match (s.port b).programme with
  | [] => s
  | f :: l => s.updPort b fun p => { p with programme := l, tx := some f }

/-- The first waiting CHANNEL AUDIO frame starts and leaves its place (R40). -/
def startAudio (s : State) : State :=
  match s.uplink.audio with
  | [] => s
  | x :: l => s.withUplink { s.uplink with audio := l, tx := some ⟨audioFrame x, false⟩ }

/-- The built reply at the head of the reply queue starts and frees its place (R39). -/
def startReply (s : State) : State :=
  match s.readyReply with
  | none => s
  | some r => s.withUplink { s.uplink with replies := s.uplink.replies.tail, tx := some ⟨replyFrame r, r.resets⟩ }

/-- The notice at the head of the queue starts and leaves the queue (R41, R168). -/
def startNotice (s : State) : State :=
  match s.uplink.notices with
  | [] => s
  | x :: l => s.withUplink { s.uplink with notices := l, tx := some ⟨noticeFrame x, false⟩ }

/-- The frame in transmission on the uplink completes; the RESET reply's completion makes the reset due (R41, R174). -/
def completeUplink (s : State) : State :=
  match s.uplink.tx with
  | none => s
  | some x =>
    let s := s.withUplink { s.uplink with tx := none }
    if x.resets then s.resetDue else s

end State

/-- SEAT_COMMAND (R35): where the arbiter would not choose it, nothing starts. -/
def execSeatCommand (b : BranchId) (s : State) : Out := .next (if s.startsCommand b then s.startCommand b else s)

/-- PROGRAMME_TRANSMIT (R32). -/
def execProgrammeTransmit (b : BranchId) (s : State) : Out :=
  .next (if s.startsProgramme b then s.startProgramme b else s)

/-- BRANCH_TRANSMIT_COMPLETE (R32): the transmitter is free again. -/
def execBranchTransmitComplete (b : BranchId) (s : State) : Out := .next (s.updPort b fun p => { p with tx := none })

/-- CHANNEL_AUDIO_TRANSMIT (R40, R41). -/
def execChannelAudioTransmit (s : State) : Out := .next (if s.startsAudio then s.startAudio else s)

/-- REPLY_TRANSMIT (R39, R41). -/
def execReplyTransmit (s : State) : Out := .next (if s.startsReply then s.startReply else s)

/-- NOTICE_TRANSMIT (R41, R168). -/
def execNoticeTransmit (s : State) : Out := .next (if s.startsNotice then s.startNotice else s)

/-- UPLINK_TRANSMIT_COMPLETE (R41). -/
def execUplinkTransmitComplete (s : State) : Out := .next s.completeUplink

end Sys2Proof.Machine
end

