-- ==== Sys2Proof/Machine/Clock.lean ====
section
/-! DEFINITION. The millisecond time base: what one millisecond does while no command waits, and which events have then
fallen due (R16, R34, R45, R130, R171, R172, R174; notes/assumptions/4.md). -/

namespace Sys2Proof.Machine

namespace State

/-- A channel's phase after one more millisecond: it advances while OPEN and stands at 999, where the next millisecond
brings the elapsed second (R130, R131). -/
def advancePhase (k : Channel) : Channel :=
  if k.state = .opened then { k with timer := { k.timer with phase := min 999 (k.timer.phase + 1) } } else k

/-- Every channel's phase after one more millisecond. -/
def advancePhases (s : State) : State :=
  s.withChannels ⟨(s.channels.toList.map advancePhase).toArray, by simp⟩

/-- The channels whose next millisecond completes a second (R130). -/
def secondsDue (s : State) : List ChanNo :=
  allChannels.filter s.secondPassed

/-- The seats whose presence timeout has passed (R16). -/
def presenceDue (s : State) : List SeatNo :=
  s.seatsWhere fun _ r => r.run.present && s.floorCfg.presenceMs ≤ s.now - r.run.lastHeard

/-- The seats whose refusal timer has run out (R45). -/
def refusalDue (s : State) : List SeatNo :=
  (List.zip allSeats s.refusal.toList).filterMap fun x =>
    match x.2 with
    | some t => if t + refusalMs ≤ s.now then some x.1 else none
    | none => none

/-- The seats due for a refresh that are not in a command set already (R34). -/
def refreshDue (s : State) : List SeatNo :=
  s.seatsWhere fun n r => r.run.present && refreshMs ≤ s.now - r.run.lastCommand &&
    match s.branches.branchOf n with
    | some b => (s.port b).up && !(s.port b).cmdSet.contains n
    | none => false

/-- The completions the profile store owes by now (R171, R172). -/
def profileDue (s : State) : List Instr :=
  match s.profile.op with
  | some (.store t) => if t + storeMs ≤ s.now then [.storeComplete .good] else []
  | some (.recall t) => if t + recallMs ≤ s.now then [.recallComplete] else []
  | none => []

/-- The start-up events that have fallen due (R174). -/
def startDue (s : State) : List Instr :=
  match s.startUp.state with
  | .recalling => if s.startUp.since + recallMs ≤ s.now then [.startUpRecallComplete] else []
  | .rollCall => if s.startUp.since + rollCallMs ≤ s.now then [.startUpReady] else []
  | .ready => []

/-- What the five arbiters choose to start (R32, R41). -/
def transmitDue (s : State) : List Instr :=
  branchIds.flatMap (fun b =>
    if s.startsProgramme b then [.programmeTransmit b] else if s.startsCommand b then [.seatCommand b] else [])
  ++ (if s.startsAudio then [.channelAudioTransmit] else if s.startsReply then [.replyTransmit]
      else if s.startsNotice then [.noticeTransmit] else [])

/-- The events that have fallen due, in the order the model takes them. -/
def dueEvents (s : State) (seconds : List ChanNo) : List Instr :=
  if s.startUp.reset = .due then [.commandReset]
  else
    s.startDue ++ s.profileDue ++ seconds.map .secondElapsed ++ s.presenceDue.map .presenceTimeout
      ++ s.refusalDue.map .refusalTimerExpiry ++ s.refreshDue.map .commandRefresh ++ s.transmitDue

/-- One millisecond passes: the time base and the phases advance, and the events that have fallen due wait as
commands. -/
def tick (s : State) : State :=
  let due := s.secondsDue
  let s := (s.withNow (s.now + 1)).advancePhases
  s.withPending (s.pending ++ s.dueEvents due)

end State
end Sys2Proof.Machine
end

