-- ==== Sys2Proof/Machine/Links.lean ====
section
/-! DEFINITION. Carrier changes at the five ports (R22 to R24). -/

namespace Sys2Proof.Machine

namespace State

/-- A branch goes DOWN: the frame in transmission, the command set and the waiting programme frames go, the LINK notice
is built, and the branch's PRESENT seats go through the absence cascade (R23). -/
def dropBranch (b : BranchId) (s : State) : State :=
  let s := s.updPort b fun p => { p with up := false, tx := none, cmdSet := [], programme := [] }
  let s := s.notice .link none none (some (.linkDown (.branch b)))
  s.cascade (s.seatsWhere fun n r => r.run.present && s.branches.branchOf n == some b)

/-- A place of the reply queue holds the built RESET reply. -/
def isResetReply : ReplyPlace → Bool
  | .built r => r.resets
  | _ => false

/-- A place of the reply queue holds a built reply. -/
def isBuilt : ReplyPlace → Bool
  | .built _ => true
  | _ => false

/-- The RESET reply waits in the queue or is in transmission. -/
def resetReplyWaits (s : State) : Bool :=
  s.uplink.replies.any isResetReply || (s.uplink.tx.map UplinkTx.resets).getD false

/-- The uplink goes DOWN: the frame in transmission, the waiting channel audio and the built replies go, reservations
and notices stay, and the LINK notice is dropped as it is built (R24). Discarding the RESET reply makes the reset due
(R174). -/
def dropUplink (s : State) : State :=
  let s := if s.resetReplyWaits then s.resetDue else s
  let s := s.withUplink { s.uplink with up := false, tx := none, audio := [],
                                        replies := s.uplink.replies.filter fun p => !isBuilt p }
  s.notice .link none none (some (.linkDown .uplink))

end State

/-- BRANCH_LINK_UP (R22, R23): the transceiver begins to report carrier. -/
def execBranchLinkUp (b : BranchId) (s : State) : Out :=
  let s := s.updPort b fun p => { p with carrier := true }
  .next (if (s.port b).up then s else s.raiseBranch b)

/-- BRANCH_LINK_DOWN (R22, R23): the transceiver stops reporting carrier. -/
def execBranchLinkDown (b : BranchId) (s : State) : Out :=
  let s := s.updPort b fun p => { p with carrier := false }
  .next (if (s.port b).up then s.dropBranch b else s)

/-- UPLINK_UP (R22, R24): the transceiver begins to report carrier. -/
def execUplinkUp (s : State) : Out :=
  let s := s.withUplink { s.uplink with carrier := true }
  .next (if s.uplink.up then s else s.raiseUplink)

/-- UPLINK_DOWN (R22, R24): the transceiver stops reporting carrier. -/
def execUplinkDown (s : State) : Out :=
  let s := s.withUplink { s.uplink with carrier := false }
  .next (if s.uplink.up then s.dropUplink else s)

end Sys2Proof.Machine
end

