-- ==== Sys2Proof/Machine/Reception.lean ====
section
/-! DEFINITION. Frames that finish arriving on a branch: the port checks, seat reports and seat audio (R25 to R29, R97,
R98, R146). -/

namespace Sys2Proof.Machine

namespace State

/-- A forwarded frame fills its channel's waiting place: it replaces a frame that still waits there, or joins the tail
of the sending order (R40). -/
def placeAudio (x : AudioFrame) (l : List AudioFrame) : List AudioFrame :=
  if l.any fun y => y.chan == x.chan then l.map fun y => if y.chan = x.chan then x else y else l ++ [x]

/-- The Channel Table hands a CHANNEL AUDIO frame to the uplink; while the uplink is DOWN it is discarded (R24, R40). -/
def forward (x : AudioFrame) (s : State) : State :=
  if s.uplink.up then s.withUplink { s.uplink with audio := placeAudio x s.uplink.audio } else s

/-- The Voice Monitor measures a block of an OPEN channel, and may close the channel with SILENCE (R146, R149). -/
def measureBlock (c : ChanNo) (n : SeatNo) (samples : List Half) (s : State) : State :=
  let d := measure s.floorCfg (s.chan c).detector (blockLevel samples)
  let s := s.updChan c fun k => { k with detector := d }
  if releasesSilence s.floorCfg (s.chan c).kind d then s.closeAndFill c n .silence else s

/-- A block that its channel takes is forwarded, zeroed and marked held on a HELD channel, and measured on an OPEN one
(R98). -/
def takeBlock (c : ChanNo) (n : SeatNo) (samples : List Half) (s : State) : State :=
  if (s.chan c).state = .held then
    s.forward { chan := c, seat := n, held := true, samples := List.replicate samples.length 0 }
  else (s.forward { chan := c, seat := n, held := false, samples := samples }).measureBlock c n samples

/-- A SEAT AUDIO block handed on by a branch port: taken if the seat owns the named busy channel, stray otherwise
(R97). -/
def seatBlock (b : BranchId) (n : SeatNo) (x : Block) (s : State) : State :=
  if h : x.chan < 16 then
    if s.canClose ⟨x.chan, h⟩ n then s.takeBlock ⟨x.chan, h⟩ n x.samples
    else s.updPort b fun p => { p with audioStray := bump p.audioStray }
  else s.updPort b fun p => { p with audioStray := bump p.audioStray }

/-- The range check of R28: the seat number, if it lies within the branch's range. -/
def inBranch (s : State) (b : BranchId) (n : Nat) : Option SeatNo :=
  if h : n < 1024 then if (s.branches.record b).holds n then some ⟨n, h⟩ else none else none

/-- What a branch port finds in an arriving frame: which of the three checks fails first, or the frame it hands on
(R26 to R29). -/
inductive Arrival where
  | checkErr
  | kindErr
  | rangeErr
  | report (n : SeatNo) (r : Report)
  | audio (n : SeatNo) (x : Block)
deriving DecidableEq, Repr

/-- The second and third checks on a frame that passed the first (R27, R28). -/
def sortFrame (s : State) (b : BranchId) (f : Frame) : Arrival :=
  if frameKind f = some kindSeatReport && (payload f).length = 6 then
    match readReport (payload f) with
    | none => .kindErr
    | some r =>
      match s.inBranch b r.seat with
      | some n => .report n r
      | none => .rangeErr
  else if frameKind f = some kindSeatAudio && (payload f).length = 99 then
    match readBlock (payload f) with
    | none => .kindErr
    | some x =>
      match s.inBranch b x.seat with
      | some n => .audio n x
      | none => .rangeErr
  else .kindErr

/-- The three checks in their order (R26 to R28). -/
def inspect (s : State) (b : BranchId) (f : Frame) : Arrival := if frameOk f then s.sortFrame b f else .checkErr

/-- A frame's reception completes on a branch: nothing arrives while the link is DOWN, a disabled branch discards it
without count, and otherwise the first failing check counts it or it is handed on (R22, R25 to R29). -/
def arrive (b : BranchId) (f : Frame) (s : State) : State :=
  if (s.port b).up && (s.branches.record b).enabled then
    match s.inspect b f with
    | .checkErr => s.updPort b fun p => { p with checkErr := bump p.checkErr }
    | .kindErr => s.updPort b fun p => { p with kindErr := bump p.kindErr }
    | .rangeErr => s.updPort b fun p => { p with rangeErr := bump p.rangeErr }
    | .report n r => s.takeReport n r
    | .audio n x => s.seatBlock b n x
  else s

end State

/-- SEAT_REPORT (R14): the frame's bytes decide, and a frame of the other kind is handled as that kind. -/
def execSeatReport (b : BranchId) (frame : Frame) (s : State) : Out := .next (s.arrive b frame)

/-- SEAT_AUDIO (R97): the frame's bytes decide, and a frame of the other kind is handled as that kind. -/
def execSeatAudio (b : BranchId) (frame : Frame) (s : State) : Out := .next (s.arrive b frame)

end Sys2Proof.Machine
end

