-- ==== Sys2Proof/Machine/Management.lean ====
section
/-! DEFINITION. How the uplink port and the Management Unit take a MANAGEMENT frame, hold operations off, and answer
(R39, R154 to R156, R174). -/

namespace Sys2Proof.Machine

/-- What carrying an operation out leaves for its reply place (R154). -/
inductive Answer where
  /-- the reply is built: its status and its data -/
  | reply (st : Status) (data : List Byte)
  /-- the operation completes later, and the place stays reserved (R154, R171, R172) -/
  | later
  /-- the DONE reply of RESET (R174) -/
  | resetting
deriving DecidableEq, Repr

/-- An operation: its act on the state and its answer. -/
abbrev Body := State → State × Answer

/-- An answer with a status and no data. -/
def only (st : Status) : Answer := .reply st []

/-- DONE, or ADJUSTED if a value was clamped (R155). -/
def doneOr (adjusted : Bool) : Status := if adjusted then .adjusted else .done

/-- The operations as the hold-off table groups them (R156). -/
inductive HoldClass where
  | read | write | floor | profile | reset
deriving DecidableEq, Repr

namespace State

/-- The status that holds an operation off in the present start-up state or while a profile operation is in flight
(R156). -/
def heldOff (s : State) (h : HoldClass) : Option Status :=
  match h, s.startUp.state with
  | .read, _ => none
  | .reset, _ => none
  | _, .recalling => some .busy
  | .floor, .rollCall => some .refusedState
  | .floor, .ready => none
  | _, _ => if s.profile.op.isSome then some .busy else none

/-- The reply place of a taken frame, filled with its answer (R39, R154). -/
def answer (tag : Byte) (a : Answer) (s : State) : State :=
  match a with
  | .reply st data => s.pushReply { tag := tag, status := st, data := data, resets := false }
  | .later => s.pushPlace (.profileOp tag)
  | .resetting => s.pushReply { tag := tag, status := .done, data := [], resets := true }

/-- A MANAGEMENT frame that passed the port: carried out and answered; after RESET it waits unanswered (R154, R174). -/
def manage (tag : Byte) (body : Body) (s : State) : State :=
  if s.startUp.reset = .none then (body s).1.answer tag (body s).2 else s.pushPlace .unanswered

/-- The port takes a frame: it passes its check, carries a tag and an operation, and the reply queue has a free place
(R39). -/
def takesFrame (s : State) (f : Frame) : Bool :=
  frameOk f && 2 ≤ (payload f).length && s.uplink.replies.length < 16

/-- A MANAGEMENT frame finishes arriving on the uplink: nothing arrives while the link is DOWN, and a frame that is not
taken is counted in MGMT_ERR (R22, R39). -/
def receive (f : Frame) (body : Body) (s : State) : State :=
  if s.uplink.up then
    if s.takesFrame f then s.manage ((payload f).headD 0) body else s.countMgmtErr
  else s

end State

/-- An operation under its hold-off (R154 step 2). -/
def held (h : HoldClass) (body : Body) : Body := fun s =>
  match s.heldOff h with
  | some st => (s, only st)
  | none => body s

/-- A command row of the Management Unit: its frame arrives and its operation is carried out. -/
def operate (m : MgmtHead) (o : Op) (fields : List Byte) (body : Body) (s : State) : Out :=
  .next (s.receive (mgmtFrame m o fields) body)

end Sys2Proof.Machine
end

