-- ==== Sys2Proof/Machine/TableWrites.lean ====
section
/-! DEFINITION. The four table writes with their consequences (R161 to R165). -/

namespace Sys2Proof.Machine

namespace State

/-- BARRED was set on a seat: its entry leaves, or its channel closes, with BARRED (R162 step 1). -/
def barSeat (n : SeatNo) (s : State) : State :=
  match (s.seat n).run.floor with
  | .waiting => s.removeEntry n .barred
  | .speaking => s.closeSeat n .barred
  | .idle => s

/-- The class consequences of a write that changed a seat's class (R3, R162 step 4). -/
def classConsequences (n : SeatNo) (before : SeatClass) (s : State) : State :=
  let now := (s.seat n).cfg.cls
  let s := s.updRun n fun r => { r with mismatch := mismatchOf r.unitKind now }
  let s := if before = .chair then s.leaveHolders n else s
  let s := if before = .chair && s.floor == .closed then s.closeSeat n .floorClosed else s
  if now = .chair && (s.seat n).run.present && s.startUp.state == .ready then
    s.priorityKey n (s.seat n).run.down2 false
  else s

/-- The seats of class CHAIR other than one (R4). -/
def otherChairs (s : State) (n : SeatNo) : Nat := (s.seatsWhere fun k r => k != n && r.cfg.cls == .chair).length

/-- A SEAT row write of a seat, with its consequences in the order of R162; no row here is refused. -/
def writeSeat (n : SeatNo) (c : SeatConfig) (budget : Nat) (s : State) : State :=
  let old := s.seat n
  let s := s.setSeat n { cfg := c, run := { old.run with budget := budget } }
  let s := if c.barred && !old.cfg.barred then s.barSeat n else s
  let waits := (s.entryOf n).isSome
  let clamps := waits && (c.cls != old.cfg.cls || c.speak != old.cfg.speak || c.order != old.cfg.order)
  let refreshes := waits && !clamps && (c.exempt != old.cfg.exempt || budget != old.run.budget)
  let s := if clamps then s.reclamp n else s
  let s := if refreshes then s.refreshExhausted n else s
  let s := if c.cls != old.cfg.cls then s.classConsequences n old.cfg.cls else s
  let s := if budget != old.run.budget then s.markBudget n else s
  let s := if s.applies n != budgetApplies s.classes old.cfg then s.markApplies n else s
  if clamps || refreshes then s.fillRule else s

/-- A class record stored. -/
def setClass (c : SeatClass) (r : ClassRecord) (s : State) : State :=
  s.withClasses (match c with
    | .delegate => { s.classes with delegate := r }
    | .official => { s.classes with official := r }
    | .chair => { s.classes with chair := r }
    | .observer => { s.classes with observer := r })

/-- A CLASS row write: a changed budget enforced refreshes the class's waiting entries, marks its seats, and runs the
fill rule (R7, R163). -/
def writeClass (c : SeatClass) (r : ClassRecord) (s : State) : State :=
  let old := s.classes.record c
  let s := s.setClass c r
  if r.enforced = old.enforced then s
  else
    let group := s.seatsWhere fun _ x => x.cfg.cls == c && !x.cfg.exempt
    let s := group.foldl (fun s n => s.refreshExhausted n) s
    (group.foldl (fun s n => s.markApplies n) s).fillRule

/-- A branch record stored. -/
def setBranch (b : BranchId) (r : BranchRecord) (s : State) : State :=
  s.withBranches (match b with
    | .branchA => { s.branches with a := r }
    | .branchB => { s.branches with b := r }
    | .branchC => { s.branches with c := r }
    | .branchD => { s.branches with d := r })

/-- A BRANCH row may not be written: a seat number above 1023, an empty range, one of more than 256 seats, or, for an
enabled row, one that meets the range of another enabled branch (R164). -/
def branchRefused (s : State) (b : BranchId) (r : BranchRecord) : Bool :=
  1023 < r.first || 1023 < r.last || r.last < r.first || 256 < r.last - r.first + 1
    || (r.enabled && branchIds.any fun x =>
      x != b && (s.branches.record x).enabled && r.first ≤ (s.branches.record x).last
        && (s.branches.record x).first ≤ r.last)

/-- A BRANCH row write that is not refused, with its consequences (R164). -/
def writeBranch (b : BranchId) (r : BranchRecord) (s : State) : State :=
  let old := s.branches
  let s := (s.setBranch b r).prune
  s.cascade (s.movedSeats old)

/-- Set the mode and run the fill rule (R116). -/
def takeMode (x : Mode) (s : State) : State := (s.withFloorCfg { s.floorCfg with mode := x }).fillRule

/-- Set the open limit, and run the fill rule if it was raised (R117). -/
def takeLimit (x : Nat) (s : State) : State :=
  let old := s.floorCfg.limit
  let s := s.withFloorCfg { s.floorCfg with limit := x }
  if old < x then s.fillRule else s

/-- Set the gate level and run the fill rule (R118). -/
def takeGate (x : Level) (s : State) : State := (s.withFloorCfg { s.floorCfg with gate := x }).fillRule

/-- A written show budget is taken; a change marks the PRESENT seats off the floor to which a budget applies (R9,
R165 step 5). -/
def takeShowBudget (v : Bool) (s : State) : State :=
  if v = s.floorCfg.showBudget then s
  else
    let s := s.withFloorCfg { s.floorCfg with showBudget := v }
    s.markAll (s.seatsWhere fun _ r => r.run.present && r.run.offFloor && budgetApplies s.classes r.cfg)

/-- A FLOOR row write, its fields clamped already, taken in the order of R165. -/
def writeFloor (f : FloorConfig) (s : State) : State :=
  let s := if f.mode = s.floorCfg.mode then s else s.takeMode f.mode
  let s := if f.limit = s.floorCfg.limit then s else s.takeLimit f.limit
  let s := if f.gate = s.floorCfg.gate then s else s.takeGate f.gate
  let s := (s.withFloorCfg { s.floorCfg with high := f.high, low := f.low }).reviewRestraint
  let s := s.withFloorCfg { s.floorCfg with
    silenceS := f.silenceS, onThreshold := f.onThreshold, offThreshold := f.offThreshold }
  let before := s.floorCfg.presenceMs
  let s := (s.withFloorCfg { s.floorCfg with presenceMs := f.presenceMs }).expireOverdue before
  let s := s.takeShowBudget f.showBudget
  s.withFloorCfg { s.floorCfg with openAtStart := f.openAtStart, relist := f.relist, enables := f.enables }

end State

/-- A WRITE TABLE of a SEAT row (R161, R162). -/
def writeSeatRow (index : Half) (row : List Byte) : Body :=
  match row with
  | [c1, c0, _, _, _, _, b1, b0, _, _, _, _] => held .write fun s =>
    let w := half c1 c0
    if h : index.toNat < 1024 then
      let n : SeatNo := ⟨index.toNat, h⟩
      let c := configOfWord w
      if c.cls = .chair && (s.seat n).cfg.cls != .chair && 8 ≤ s.otherChairs n then (s, only .refusedLimit)
      else (s.writeSeat n c (half b1 b0).toNat, only (doneOr (orderClamped w)))
    else (s, only .refusedRange)
  | _ => fun s => (s, only .unknown)

/-- The class of a CLASS row index (2.8). -/
def classOfIndex (i : Half) : Option SeatClass :=
  match i.toNat with
  | 0 => some .delegate
  | 1 => some .official
  | 2 => some .chair
  | 3 => some .observer
  | _ => none

/-- A WRITE TABLE of a CLASS row (R161, R163). -/
def writeClassRow (index : Half) (row : List Byte) : Body :=
  match readClassRow row with
  | some (r, adjusted) => held .write fun s =>
    match classOfIndex index with
    | some c => (s.writeClass c r, only (doneOr adjusted))
    | none => (s, only .refusedRange)
  | none => fun s => (s, only .unknown)

/-- The branch of a BRANCH row index (2.8). -/
def branchOfIndex (i : Half) : Option BranchId :=
  match i.toNat with
  | 0 => some .branchA
  | 1 => some .branchB
  | 2 => some .branchC
  | 3 => some .branchD
  | _ => none

/-- A WRITE TABLE of a BRANCH row (R161, R164). -/
def writeBranchRow (index : Half) (row : List Byte) : Body :=
  match readBranchRow row with
  | some (r, adjusted) => held .write fun s =>
    match branchOfIndex index with
    | some b =>
      if s.branchRefused b r then (s, only .refusedRange) else (s.writeBranch b r, only (doneOr adjusted))
    | none => (s, only .refusedRange)
  | none => fun s => (s, only .unknown)

/-- A WRITE TABLE of the FLOOR row (R161, R165). -/
def writeFloorRow (index : Half) (row : List Byte) : Body :=
  match readFloorRow row with
  | some (f, adjusted) => held .write fun s =>
    if index = 0 then (s.writeFloor f, only (doneOr adjusted)) else (s, only .refusedRange)
  | none => fun s => (s, only .unknown)

/-- WRITE_TABLE_SEAT (R162). -/
def execWriteTableSeat (m : MgmtHead) (index : Half) (row : List Byte) (s : State) : Out :=
  operate m .writeTable (0 :: bytesOf index ++ row) (writeSeatRow index row) s

/-- WRITE_TABLE_CLASS (R163). -/
def execWriteTableClass (m : MgmtHead) (index : Half) (row : List Byte) (s : State) : Out :=
  operate m .writeTable (1 :: bytesOf index ++ row) (writeClassRow index row) s

/-- WRITE_TABLE_BRANCH (R164). -/
def execWriteTableBranch (m : MgmtHead) (index : Half) (row : List Byte) (s : State) : Out :=
  operate m .writeTable (2 :: bytesOf index ++ row) (writeBranchRow index row) s

/-- WRITE_TABLE_FLOOR (R165). -/
def execWriteTableFloor (m : MgmtHead) (index : Half) (row : List Byte) (s : State) : Out :=
  operate m .writeTable (3 :: bytesOf index ++ row) (writeFloorRow index row) s

end Sys2Proof.Machine
end

