-- ==== Sys2Proof/Machine/FloorCommands.lean ====
section
/-! DEFINITION. The floor commands (R110 to R123). -/

namespace Sys2Proof.Machine

namespace State

/-- Close every busy channel that is not a chair channel with FLOOR_CLOSED, in grant order, each with its fill rule
(R113 step 2). -/
def closeNonChairs (s : State) : State :=
  s.grantOrder.foldl (fun s c =>
    match (s.chan c).seat with
    | some n =>
      if (s.chan c).kind = some .chair && (s.seat n).cfg.cls = .chair then s else s.closeAndFill c n .floorClosed
    | none => s) s

/-- A seat needs a place for a turn of a kind (R119 step 3). -/
def needsPlace (s : State) (k : TurnKind) : Bool :=
  s.lowestFree.isNone || (k != .chair && s.floorCfg.limit ≤ s.nonChairCount)

/-- The kind of a GRANT (R86, R119 step 3). -/
def directKind (s : State) (n : SeatNo) : TurnKind :=
  grantKind (s.seat n).cfg.cls (((s.entryOf n).map fun e => e.kind.turn).getD .speak)

/-- The grant of a GRANT, and its reply with the channel (R119 step 6). -/
def directGrant (n : SeatNo) (k : TurnKind) (s : State) : State × Answer :=
  (s.grant n k (s.seat n).cfg.speak false, .reply .done [chanField s.lowestFree])

/-- GRANT's act for a seat and a force option in range (R119). -/
def grantSeat (n : SeatNo) (force : Bool) (s : State) : State × Answer :=
  let r := s.seat n
  let k := s.directKind n
  if !r.run.present || r.cfg.cls == .observer || r.cfg.barred || r.run.floor == .speaking then (s, only .refusedState)
  else if s.floor = .closed then (s, only .refusedState)
  else if !s.needsPlace k then s.directGrant n k
  else if !force then (s, only .refusedLimit)
  else
    match s.oldestNonChair with
    | none => (s, only .refusedLimit)
    | some c =>
      let r := (s.displace c).directGrant n k
      (r.1.fillRule, r.2)

end State

/-- OPEN FLOOR's act (R112). -/
def openFloor (reload : Byte) : Body := fun s =>
  if 1 < reload.toNat then (s, only .refusedRange)
  else if s.floor ≠ .closed then (s, only .refusedState)
  else
    let s := if reload = 1 then s.reload.fillRule else s
    ((s.withFloor .opened).fillRule, only .done)

/-- CLOSE FLOOR's act (R113). -/
def closeFloor : Body := fun s => (((s.withFloor .closed).closeNonChairs).bulkRemove .floorClosed, only .done)

/-- SUSPEND's act (R95, R114). -/
def suspendFloor : Body := fun s =>
  if s.floor ≠ .opened then (s, only .refusedState)
  else
    let s := s.withFloor .suspended
    (s.grantOrder.foldl (fun s c => if (s.chan c).kind = some .chair then s else s.addCause c .suspend) s, only .done)

/-- RESUME's act (R95, R115). -/
def resumeFloor : Body := fun s =>
  if s.floor ≠ .suspended then (s, only .refusedState)
  else
    let s := s.withFloor .opened
    ((s.grantOrder.foldl (fun s c => s.removeCause c .suspend) s).fillRule, only .done)

/-- SET MODE's act (R116). -/
def setMode (mode : Byte) : Body := fun s =>
  match modeOfCode mode with
  | none => (s, only .refusedRange)
  | some x => (s.takeMode x, only .done)

/-- SET LIMIT's act (R117). -/
def setLimit (limit : Byte) : Body := fun s =>
  (s.takeLimit (clampLimit limit), only (doneOr (clampLimit limit != limit.toNat)))

/-- SET GATE's act (R118). -/
def setGate (gate : Byte) : Body := fun s =>
  (s.takeGate (clampGate gate), only (doneOr ((clampGate gate).val != gate.toNat)))

/-- GRANT's act (R111, R119). -/
def grantBody (seat : Half) (force : Byte) : Body := fun s =>
  if h : seat.toNat < 1024 then
    if 1 < force.toNat then (s, only .refusedRange) else s.grantSeat ⟨seat.toNat, h⟩ (force == 1)
  else (s, only .refusedRange)

/-- END's act (R111, R120). -/
def endBody (selector : Byte) (number : Half) : Body := fun s =>
  if selector = 0 then
    if h : number.toNat < 1024 then
      if (s.seat ⟨number.toNat, h⟩).run.floor = .speaking then (s.closeSeat ⟨number.toNat, h⟩ .ended, only .done)
      else (s, only .nothing)
    else (s, only .refusedRange)
  else if selector = 1 then
    if h : number.toNat < 16 then
      match (s.chan ⟨number.toNat, h⟩).seat with
      | some n => (s.closeAndFill ⟨number.toNat, h⟩ n .ended, only .done)
      | none => (s, only .nothing)
    else (s, only .refusedRange)
  else (s, only .refusedRange)

/-- WITHDRAW's act (R111, R121). -/
def withdrawBody (seat : Half) : Body := fun s =>
  if h : seat.toNat < 1024 then
    if (s.seat ⟨seat.toNat, h⟩).run.floor = .waiting then (s.removeEntry ⟨seat.toNat, h⟩ .operator, only .done)
    else (s, only .nothing)
  else (s, only .refusedRange)

/-- CLEAR LIST's act (R122). -/
def clearList : Body := fun s =>
  if s.list.entries.isEmpty then (s, only .nothing) else (s.bulkRemove .cleared, only .done)

/-- RELOAD BUDGETS's act (R123). -/
def reloadBudgets : Body := fun s => (s.reload.fillRule, only .done)

/-- NEXT's act from management (R110). -/
def nextBody : Body := fun s => (s.next.1, only s.next.2)

/-- OPEN_FLOOR (R112). -/
def execOpenFloor (m : MgmtHead) (reload : Byte) (s : State) : Out :=
  operate m .openFloor [reload] (held .floor (openFloor reload)) s

/-- CLOSE_FLOOR (R113). -/
def execCloseFloor (m : MgmtHead) (s : State) : Out := operate m .closeFloor [] (held .floor closeFloor) s

/-- SUSPEND (R114). -/
def execSuspend (m : MgmtHead) (s : State) : Out := operate m .suspend [] (held .floor suspendFloor) s

/-- RESUME (R115). -/
def execResume (m : MgmtHead) (s : State) : Out := operate m .resume [] (held .floor resumeFloor) s

/-- SET_MODE (R116). -/
def execSetMode (m : MgmtHead) (mode : Byte) (s : State) : Out :=
  operate m .setMode [mode] (held .floor (setMode mode)) s

/-- SET_LIMIT (R117). -/
def execSetLimit (m : MgmtHead) (limit : Byte) (s : State) : Out :=
  operate m .setLimit [limit] (held .floor (setLimit limit)) s

/-- SET_GATE (R118). -/
def execSetGate (m : MgmtHead) (gate : Byte) (s : State) : Out :=
  operate m .setGate [gate] (held .floor (setGate gate)) s

/-- GRANT (R119). -/
def execGrant (m : MgmtHead) (seat : Half) (force : Byte) (s : State) : Out :=
  operate m .grant (bytesOf seat ++ [force]) (held .floor (grantBody seat force)) s

/-- END (R120). -/
def execEndTurn (m : MgmtHead) (selector : Byte) (number : Half) (s : State) : Out :=
  operate m .endTurn (selector :: bytesOf number) (held .floor (endBody selector number)) s

/-- WITHDRAW (R121). -/
def execWithdraw (m : MgmtHead) (seat : Half) (s : State) : Out :=
  operate m .withdraw (bytesOf seat) (held .floor (withdrawBody seat)) s

/-- CLEAR_LIST (R122). -/
def execClearList (m : MgmtHead) (s : State) : Out := operate m .clearList [] (held .floor clearList) s

/-- RELOAD_BUDGETS (R123). -/
def execReloadBudgets (m : MgmtHead) (s : State) : Out := operate m .reloadBudgets [] (held .floor reloadBudgets) s

/-- NEXT (R110). -/
def execNextSpeaker (m : MgmtHead) (s : State) : Out := operate m .next [] (held .floor nextBody) s

end Sys2Proof.Machine
end

