-- ==== Sys2Proof/Machine/ProfileOps.lean ====
section
/-! DEFINITION. STORE PROFILE, RECALL PROFILE and RESET, and the completions of a store and a recall (R169 to R174). -/

namespace Sys2Proof.Machine

/-- STORE PROFILE's act: the check word is erased, and the store is in flight (R171). -/
def storeProfile : Body := fun s =>
  (s.withProfile { s.profile with check := none, op := some (.store s.now) }, .later)

namespace State

/-- The floor is CLOSED and no channel is OPEN or HELD (R172). -/
def recallAllowed (s : State) : Bool := s.floor == .closed && !(allChannels.any fun c => (s.chan c).busy)

/-- A store's read-back completes: what the memory was left with is compared with the working configuration and its
check word, and the status and the reply follow (R170, R171). The configuration is the one that stands at this moment,
with a mode, open limit or gate level set during the store (notes/assumptions/24.md). -/
def finishStore (found : ReadBack) (s : State) : State :=
  let new := profileWords s.configuration
  let words := leftWords new found.words
  let check := checkLeft found.check (checkWord new)
  let ok := words == new && check == some (checkWord new)
  (s.withProfile { words := words, check := check, status := if ok then .valid else .invalid, op := none }).completeProfile
    (if ok then .done else .failed)

/-- A recall's reading completes: with the condition still met the configuration is replaced, otherwise nothing is
(R170, R172). -/
def finishRecall (s : State) : State :=
  let s' := s.withProfile { s.profile with op := none }
  if s.recallAllowed then
    ((s'.withProfile { s'.profile with status := s.profile.recalledStatus }).replaceConfiguration
      s.profile.recalled).completeProfile .done
  else s'.completeProfile .refusedState

end State

/-- RECALL PROFILE's act: refused unless the floor is CLOSED and no channel is busy, otherwise in flight (R172). -/
def recallProfile : Body := fun s =>
  if s.recallAllowed then (s.withProfile { s.profile with op := some (.recall s.now) }, .later)
  else (s, only .refusedState)

/-- RESET's act: a profile operation in flight is abandoned, and the reset waits for its reply (R174). -/
def resetBody : Body := fun s =>
  let s := s.abandonProfile
  (s.withStartUp { s.startUp with reset := .requested }, .resetting)

/-- STORE_PROFILE (R171). -/
def execStoreProfile (m : MgmtHead) (s : State) : Out := operate m .storeProfile [] (held .profile storeProfile) s

/-- STORE_COMPLETE (R171): of the store in flight. -/
def execStoreComplete (found : ReadBack) (s : State) : Out :=
  .next (match s.profile.op with
    | some (.store _) => s.finishStore found
    | _ => s)

/-- RECALL_PROFILE (R172). -/
def execRecallProfile (m : MgmtHead) (s : State) : Out := operate m .recallProfile [] (held .profile recallProfile) s

/-- RECALL_COMPLETE (R172): of the recall in flight. -/
def execRecallComplete (s : State) : Out :=
  .next (match s.profile.op with
    | some (.recall _) => s.finishRecall
    | _ => s)

/-- RESET (R174): taken in every start-up state and while a profile operation is in flight. -/
def execReset (m : MgmtHead) (s : State) : Out := operate m .reset [] (held .reset resetBody) s

end Sys2Proof.Machine
end

