-- ==== Sys2Proof/Machine/Readout.lean ====
section
/-! DEFINITION. The management operations that read (R80, R150, R157 to R160). -/

namespace Sys2Proof.Machine

/-- IDENTIFY's act (R157). -/
def identify : Body := fun s =>
  (s, .reply .done ([0x43, 0x57, 0x04, 0x80, 1] ++ two 1024 ++ [16, 64, byte s.startUp.cause.code,
    byte s.profile.status.code, byte s.startUp.state.code]))

/-- How many rows a table has, by its code (R158). -/
def tableRows : Byte → Option Nat
  | 0 => some 1024
  | 1 => some 4
  | 2 => some 4
  | 3 => some 1
  | _ => none

/-- The rows of a table from an index on, at most a count of them (R158). -/
def State.tableRowBytes (s : State) (table : Byte) (first count : Nat) : List Byte :=
  match table with
  | 0 => ((s.seats.toList.drop first).take count).flatMap (seatRow s.now)
  | 1 => ((s.classes.rows.drop first).take count).flatMap classRow
  | 2 => ((s.branches.rows.drop first).take count).flatMap branchRow
  | _ => (([s.floorCfg].drop first).take count).flatMap floorRow

/-- READ TABLE's act (R158). -/
def readTable (table : Byte) (first : Half) (count : Byte) : Body := fun s =>
  match tableRows table with
  | none => (s, only .refusedRange)
  | some rows =>
    if rows ≤ first.toNat || count = 0 then (s, only .refusedRange)
    else
      let k := min (min 16 count.toNat) (rows - first.toNat)
      (s, .reply (doneOr (k != count.toNat))
        ([table] ++ bytesOf first ++ byte k :: s.tableRowBytes table first.toNat k))

/-- READ LIST's act (R80, R159). -/
def readList (position : Byte) : Body := fun s =>
  let p := position.toNat
  if p = 0 || 64 < p then (s, only .refusedRange)
  else
    let l := (s.list.entries.drop (p - 1)).take 16
    (s, .reply .done ([byte s.fill, flagByte s.list.restraint, position, byte l.length] ++ l.flatMap entryBytes))

/-- The channels of a group (R159). -/
def groupChannels (group : Byte) : List ChanNo := if group = 0 then allChannels.take 8 else allChannels.drop 8

/-- The peak of a channel is cleared as it is reported (R150). -/
def State.clearPeak (c : ChanNo) (s : State) : State :=
  s.updChan c fun k => { k with detector := { k.detector with peak := 0 } }

/-- READ FLOOR's act (R142, R150, R159). -/
def readFloor (group : Byte) : Body := fun s =>
  if 1 < group.toNat then (s, only .refusedRange)
  else
    let l := groupChannels group
    (l.foldl (fun s c => s.clearPeak c) s,
      .reply .done (floorSummary s group ++ l.flatMap fun c => channelBytes (s.chan c)))

/-- All 18 counters are set to 0 (R30, R160). -/
def State.clearCounters (s : State) : State :=
  let s := branchIds.foldl (fun s b => s.updPort b fun p =>
    { p with checkErr := 0, rangeErr := 0, kindErr := 0, audioStray := 0 }) s
  s.withMgmt { s.mgmt with mgmtErr := 0, noticeDrop := 0 }

/-- READ COUNTERS's act (R160). -/
def readCounters (clear : Byte) : Body := fun s =>
  if 1 < clear.toNat then (s, only .refusedRange)
  else (if clear = 1 then s.clearCounters else s, .reply .done (s.counters.flatMap two))

/-- IDENTIFY (R157). -/
def execIdentify (m : MgmtHead) (s : State) : Out := operate m .identify [] identify s

/-- READ_TABLE (R158). -/
def execReadTable (m : MgmtHead) (table : Byte) (first : Half) (count : Byte) (s : State) : Out :=
  operate m .readTable ([table] ++ bytesOf first ++ [count]) (readTable table first count) s

/-- READ_LIST (R159). -/
def execReadList (m : MgmtHead) (position : Byte) (s : State) : Out := operate m .readList [position] (readList position) s

/-- READ_FLOOR (R159). -/
def execReadFloor (m : MgmtHead) (group : Byte) (s : State) : Out := operate m .readFloor [group] (readFloor group) s

/-- READ_COUNTERS (R160). -/
def execReadCounters (m : MgmtHead) (clear : Byte) (s : State) : Out :=
  operate m .readCounters [clear] (readCounters clear) s

end Sys2Proof.Machine
end

