-- ==== Sys2Proof/Machine/SeatFlags.lean ====
section
/-! DEFINITION. The seat flag operations (R166). -/

namespace Sys2Proof.Machine

/-- The three seat flags (2.8). -/
inductive SeatFlag where
  | barred | exempt | keyClose
deriving DecidableEq, Repr

/-- The four actions (2.8). -/
inductive FlagAction where
  | test | set | clear | toggle
deriving DecidableEq, Repr

/-- The action codes (2.8). -/
def FlagAction.code : FlagAction → Byte
  | .test => 0
  | .set => 1
  | .clear => 2
  | .toggle => 3

/-- The flag of a code, if it has one (2.8). -/
def flagOfCode (x : Byte) : Option SeatFlag :=
  match x.toNat with
  | 0 => some .barred
  | 1 => some .exempt
  | 2 => some .keyClose
  | _ => none

/-- The action of a code, if it has one (2.8). -/
def actionOfCode (x : Byte) : Option FlagAction :=
  match x.toNat with
  | 0 => some .test
  | 1 => some .set
  | 2 => some .clear
  | 3 => some .toggle
  | _ => none

/-- What an action leaves of a flag (R166). -/
def FlagAction.apply : FlagAction → Bool → Bool
  | .test, v => v
  | .set, _ => true
  | .clear, _ => false
  | .toggle, v => !v

/-- A flag of a seat configuration. -/
def SeatConfig.flag (c : SeatConfig) : SeatFlag → Bool
  | .barred => c.barred
  | .exempt => c.exempt
  | .keyClose => c.keyClose

/-- A seat configuration with one flag replaced. -/
def SeatConfig.withFlag (c : SeatConfig) (f : SeatFlag) (v : Bool) : SeatConfig :=
  match f with
  | .barred => { c with barred := v }
  | .exempt => { c with exempt := v }
  | .keyClose => { c with keyClose := v }

namespace State

/-- The consequences of a changed flag of one seat, but for the fill rule (R162, R166). -/
def flagConsequences (n : SeatNo) (f : SeatFlag) (v : Bool) (applied : Bool) (s : State) : State :=
  match f with
  | .barred => if v then s.barSeat n else s
  | .exempt =>
    let s := s.refreshExhausted n
    if s.applies n != applied then s.markApplies n else s
  | .keyClose => s

/-- One seat of the span: the flag takes its new value, and a change has its consequences (R166). -/
def flagSeat (f : SeatFlag) (a : FlagAction) (n : SeatNo) (s : State) : State :=
  let r := s.seat n
  let v := a.apply (r.cfg.flag f)
  if v = r.cfg.flag f then s
  else (s.setSeat n { r with cfg := r.cfg.withFlag f v }).flagConsequences n f v (s.applies n)

/-- One seat of the span within the whole operation: its prior value is recorded, and an EXHAUSTED refresh of an entry
is remembered for the fill rule (R166). -/
def flagPass (f : SeatFlag) (a : FlagAction) (acc : State × List Byte × Bool) (n : SeatNo) : State × List Byte × Bool :=
  let s := acc.1
  let v := (s.seat n).cfg.flag f
  let refreshed := f == .exempt && a.apply v != v && (s.entryOf n).isSome
  (s.flagSeat f a n, acc.2.1 ++ [flagByte v], acc.2.2 || refreshed)

/-- A span of seats, one after another in ascending seat number, and then the fill rule if an EXHAUSTED flag was
refreshed; with it the prior values (R166). -/
def flagSpan (f : SeatFlag) (a : FlagAction) (span : List SeatNo) (s : State) : State × List Byte :=
  let r := span.foldl (flagPass f a) (s, [], false)
  (if r.2.2 then r.1.fillRule else r.1, r.2.1)

end State

/-- The seats of a span that lies within 0 to 1023. -/
def spanOf (first count : Nat) : List SeatNo := (allSeats.drop first).take count

/-- SEAT FLAGS's act with a valid action (R166). -/
def seatFlags (first : Half) (count : Byte) (flag : Byte) (a : FlagAction) : Body := fun s =>
  let k := count.toNat
  if k = 0 || 64 < k || 1023 < first.toNat + k - 1 then (s, only .refusedRange)
  else
    match flagOfCode flag with
    | none => (s, only .refusedRange)
    | some f =>
      let r := s.flagSpan f a (spanOf first.toNat k)
      (r.1, .reply .done (count :: r.2))

/-- The fields of a SEAT FLAGS frame (2.8). -/
def seatFlagFields (first : Half) (count flag : Byte) (a : FlagAction) : List Byte :=
  bytesOf first ++ [count, flag, a.code]

/-- SEAT_FLAGS_TEST (R166): a read, taken in every window of R156. -/
def execSeatFlagsTest (m : MgmtHead) (first : Half) (count flag : Byte) (s : State) : Out :=
  operate m .seatFlags (seatFlagFields first count flag .test) (seatFlags first count flag .test) s

/-- SEAT_FLAGS_SET (R166). -/
def execSeatFlagsSet (m : MgmtHead) (first : Half) (count flag : Byte) (s : State) : Out :=
  operate m .seatFlags (seatFlagFields first count flag .set) (held .write (seatFlags first count flag .set)) s

/-- SEAT_FLAGS_CLEAR (R166). -/
def execSeatFlagsClear (m : MgmtHead) (first : Half) (count flag : Byte) (s : State) : Out :=
  operate m .seatFlags (seatFlagFields first count flag .clear) (held .write (seatFlags first count flag .clear)) s

/-- SEAT_FLAGS_TOGGLE (R166). -/
def execSeatFlagsToggle (m : MgmtHead) (first : Half) (count flag : Byte) (s : State) : Out :=
  operate m .seatFlags (seatFlagFields first count flag .toggle) (held .write (seatFlags first count flag .toggle)) s

end Sys2Proof.Machine
end

