-- ==== Sys2Proof/Machine/Uplink.lean ====
section
/-! DEFINITION. Frames that finish arriving on the uplink, by their bytes: programme frames, management frames with an
unrecognised operation, and every other frame (R31, R39, R44, R154). -/

namespace Sys2Proof.Machine

/-- A WRITE TABLE by its fields: a table code above 3 has no row length (R154 step 1). -/
def writeTableFields : List Byte → Body
  | table :: rest =>
    if 3 < table.toNat then fun s => (s, only .refusedRange)
    else
      match rest with
      | hi :: lo :: row =>
        if table = 0 then writeSeatRow (half hi lo) row
        else if table = 1 then writeClassRow (half hi lo) row
        else if table = 2 then writeBranchRow (half hi lo) row
        else writeFloorRow (half hi lo) row
      | _ => fun s => (s, only .unknown)
  | [] => fun s => (s, only .unknown)

/-- A SEAT FLAGS by its action code; TEST is a read, and an action code above 3 is out of range (R156, R166). -/
def seatFlagsByCode (first : Half) (count flag action : Byte) : Body :=
  match actionOfCode action with
  | none => fun s => (s, only .refusedRange)
  | some .test => seatFlags first count flag .test
  | some a => held .write (seatFlags first count flag a)

/-- The operation a code and its fields name; fields longer or shorter than the table gives are not recognised (R44,
R154). -/
def operation (code : Byte) (fields : List Byte) : Body :=
  match Op.ofCode code, fields with
  | some .identify, [] => identify
  | some .readTable, [t, hi, lo, k] => readTable t (half hi lo) k
  | some .writeTable, l => writeTableFields l
  | some .seatFlags, [hi, lo, k, f, a] => seatFlagsByCode (half hi lo) k f a
  | some .readList, [p] => readList p
  | some .readFloor, [g] => readFloor g
  | some .readCounters, [c] => readCounters c
  | some .storeProfile, [] => held .profile storeProfile
  | some .recallProfile, [] => held .profile recallProfile
  | some .reset, [] => held .reset resetBody
  | some .openFloor, [r] => held .floor (openFloor r)
  | some .closeFloor, [] => held .floor closeFloor
  | some .suspend, [] => held .floor suspendFloor
  | some .resume, [] => held .floor resumeFloor
  | some .setMode, [x] => held .floor (setMode x)
  | some .setLimit, [x] => held .floor (setLimit x)
  | some .setGate, [x] => held .floor (setGate x)
  | some .grant, [hi, lo, f] => held .floor (grantBody (half hi lo) f)
  | some .endTurn, [x, hi, lo] => held .floor (endBody x (half hi lo))
  | some .withdraw, [hi, lo] => held .floor (withdrawBody (half hi lo))
  | some .clearList, [] => held .floor clearList
  | some .reloadBudgets, [] => held .floor reloadBudgets
  | some .next, [] => held .floor nextBody
  | _, _ => fun s => (s, only .unknown)

/-- The operation in the payload of a management frame. -/
def payloadOperation (f : Frame) : Body := operation ((payload f).getD 1 0) ((payload f).drop 2)

namespace State

/-- A PROGRAMME frame that passed its check is copied to the waiting place of every UP branch that holds fewer than two
(R31). -/
def copyProgramme (f : Frame) (s : State) : State :=
  branchIds.foldl (fun s b =>
    if (s.port b).up && (s.port b).programme.length < 2 then
      s.updPort b fun p => { p with programme := p.programme ++ [f] }
    else s) s

/-- A frame's reception completes on the uplink: handled by its kind byte, and any other kind is discarded without
count (R31, R39). -/
def receiveUplink (f : Frame) (s : State) : State :=
  if frameKind f = some kindManagement then s.receive f (payloadOperation f)
  else if frameKind f = some kindProgramme then (if s.uplink.up && frameOk f then s.copyProgramme f else s)
  else s

end State

/-- PROGRAMME (R31): the frame's bytes decide, and a frame of another kind is handled as that kind (R39). -/
def execProgramme (frame : Frame) (s : State) : Out := .next (s.receiveUplink frame)

/-- UNKNOWN_OPERATION (R154): the frame's bytes decide, so a frame that names a listed operation is that operation. -/
def execUnknownOperation (frame : Frame) (s : State) : Out := .next (s.receiveUplink frame)

end Sys2Proof.Machine
end

