-- ==== Sys2Proof/Machine/Dispatch.lean ====
section
/-! DEFINITION. The meaning of every command: one arm for each row of spec/opcode_table.json. -/

namespace Sys2Proof.Machine

def exec (i : Instr) (s : State) : Host.Outcome State Fault Refusal :=
  match i with
  | .seatReport b frame => Sys2Proof.Machine.execSeatReport b frame s
  | .seatAudio b frame => Sys2Proof.Machine.execSeatAudio b frame s
  | .programme frame => Sys2Proof.Machine.execProgramme frame s
  | .branchLinkUp b => Sys2Proof.Machine.execBranchLinkUp b s
  | .branchLinkDown b => Sys2Proof.Machine.execBranchLinkDown b s
  | .uplinkUp => Sys2Proof.Machine.execUplinkUp s
  | .uplinkDown => Sys2Proof.Machine.execUplinkDown s
  | .seatCommand b => Sys2Proof.Machine.execSeatCommand b s
  | .programmeTransmit b => Sys2Proof.Machine.execProgrammeTransmit b s
  | .branchTransmitComplete b => Sys2Proof.Machine.execBranchTransmitComplete b s
  | .channelAudioTransmit => Sys2Proof.Machine.execChannelAudioTransmit s
  | .replyTransmit => Sys2Proof.Machine.execReplyTransmit s
  | .noticeTransmit => Sys2Proof.Machine.execNoticeTransmit s
  | .uplinkTransmitComplete => Sys2Proof.Machine.execUplinkTransmitComplete s
  | .presenceTimeout n => Sys2Proof.Machine.execPresenceTimeout n s
  | .refusalTimerExpiry n => Sys2Proof.Machine.execRefusalTimerExpiry n s
  | .commandRefresh n => Sys2Proof.Machine.execCommandRefresh n s
  | .secondElapsed c => Sys2Proof.Machine.execSecondElapsed c s
  | .powerUpReset => Sys2Proof.Machine.execPowerUpReset s
  | .commandReset => Sys2Proof.Machine.execCommandReset s
  | .startUpRecallComplete => Sys2Proof.Machine.execStartUpRecallComplete s
  | .startUpReady => Sys2Proof.Machine.execStartUpReady s
  | .identify m => Sys2Proof.Machine.execIdentify m s
  | .readTable m table first count => Sys2Proof.Machine.execReadTable m table first count s
  | .writeTableSeat m index row => Sys2Proof.Machine.execWriteTableSeat m index row s
  | .writeTableClass m index row => Sys2Proof.Machine.execWriteTableClass m index row s
  | .writeTableBranch m index row => Sys2Proof.Machine.execWriteTableBranch m index row s
  | .writeTableFloor m index row => Sys2Proof.Machine.execWriteTableFloor m index row s
  | .seatFlagsTest m first count flag => Sys2Proof.Machine.execSeatFlagsTest m first count flag s
  | .seatFlagsSet m first count flag => Sys2Proof.Machine.execSeatFlagsSet m first count flag s
  | .seatFlagsClear m first count flag => Sys2Proof.Machine.execSeatFlagsClear m first count flag s
  | .seatFlagsToggle m first count flag => Sys2Proof.Machine.execSeatFlagsToggle m first count flag s
  | .readList m position => Sys2Proof.Machine.execReadList m position s
  | .readFloor m group => Sys2Proof.Machine.execReadFloor m group s
  | .readCounters m clear => Sys2Proof.Machine.execReadCounters m clear s
  | .storeProfile m => Sys2Proof.Machine.execStoreProfile m s
  | .storeComplete found => Sys2Proof.Machine.execStoreComplete found s
  | .recallProfile m => Sys2Proof.Machine.execRecallProfile m s
  | .recallComplete => Sys2Proof.Machine.execRecallComplete s
  | .reset m => Sys2Proof.Machine.execReset m s
  | .openFloor m reload => Sys2Proof.Machine.execOpenFloor m reload s
  | .closeFloor m => Sys2Proof.Machine.execCloseFloor m s
  | .suspend m => Sys2Proof.Machine.execSuspend m s
  | .resume m => Sys2Proof.Machine.execResume m s
  | .setMode m mode => Sys2Proof.Machine.execSetMode m mode s
  | .setLimit m limit => Sys2Proof.Machine.execSetLimit m limit s
  | .setGate m gate => Sys2Proof.Machine.execSetGate m gate s
  | .grant m seat force => Sys2Proof.Machine.execGrant m seat force s
  | .endTurn m selector number => Sys2Proof.Machine.execEndTurn m selector number s
  | .withdraw m seat => Sys2Proof.Machine.execWithdraw m seat s
  | .clearList m => Sys2Proof.Machine.execClearList m s
  | .reloadBudgets m => Sys2Proof.Machine.execReloadBudgets m s
  | .nextSpeaker m => Sys2Proof.Machine.execNextSpeaker m s
  | .unknownOperation frame => Sys2Proof.Machine.execUnknownOperation frame s

end Sys2Proof.Machine
end

