-- ==== Sys2Proof/Safety.lean ====
section
/-! DEFINITION. What holds of every state the controller reaches, block by block, as the manual's prose states it: the
terms in which statements about safe runs are written. -/

namespace Sys2Proof.Machine

namespace State

/-- The request list holds at most 64 entries, no two for the same seat, with effective levels numerically
non-decreasing from head to tail (R62). -/
def ListOk (s : State) : Prop :=
  s.list.entries.length ≤ 64 ∧ (s.list.entries.map Entry.seat).Nodup
    ∧ s.list.entries.Pairwise fun x y => x.effective ≤ y.effective

/-- Every entry's level and CLAMPED are what its stored claim and its seat's present entitlement give (R52, R74), and
its EXHAUSTED flag is exact (R76). -/
def EntriesOk (s : State) : Prop :=
  ∀ e ∈ s.list.entries,
    e.effective = effectiveLevel e.claimed ((s.seat e.seat).cfg.entitled e.kind)
      ∧ e.clamped = isClamped e.claimed ((s.seat e.seat).cfg.entitled e.kind)
      ∧ e.exhausted = s.isExhausted e.seat

/-- A seat is WAITING exactly when an entry names it, holds a channel exactly when that busy channel names it, and is
SPEAKING exactly when it holds one (R8, R82). -/
def SeatsOk (s : State) : Prop :=
  ∀ n : SeatNo,
    ((s.seat n).run.floor = .waiting ↔ n ∈ s.list.entries.map Entry.seat)
      ∧ (∀ c : ChanNo, (s.seat n).run.chan = some c ↔ ((s.chan c).busy = true ∧ (s.chan c).seat = some n))
      ∧ ((s.seat n).run.floor = .speaking ↔ (s.seat n).run.chan.isSome = true)

/-- A FREE channel has no seat, kind, level or cause; a busy one has a seat, a kind and a level, and is HELD exactly
when its cause set is not empty (R82, R83). -/
def ChannelsOk (s : State) : Prop :=
  ∀ c : ChanNo,
    ((s.chan c).busy = false → (s.chan c).seat = none ∧ (s.chan c).kind = none ∧ (s.chan c).level = none
      ∧ (s.chan c).hasCause = false)
    ∧ ((s.chan c).busy = true → (s.chan c).seat.isSome = true ∧ (s.chan c).kind.isSome = true
      ∧ (s.chan c).level.isSome = true ∧ ((s.chan c).state = .held ↔ (s.chan c).hasCause = true))

/-- The grant order holds every busy channel exactly once and no FREE channel (R84). -/
def GrantOrderOk (s : State) : Prop :=
  s.grantOrder.Nodup ∧ ∀ c : ChanNo, c ∈ s.grantOrder ↔ (s.chan c).busy = true

/-- An ABSENT seat is IDLE, outside the holder set, and shows nothing of its unit; a refusal is shown exactly while the
seat's refusal timer runs (R17, R45). -/
def PresenceOk (s : State) : Prop :=
  ∀ n : SeatNo,
    ((s.seat n).run.present = false → (s.seat n).run.floor = .idle ∧ n ∉ s.holders
      ∧ (s.seat n).run.refusalShown = false ∧ (s.seat n).run.unitKind = none ∧ (s.seat n).run.mismatch = false
      ∧ (s.seat n).run.down1 = false ∧ (s.seat n).run.down2 = false ∧ (s.seat n).run.down3 = false)
    ∧ (s.seat n).run.refusalShown = (s.refusalOf n).isSome

/-- The holder set is ascending and holds only PRESENT seats of class CHAIR (R93). -/
def HoldersOk (s : State) : Prop :=
  s.holders.Pairwise (· < ·) ∧ ∀ n ∈ s.holders, (s.seat n).run.present = true ∧ (s.seat n).cfg.cls = .chair

/-- A busy channel carries PRIORITY exactly when the holder set is not empty and its seat is not in it, and SUSPEND
exactly when the floor is SUSPENDED and its kind is not CHAIR (R94, R95). -/
def CausesOk (s : State) : Prop :=
  ∀ c : ChanNo, (s.chan c).busy = true →
    ((s.chan c).priority = true ↔ s.holders ≠ [] ∧ ∀ n, (s.chan c).seat = some n → n ∉ s.holders)
      ∧ ((s.chan c).suspend = true ↔ s.floor = .suspended ∧ (s.chan c).kind ≠ some .chair)

/-- While the floor is CLOSED the list is empty and every busy channel is of kind CHAIR and belongs to a CHAIR seat
(R101, R113). -/
def ClosedOk (s : State) : Prop :=
  s.floor = .closed → s.list.entries = [] ∧ ∀ c : ChanNo, (s.chan c).busy = true →
    (s.chan c).kind = some .chair ∧ ∀ n, (s.chan c).seat = some n → (s.seat n).cfg.cls = .chair

/-- Before READY the floor is CLOSED, no channel is busy, the list and the holder set are empty; in RECALLING every seat
is ABSENT (R99, R175). -/
def StartOk (s : State) : Prop :=
  (s.startUp.state ≠ .ready → s.floor = .closed ∧ s.list.entries = [] ∧ s.holders = []
      ∧ ∀ c : ChanNo, (s.chan c).busy = false)
    ∧ (s.startUp.state = .recalling → ∀ n : SeatNo, (s.seat n).run.present = false)

/-- The floor invariant: the list, the channels, the seats and the holder set agree. -/
def FloorOk (s : State) : Prop :=
  s.ListOk ∧ s.EntriesOk ∧ s.SeatsOk ∧ s.ChannelsOk ∧ s.GrantOrderOk ∧ s.PresenceOk ∧ s.HoldersOk ∧ s.CausesOk
    ∧ s.ClosedOk ∧ s.StartOk

/-- While restraint is set the fill is above the low mark, and whenever the fill is at or above the high mark restraint
is set (R78). -/
def RestraintOk (s : State) : Prop :=
  s.floorCfg.low < s.floorCfg.high ∧ (s.list.restraint = true → s.floorCfg.low < s.fill)
    ∧ (s.floorCfg.high ≤ s.fill → s.list.restraint = true)

/-- The floor configuration record stays within its ranges (R78, R100, R152, R165). -/
def FloorCfgOk (s : State) : Prop :=
  (1 ≤ s.floorCfg.limit ∧ s.floorCfg.limit ≤ 16) ∧ (1 ≤ s.floorCfg.high ∧ s.floorCfg.high ≤ 64)
    ∧ s.floorCfg.low < s.floorCfg.high
    ∧ (200 ≤ s.floorCfg.presenceMs ∧ s.floorCfg.presenceMs ≤ 5000 ∧ s.floorCfg.presenceMs % 100 = 0)
    ∧ s.floorCfg.silenceS ≤ 120
    ∧ (1 ≤ s.floorCfg.onThreshold ∧ s.floorCfg.onThreshold ≤ 32767 ∧ s.floorCfg.offThreshold < s.floorCfg.onThreshold)

/-- A branch's command set holds no duplicates and only seats of the branch, at most two programme frames wait, and a
DOWN port holds and sends nothing; the link follows the carrier (R22, R23, R31, R33, R38). -/
def PortsOk (s : State) : Prop :=
  ∀ b : BranchId,
    (s.port b).cmdSet.Nodup ∧ (∀ n ∈ (s.port b).cmdSet, s.branches.branchOf n = some b)
      ∧ (s.port b).programme.length ≤ 2 ∧ (s.port b).carrier = (s.port b).up
      ∧ ((s.port b).up = false → (s.port b).cmdSet = [] ∧ (s.port b).programme = [] ∧ (s.port b).tx = none)

/-- At most 32 notices and 16 reply places wait, channel audio waits at most once for each channel, and a DOWN uplink
holds no audio, no built reply and no frame in transmission; the link follows the carrier (R22, R24, R39, R40, R168). -/
def UplinkOk (s : State) : Prop :=
  s.uplink.notices.length ≤ 32 ∧ s.uplink.replies.length ≤ 16 ∧ (s.uplink.audio.map AudioFrame.chan).Nodup
    ∧ s.uplink.carrier = s.uplink.up
    ∧ (s.uplink.up = false → s.uplink.audio = [] ∧ s.uplink.tx = none ∧ s.uplink.replies.any isBuilt = false)

/-- Exactly one reply place is reserved for a profile operation while one is in flight, and none otherwise (R39,
R156). -/
def ProfilePlaceOk (s : State) : Prop :=
  (s.uplink.replies.filter isProfilePlace).length = if s.profile.op.isSome then 1 else 0

end State

/-- An mm:ss value between 00:00 and 99:59 with four decimal digits, the seconds tens at most 5 (R125). -/
def Mmss.Valid (v : Mmss) : Prop := v.mt ≤ 9 ∧ v.mu ≤ 9 ∧ v.st ≤ 5 ∧ v.su ≤ 9

/-- The times and the initial budget of a class record are in range (R6). -/
def ClassRecord.Valid (r : ClassRecord) : Prop :=
  r.speakLimit.Valid ∧ r.orderLimit.Valid ∧ r.warning.Valid ∧ r.warning.seconds ≤ 599 ∧ r.initial ≤ maxCount

/-- The timer record of a busy channel between its elapsed seconds (R125). -/
def Timer.Running (t : Timer) : Prop :=
  match t.mode with
  | .countdown => t.value.seconds + t.used = t.allowance ∧ 1 ≤ t.value.seconds
  | .overtime => t.allowance ≤ t.used ∧ t.value = display (t.used - t.allowance)
  | .elapsed => t.allowance = 0 ∧ t.value = display t.used

namespace State

/-- The class table is in range (R6, R163). -/
def ClassesOk (s : State) : Prop := ∀ c : SeatClass, (s.classes.record c).Valid

/-- Every channel's timer value is valid and its fields are within their limits, and a busy channel's fields stand in
the relation of its mode (R125). -/
def TimersOk (s : State) : Prop :=
  ∀ c : ChanNo,
    (s.chan c).timer.value.Valid ∧ (s.chan c).timer.allowance ≤ 5999 ∧ (s.chan c).timer.used ≤ maxCount
      ∧ (s.chan c).timer.phase ≤ 999 ∧ ((s.chan c).busy = true → (s.chan c).timer.Running)

/-- Every detector record is within its limits (R144). -/
def DetectorsOk (s : State) : Prop :=
  ∀ c : ChanNo, (s.chan c).detector.level ≤ 32767 ∧ (s.chan c).detector.peak ≤ 32767 ∧ (s.chan c).detector.run ≤ maxRun

/-- No counter passes 65,535, and every budget lies between 0 and 65,535 (R10, R30, R39). -/
def CountsOk (s : State) : Prop :=
  (∀ k ∈ s.counters, k ≤ maxCount) ∧ (∀ n : SeatNo, (s.seat n).run.budget ≤ maxCount)
    ∧ ∀ c : SeatClass, (s.classes.record c).initial ≤ maxCount

end State

/-- The ranges of a branch table: within 0 to 1023, at most 256 seats, and no two enabled ranges overlap (R164). -/
def BranchTable.Valid (t : BranchTable) : Prop :=
  (∀ b : BranchId, (t.record b).first ≤ (t.record b).last ∧ (t.record b).last ≤ 1023
      ∧ (t.record b).last - (t.record b).first + 1 ≤ 256)
    ∧ ∀ a b : BranchId, a ≠ b → (t.record a).enabled = true → (t.record b).enabled = true →
      (t.record a).last < (t.record b).first ∨ (t.record b).last < (t.record a).first

/-- At most 8 seats are of class CHAIR (R4). -/
def chairCount (s : State) : Nat := (s.seatsWhere fun _ r => r.cfg.cls == .chair).length

namespace State

/-! ### What an act leaves as it was -/

/-- What a mark or a notice leaves as it was: everything but the command sets, the notice queue, the reply queue,
NOTICE_DROP and the gap marker (R33, R168). -/
structure TellFrame (s t : State) : Prop where
  now : t.now = s.now
  seats : t.seats = s.seats
  refusal : t.refusal = s.refusal
  classes : t.classes = s.classes
  branches : t.branches = s.branches
  floorCfg : t.floorCfg = s.floorCfg
  port : ∀ b : BranchId, t.port b = { s.port b with cmdSet := (t.port b).cmdSet }
  uplink : t.uplink = { s.uplink with notices := t.uplink.notices, replies := t.uplink.replies }
  list : t.list = s.list
  channels : t.channels = s.channels
  grantOrder : t.grantOrder = s.grantOrder
  holders : t.holders = s.holders
  floor : t.floor = s.floor
  mgmtErr : t.mgmt.mgmtErr = s.mgmt.mgmtErr
  profile : t.profile = s.profile
  startUp : t.startUp = s.startUp
  free : t.free = s.free
  pending : t.pending = s.pending

/-- What an act of the floor leaves as it was: the time base, the configuration but for the floor record, each seat's
presence, keys and displays, the links, the frames that wait or are sent, the counters, the profile and start-up. Such
an act may change the list, the channels, the grant order, the holder set, the floor state and each seat's floor state,
channel and budget, and may tell of it. -/
structure FloorFrame (s t : State) : Prop where
  now : t.now = s.now
  seat : ∀ n : SeatNo, t.seat n = ⟨(s.seat n).cfg, { (s.seat n).run with
    floor := (t.seat n).run.floor, chan := (t.seat n).run.chan, budget := (t.seat n).run.budget }⟩
  refusal : t.refusal = s.refusal
  classes : t.classes = s.classes
  branches : t.branches = s.branches
  port : ∀ b : BranchId, t.port b = { s.port b with cmdSet := (t.port b).cmdSet }
  uplink : t.uplink = { s.uplink with notices := t.uplink.notices, replies := t.uplink.replies }
  mgmtErr : t.mgmt.mgmtErr = s.mgmt.mgmtErr
  profile : t.profile = s.profile
  startUp : t.startUp = s.startUp
  free : t.free = s.free
  pending : t.pending = s.pending

/-- The floor stands: the list, the channels, the grant order, the holder set and the floor state. -/
structure FloorStands (s t : State) : Prop where
  list : t.list = s.list
  channels : t.channels = s.channels
  grantOrder : t.grantOrder = s.grantOrder
  holders : t.holders = s.holders
  floor : t.floor = s.floor

/-- A management frame arrives and is taken: the uplink is UP, the frame passes the checks of R39, a reply place is
free, and no RESET has been taken. -/
def Takes (s : State) (f : Frame) : Prop :=
  s.uplink.up = true ∧ s.takesFrame f = true ∧ s.startUp.reset = .none

/-- The state with one reply more at the tail of the reply queue, and nothing else changed (R39, R154). -/
def replied (tag : Byte) (st : Status) (data : List Byte) (s : State) : State :=
  s.withUplink { s.uplink with replies := s.uplink.replies ++ [.built ⟨tag, st, data, false⟩] }

/-- The command set a mark of a seat leaves at a branch (R33). -/
def markedSet (s : State) (b : BranchId) (n : SeatNo) : List SeatNo :=
  if s.branches.branchOf n = some b ∧ (s.port b).up = true ∧ n ∉ (s.port b).cmdSet then (s.port b).cmdSet ++ [n]
  else (s.port b).cmdSet

/-- A report of a seat finishes arriving on a branch and passes the port's checks (R26 to R29). -/
structure Hears (s : State) (b : BranchId) (f : Frame) (n : SeatNo) (r : Report) : Prop where
  up : (s.port b).up = true
  enabled : (s.branches.record b).enabled = true
  sound : frameOk f = true
  kind : frameKind f = some kindSeatReport
  length : (payload f).length = 6
  fields : readReport (payload f) = some r
  seat : r.seat = n.val
  range : (s.branches.record b).holds n.val = true

/-- An ordinary report in READY: valid, from a PRESENT seat, with its attach flag clear (R14). -/
structure HearsOrdinary (s : State) (b : BranchId) (f : Frame) (n : SeatNo) (r : Report) : Prop extends
    Hears s b f n r where
  ready : s.startUp.state = .ready
  present : (s.seat n).run.present = true
  noAttach : r.attach = false

/-- The state with a refusal made: flag, timer, mark and REFUSED notice (R58). -/
def refused (n : SeatNo) (q : Reason) (s : State) : State :=
  (((s.updRun n fun x => { x with refusalShown := true }).setRefusal n (some s.now)).mark n).notice
    .refused (some n) none (some q)

/-- The state with a showing refusal display ended: flag, timer and mark (R59). -/
def undisplayed (n : SeatNo) (s : State) : State :=
  if (s.seat n).run.refusalShown then
    ((s.updRun n fun x => { x with refusalShown := false }).setRefusal n none).mark n
  else s

/-- The state with a valid report recorded (R14, R19, R20). -/
def recorded (n : SeatNo) (r : Report) (s : State) : State :=
  s.updRun n fun x => { x with
    present := true, lastHeard := s.now, unitKind := some r.unit
    mismatch := match r.unit with
      | .chairUnit => (s.seat n).cfg.cls != .chair
      | .delegateUnit => (s.seat n).cfg.cls == .chair
    ref1 := r.count1, ref2 := r.count2, ref3 := r.count3, down1 := r.down1, down2 := r.down2, down3 := r.down3 }

/-- The state with a new request inserted, its LISTED notice built and its entry handed on (R54). -/
def admitted (n : SeatNo) (k : RequestKind) (claimed entitled : Level) (s : State) : State :=
  ((s.insertEntry { seat := n, kind := k, claimed := claimed, effective := max claimed entitled, arrival := 0
                    clamped := decide (claimed < entitled), exhausted := false, relisted := false
                    upgraded := false }).notice .listed (some n) none none).handOn n

/-- An audio block of a seat finishes arriving on a branch and passes the port's checks (R26 to R29). -/
structure HearsBlock (s : State) (b : BranchId) (f : Frame) (n : SeatNo) (x : Block) : Prop where
  up : (s.port b).up = true
  enabled : (s.branches.record b).enabled = true
  sound : frameOk f = true
  kind : frameKind f = some kindSeatAudio
  length : (payload f).length = 99
  fields : readBlock (payload f) = some x
  seat : x.seat = n.val
  range : (s.branches.record b).holds n.val = true

/-- The LINK notices a reset builds: for each port with carrier, in the order uplink, A, B, C, D; none is kept without
carrier on the uplink (R42, R168). -/
def resetNotices (s : State) : List Notice :=
  if s.uplink.carrier then
    ([Port.uplink] ++ (branchIds.filter fun b => (s.port b).carrier).map Port.branch).map fun p =>
      { kind := .link, gap := false, seat := none, chan := none, reason := some (.linkUp p), fill := 0, floor := .closed }
  else []

/-- What either reset leaves at the end of its first steps, but for the profile words (R21, R42, R81, R99, R100, R173,
R174). -/
structure AfterReset (s t : State) (cause : ResetCause) : Prop where
  seats : ∀ n : SeatNo, t.seat n = ⟨defaultSeatConfig,
    { present := false, unitKind := none, mismatch := false, lastHeard := (t.seat n).run.lastHeard
      ref1 := 0, ref2 := 0, ref3 := 0, down1 := false, down2 := false, down3 := false
      floor := .idle, chan := none, budget := 1800, refusalShown := false, lastCommand := s.now }⟩
  refusal : ∀ n : SeatNo, t.refusalOf n = none
  classes : t.classes = defaultClasses
  branches : t.branches = defaultBranches
  floorCfg : t.floorCfg = defaultFloorConfig
  port : ∀ b : BranchId, t.port b =
    { carrier := (s.port b).carrier, up := (s.port b).carrier, cmdSet := [], programme := [], tx := none
      checkErr := 0, rangeErr := 0, kindErr := 0, audioStray := 0 }
  uplink : t.uplink = { carrier := s.uplink.carrier, up := s.uplink.carrier, audio := [], replies := []
                        notices := s.resetNotices, tx := none }
  list : t.list = { entries := [], restraint := false, arrival := 0 }
  channel : ∀ c : ChanNo, t.chan c =
    { state := .free, seat := none, kind := none, level := none, priority := false, suspend := false
      timer := { mode := .elapsed, value := ⟨0, 0, 0, 0⟩, allowance := 0, used := 0, phase := 0, warned := false }
      detector := { voice := false, level := 0, peak := 0, run := 0 } }
  grantOrder : t.grantOrder = []
  holders : t.holders = []
  floor : t.floor = .closed
  mgmtErr : t.mgmt.mgmtErr = 0
  mgmt : s.uplink.carrier = true → t.mgmt = { mgmtErr := 0, noticeDrop := 0, gap := false }
  startUp : t.startUp = { state := .recalling, since := s.now, cause := cause, reset := .none, opens := false }
  op : t.profile.op = none
  now : t.now = s.now
  pending : t.pending = s.pending

end State

/-- A frame whose bytes name one of the management operations of these codes: handled as that operation whichever row
it came as (R39). -/
def carriesOperation (codes : List Byte) (f : Frame) : Bool :=
  frameKind f == some kindManagement && codes.contains ((payload f).getD 1 0)

end Sys2Proof.Machine

namespace Sys2Proof

open Machine

/-- The MANAGEMENT frame a command stands for (2.8). -/
def Instr.managementFrame : Instr → Option Frame
  | .identify m => some (mgmtFrame m .identify [])
  | .readTable m table first count => some (mgmtFrame m .readTable ([table] ++ bytesOf first ++ [count]))
  | .writeTableSeat m index row => some (mgmtFrame m .writeTable (0 :: bytesOf index ++ row))
  | .writeTableClass m index row => some (mgmtFrame m .writeTable (1 :: bytesOf index ++ row))
  | .writeTableBranch m index row => some (mgmtFrame m .writeTable (2 :: bytesOf index ++ row))
  | .writeTableFloor m index row => some (mgmtFrame m .writeTable (3 :: bytesOf index ++ row))
  | .seatFlagsTest m first count flag => some (mgmtFrame m .seatFlags (bytesOf first ++ [count, flag, 0]))
  | .seatFlagsSet m first count flag => some (mgmtFrame m .seatFlags (bytesOf first ++ [count, flag, 1]))
  | .seatFlagsClear m first count flag => some (mgmtFrame m .seatFlags (bytesOf first ++ [count, flag, 2]))
  | .seatFlagsToggle m first count flag => some (mgmtFrame m .seatFlags (bytesOf first ++ [count, flag, 3]))
  | .readList m position => some (mgmtFrame m .readList [position])
  | .readFloor m group => some (mgmtFrame m .readFloor [group])
  | .readCounters m clear => some (mgmtFrame m .readCounters [clear])
  | .storeProfile m => some (mgmtFrame m .storeProfile [])
  | .recallProfile m => some (mgmtFrame m .recallProfile [])
  | .reset m => some (mgmtFrame m .reset [])
  | .openFloor m reload => some (mgmtFrame m .openFloor [reload])
  | .closeFloor m => some (mgmtFrame m .closeFloor [])
  | .suspend m => some (mgmtFrame m .suspend [])
  | .resume m => some (mgmtFrame m .resume [])
  | .setMode m mode => some (mgmtFrame m .setMode [mode])
  | .setLimit m limit => some (mgmtFrame m .setLimit [limit])
  | .setGate m gate => some (mgmtFrame m .setGate [gate])
  | .grant m seat force => some (mgmtFrame m .grant (bytesOf seat ++ [force]))
  | .endTurn m selector number => some (mgmtFrame m .endTurn (selector :: bytesOf number))
  | .withdraw m seat => some (mgmtFrame m .withdraw (bytesOf seat))
  | .clearList m => some (mgmtFrame m .clearList [])
  | .reloadBudgets m => some (mgmtFrame m .reloadBudgets [])
  | .nextSpeaker m => some (mgmtFrame m .next [])
  | .programme f => if frameKind f = some kindManagement then some f else none
  | .unknownOperation f => if frameKind f = some kindManagement then some f else none
  | .seatReport _ _ | .seatAudio _ _ => none
  | .branchLinkUp _ | .branchLinkDown _ | .uplinkUp | .uplinkDown => none
  | .seatCommand _ | .programmeTransmit _ | .branchTransmitComplete _ => none
  | .channelAudioTransmit | .replyTransmit | .noticeTransmit | .uplinkTransmitComplete => none
  | .presenceTimeout _ | .refusalTimerExpiry _ | .commandRefresh _ | .secondElapsed _ => none
  | .powerUpReset | .commandReset | .startUpRecallComplete | .startUpReady => none
  | .storeComplete _ | .recallComplete => none

/-- The operations that R156 holds off as configuration writes, profile operations or floor commands. -/
def Instr.holdClass : Instr → Option HoldClass
  | .writeTableSeat _ _ _ | .writeTableClass _ _ _ | .writeTableBranch _ _ _ | .writeTableFloor _ _ _ => some .write
  | .seatFlagsSet _ _ _ _ | .seatFlagsClear _ _ _ _ | .seatFlagsToggle _ _ _ _ => some .write
  | .storeProfile _ | .recallProfile _ => some .profile
  | .openFloor _ _ | .closeFloor _ | .suspend _ | .resume _ | .setMode _ _ | .setLimit _ _ | .setGate _ _ => some .floor
  | .grant _ _ _ | .endTurn _ _ _ | .withdraw _ _ | .clearList _ | .reloadBudgets _ | .nextSpeaker _ => some .floor
  | _ => none

/-- The commands that may change the floor state: OPEN FLOOR, CLOSE FLOOR, SUSPEND, RESUME, open at start, and the
resets (R100). -/
def Instr.movesFloor : Instr → Bool
  | .openFloor _ _ | .closeFloor _ | .suspend _ | .resume _ => true
  | .startUpReady | .powerUpReset | .commandReset => true
  | .programme f | .unknownOperation f => carriesOperation [0x10, 0x11, 0x12, 0x13] f
  | _ => false

/-- The commands that may change the working configuration: table writes, seat flag operations, SET MODE, SET LIMIT,
SET GATE, a recall's replacement, and the resets (R1, R100, R169, R172). -/
def Instr.configures : Instr → Bool
  | .writeTableSeat _ _ _ | .writeTableClass _ _ _ | .writeTableBranch _ _ _ | .writeTableFloor _ _ _ => true
  | .seatFlagsSet _ _ _ _ | .seatFlagsClear _ _ _ _ | .seatFlagsToggle _ _ _ _ => true
  | .setMode _ _ | .setLimit _ _ | .setGate _ _ => true
  | .recallComplete | .startUpRecallComplete | .powerUpReset | .commandReset => true
  | .programme f | .unknownOperation f => carriesOperation [0x03, 0x04, 0x14, 0x15, 0x16] f
  | _ => false

/-- The commands that may raise the budget of a seat: a budget reload, a reset with its recall, and a write of that
seat's row (R10). -/
def Instr.raisesBudget (n : SeatNo) : Instr → Bool
  | .reloadBudgets _ => true
  | .openFloor _ reload => reload == 1
  | .powerUpReset | .commandReset | .startUpRecallComplete => true
  | .writeTableSeat _ index _ => index.toNat == n.val
  | .programme f | .unknownOperation f => carriesOperation [0x03, 0x10, 0x1B] f
  | _ => false

end Sys2Proof
end

