-- ==== Sys2Proof/WellFormed.lean ====
section
/-! DEFINITION. When a command is well formed: its operands are ones its row of spec/opcode_table.json can have. The
meanings are total and need none of these checks. -/

namespace Sys2Proof

open Machine

/-- A frame fits the envelope: at most 255 payload bytes (2.8). -/
def fitsEnvelope (f : Frame) : Bool := f.length ≤ 259

/-- A sound frame of a kind. -/
def soundOfKind (k : Byte) (f : Frame) : Bool := frameOk f && frameKind f == some k

/-- The number of bytes of a table's row (2.8). -/
def rowBytes : Nat → Nat
  | 0 => 12
  | 1 => 10
  | 2 => 5
  | _ => 17

/-- The operation fields have the length 2.8 gives for the operation. -/
def fieldsFit (o : Op) (l : List Byte) : Bool :=
  match o with
  | .readTable => l.length == 4
  | .writeTable =>
    match l with
    | t :: rest => 3 < t.toNat || rest.length == 2 + rowBytes t.toNat
    | [] => false
  | .seatFlags => l.length == 5
  | .readList | .readFloor | .readCounters | .openFloor | .setMode | .setLimit | .setGate => l.length == 1
  | .grant | .endTurn => l.length == 3
  | .withdraw => l.length == 2
  | _ => l.isEmpty

/-- A management payload names a listed operation with fields of the right length (R44, R154). -/
def recognised (p : List Byte) : Bool :=
  match p with
  | _ :: code :: fields =>
    match Op.ofCode code with
    | some o => fieldsFit o fields
    | none => false
  | _ => false

/-- The operands of a command are ones its row can have. -/
def Instr.wf : Instr → Bool
  | .seatReport _ f => fitsEnvelope f && !soundOfKind kindSeatAudio f
  | .seatAudio _ f => fitsEnvelope f && !soundOfKind kindSeatReport f
  | .programme f => fitsEnvelope f && frameKind f == some kindProgramme
  | .writeTableSeat _ _ row => row.length == rowBytes 0
  | .writeTableClass _ _ row => row.length == rowBytes 1
  | .writeTableBranch _ _ row => row.length == rowBytes 2
  | .writeTableFloor _ _ row => row.length == rowBytes 3
  | .storeComplete found => found.words.all fun x => decide (x.1 < 1065)
  | .unknownOperation f =>
    fitsEnvelope f && frameKind f == some kindManagement && !(frameOk f && recognised (payload f))
  | .branchLinkUp _ | .branchLinkDown _ | .uplinkUp | .uplinkDown => true
  | .seatCommand _ | .programmeTransmit _ | .branchTransmitComplete _ => true
  | .channelAudioTransmit | .replyTransmit | .noticeTransmit | .uplinkTransmitComplete => true
  | .presenceTimeout _ | .refusalTimerExpiry _ | .commandRefresh _ | .secondElapsed _ => true
  | .powerUpReset | .commandReset | .startUpRecallComplete | .startUpReady => true
  | .identify _ | .readTable _ _ _ _ | .readList _ _ | .readFloor _ _ | .readCounters _ _ => true
  | .seatFlagsTest _ _ _ _ | .seatFlagsSet _ _ _ _ | .seatFlagsClear _ _ _ _ | .seatFlagsToggle _ _ _ _ => true
  | .storeProfile _ | .recallProfile _ | .recallComplete | .reset _ => true
  | .openFloor _ _ | .closeFloor _ | .suspend _ | .resume _ | .setMode _ _ | .setLimit _ _ | .setGate _ _ => true
  | .grant _ _ _ | .endTurn _ _ _ | .withdraw _ _ | .clearList _ | .reloadBudgets _ | .nextSpeaker _ => true

end Sys2Proof
end

