-- ==== Sys2Proof/Certificates/Slice0/Obligations.lean ====
section
/-! DEFINITION. The statements about the GF-480: what a step is, the invariants every command keeps, the codings, and
what each command and each shared act does. -/

open Sys2Proof Sys2Proof.Machine

/-! ### The machine as a whole -/

/-- A step takes the command at the front of the queue (spec/95: each row of the table is one step). -/
def Obligations.StepTakesFrontCommand : Prop :=
  ∀ (c : Instr) (q : List Instr) (s : State),
    Machine.step (s.withPending (c :: q)) = Machine.exec c (s.withPending q)

/-- With no command waiting a millisecond passes: the model's choice of notes/assumptions/4.md, over the time base of
R130, R16, R45, R34, R171, R172 and R174. Phases of OPEN channels advance and stand at 999, nothing else changes, and the
events that have fallen due wait as commands: start-up, the profile operation, elapsed seconds, presence timeouts, refusal
timers, refreshes, and what each free transmitter starts (R32, R41). -/
def Obligations.IdleStepPassesOneMillisecond : Prop :=
  ∀ s : State, s.pending = [] → ∃ t : State, Machine.step s = .next t ∧ t.now = s.now + 1
    ∧ (∀ c : ChanNo, t.chan c = if (s.chan c).state = .opened then
        { s.chan c with timer := { (s.chan c).timer with phase := min 999 ((s.chan c).timer.phase + 1) } }
      else s.chan c)
    ∧ t = ((s.withNow t.now).withChannels t.channels).withPending t.pending
    ∧ (s.startUp.reset = .due → t.pending = [.commandReset])
    ∧ (s.startUp.reset ≠ .due →
      let startUp : List Instr := match s.startUp.state with
        | .recalling => if s.startUp.since + 50 ≤ t.now then [.startUpRecallComplete] else []
        | .rollCall => if s.startUp.since + 2000 ≤ t.now then [.startUpReady] else []
        | .ready => []
      let profile : List Instr := match s.profile.op with
        | some (.store k) => if k + 400 ≤ t.now then [.storeComplete .good] else []
        | some (.recall k) => if k + 50 ≤ t.now then [.recallComplete] else []
        | none => []
      let down (b : BranchId) : List Instr :=
        if (s.port b).up = false ∨ (s.port b).tx ≠ none then []
        else if (s.port b).programme ≠ [] then [.programmeTransmit b]
        else if (s.port b).cmdSet ≠ [] then [.seatCommand b] else []
      let up : List Instr :=
        if s.uplink.up = false ∨ s.uplink.tx ≠ none then []
        else if s.uplink.audio ≠ [] then [.channelAudioTransmit]
        else match s.uplink.replies with
          | .built _ :: _ => [.replyTransmit]
          | _ => if s.uplink.notices ≠ [] then [.noticeTransmit] else []
      ∃ (seconds : List ChanNo) (timeouts refusals refreshes : List SeatNo),
        t.pending = startUp ++ profile ++ seconds.map .secondElapsed ++ timeouts.map .presenceTimeout
            ++ refusals.map .refusalTimerExpiry ++ refreshes.map .commandRefresh
            ++ (down .branchA ++ down .branchB ++ down .branchC ++ down .branchD ++ up)
          ∧ seconds.Pairwise (· < ·) ∧ timeouts.Pairwise (· < ·) ∧ refusals.Pairwise (· < ·)
          ∧ refreshes.Pairwise (· < ·)
          ∧ (∀ c : ChanNo, c ∈ seconds ↔ (s.chan c).state = .opened ∧ 999 ≤ (s.chan c).timer.phase)
          ∧ (∀ n : SeatNo, n ∈ timeouts ↔
              (s.seat n).run.present = true ∧ s.floorCfg.presenceMs ≤ t.now - (s.seat n).run.lastHeard)
          ∧ (∀ n : SeatNo, n ∈ refusals ↔ ∃ k, s.refusalOf n = some k ∧ k + 2000 ≤ t.now)
          ∧ ∀ n : SeatNo, n ∈ refreshes ↔
              (s.seat n).run.present = true ∧ 5000 ≤ t.now - (s.seat n).run.lastCommand
                ∧ ∃ b, s.branches.branchOf n = some b ∧ (s.port b).up = true ∧ n ∉ (s.port b).cmdSet)

/-! ### Invariants -/

/-- Restraint agrees with the fill and the marks (R78). -/
def Obligations.RestraintFollowsTheFill : Prop :=
  ∀ (i : Instr) (s t : State), s.ListOk → s.FloorCfgOk → s.RestraintOk → Machine.exec i s = .next t →
    t.FloorCfgOk ∧ t.RestraintOk

/-- Timer values stay valid and in the relation of their mode (R125, R6); counters, budgets and detector records saturate
(R10, R30, R39, R144). -/
def Obligations.TimersAndCountersStayInRange : Prop :=
  (∀ (i : Instr) (s t : State), s.ClassesOk → s.TimersOk → Machine.exec i s = .next t → t.ClassesOk ∧ t.TimersOk)
  ∧ (∀ (i : Instr) (s t : State), s.CountsOk → s.DetectorsOk → Machine.exec i s = .next t → t.CountsOk ∧ t.DetectorsOk)

/-- The ports keep their sets, queues and places within bounds, and exactly one reply place is reserved for a profile
operation in flight (R22 to R24, R31, R33, R38 to R40, R168). -/
def Obligations.PortsAndQueuesStayBounded : Prop :=
  ∀ (i : Instr) (s t : State), s.PortsOk → s.UplinkOk → s.ProfilePlaceOk → Machine.exec i s = .next t →
    t.PortsOk ∧ t.UplinkOk ∧ t.ProfilePlaceOk

/-- The list, the channels, the seats, the holder set and the floor state agree (R8, R17, R45, R74, R76, R82, R93 to
R95, R99, R101). -/
def Obligations.FloorStaysCoherent : Prop :=
  ∀ (i : Instr) (s t : State), s.FloorOk → Machine.exec i s = .next t → t.FloorOk

/-- The branch ranges stay apart and at most eight seats are CHAIR, given that the stored profile respects both: a
recall loads what a store wrote under the same rules (R4, R164). -/
def Obligations.RangesAndChairsStayLegal : Prop :=
  ∀ (i : Instr) (s t : State), s.branches.Valid → chairCount s ≤ 8 → s.profile.recalled.branches.Valid →
    (s.profile.recalled.seats.toList.filter fun c => c.cls == .chair).length ≤ 8 →
    Machine.exec i s = .next t → t.branches.Valid ∧ chairCount t ≤ 8

/-- The state after reset meets every invariant. -/
def Obligations.ResetMeetsTheInvariants : Prop :=
  State.reset.FloorOk ∧ State.reset.FloorCfgOk ∧ State.reset.RestraintOk ∧ State.reset.ClassesOk ∧ State.reset.TimersOk
    ∧ State.reset.PortsOk ∧ State.reset.UplinkOk ∧ State.reset.ProfilePlaceOk ∧ State.reset.CountsOk
    ∧ State.reset.DetectorsOk ∧ State.reset.branches.Valid ∧ chairCount State.reset = 0

/-! ### Whole-machine rules -/

/-- No other command changes the floor state (R100, R102), and no other command changes the working configuration
(R1, R100, R169, R172). -/
def Obligations.FloorAndConfigurationChangeOnlyBy : Prop :=
  (∀ (i : Instr) (s t : State), Machine.exec i s = .next t → i.movesFloor = false → t.floor = s.floor)
  ∧ (∀ (i : Instr) (s t : State), Machine.exec i s = .next t → i.configures = false →
      (∀ n : SeatNo, (t.seat n).cfg = (s.seat n).cfg) ∧ t.classes = s.classes ∧ t.branches = s.branches
        ∧ t.floorCfg = s.floorCfg)

/-- A budget does not increase except by a reload, a reset or a write of that seat's budget (R10). -/
def Obligations.BudgetsRiseOnlyBy : Prop :=
  ∀ (i : Instr) (s t : State) (n : SeatNo), Machine.exec i s = .next t → i.raisesBudget n = false →
    (t.seat n).run.budget ≤ (s.seat n).run.budget

/-- A management frame that is refused, held off or finds nothing to do changes nothing but the reply queue (R155). -/
def Obligations.RefusedFrameChangesNothing : Prop :=
  ∀ (i : Instr) (f : Frame) (s t : State) (r : Reply), i.managementFrame = some f → s.Takes f →
    Machine.exec i s = .next t → t.uplink.replies = s.uplink.replies ++ [.built r] →
    r.status ≠ .done → r.status ≠ .adjusted → r.data = [] ∧ t = s.replied r.tag r.status []

/-! ### Codings -/

/-- What a STORE writes a RECALL reads: every seat's configuration word and every table row within its range comes back
as it was (R169, R172, 2.8). -/
def Obligations.ProfileWordsReadBack : Prop :=
  ∀ g : Configuration, (∀ c : SeatClass, (g.classes.record c).Valid) → g.branches.Valid →
    1 ≤ g.floorCfg.limit → g.floorCfg.limit ≤ 16 → 1 ≤ g.floorCfg.high → g.floorCfg.high ≤ 64 →
    g.floorCfg.low < g.floorCfg.high → 200 ≤ g.floorCfg.presenceMs → g.floorCfg.presenceMs ≤ 5000 →
    g.floorCfg.presenceMs % 100 = 0 → g.floorCfg.silenceS ≤ 120 → 1 ≤ g.floorCfg.onThreshold →
    g.floorCfg.onThreshold ≤ 32767 → g.floorCfg.offThreshold < g.floorCfg.onThreshold →
    (profileWords g).length = 1065 ∧ configurationOfWords (profileWords g) = g

/-- A frame the controller builds is its kind, its length, its payload and its check sequence; it passes the integrity
check of its receiver and carries its kind and payload. The check sequence of the ASCII digits 1 to 9 is 0x29B1. CHANNEL
AUDIO, REPLY and NOTICE frames hold the bytes of 2.8, each code and each absent value as there (R26, R43, R44, 2.8). -/
def Obligations.BuiltFramesPassTheirCheck : Prop :=
  (∀ (k : Byte) (p : List Byte), p.length ≤ 255 →
    frameOk (mkFrame k p) = true ∧ frameKind (mkFrame k p) = some k ∧ payload (mkFrame k p) = p
      ∧ (let head := k :: BitVec.ofNat 8 p.length :: p
         let check := checkSequence head
         mkFrame k p = head ++ [check.extractLsb' 8 8, check.extractLsb' 0 8]))
  ∧ checkSequence [0x31, 0x32, 0x33, 0x34, 0x35, 0x36, 0x37, 0x38, 0x39] = 0x29B1
  ∧ (∀ x : AudioFrame, audioFrame x = mkFrame 0x31
      ([BitVec.ofNat 8 x.chan.val, BitVec.ofNat 8 (x.seat.val / 256), BitVec.ofNat 8 (x.seat.val % 256),
        if x.held then 1 else 0] ++ x.samples.flatMap fun y => [y.extractLsb' 8 8, y.extractLsb' 0 8]))
  ∧ (∀ r : Reply,
      let status : Byte := match r.status with
        | .done => 0x00
        | .adjusted => 0x01
        | .nothing => 0x02
        | .busy => 0x03
        | .refusedRange => 0x04
        | .refusedState => 0x05
        | .refusedLimit => 0x06
        | .unknown => 0x07
        | .failed => 0x08
      replyFrame r = mkFrame 0x61 (r.tag :: status :: r.data))
  ∧ (∀ x : Notice,
      let kind : Byte := match x.kind with
        | .granted => 0x01
        | .closed => 0x02
        | .held => 0x03
        | .released => 0x04
        | .listed => 0x05
        | .unlisted => 0x06
        | .refused => 0x07
        | .warning => 0x08
        | .expired => 0x09
        | .seatPresent => 0x0A
        | .seatAbsent => 0x0B
        | .link => 0x0C
        | .restraint => 0x0D
      let seat : List Byte := match x.seat with
        | some n => [BitVec.ofNat 8 (n.val / 256), BitVec.ofNat 8 (n.val % 256)]
        | none => [0xFF, 0xFF]
      let chan : Byte := match x.chan with
        | some c => BitVec.ofNat 8 c.val
        | none => 0xFF
      let reason : Byte := match x.reason with
        | none => 0x00
        | some .seatClosed => 0x01
        | some .ended => 0x02
        | some .timeUp => 0x03
        | some .silence => 0x04
        | some .displaced => 0x05
        | some .nextSpeaker => 0x06
        | some .seatLost => 0x07
        | some .barred => 0x08
        | some .floorClosed => 0x09
        | some .granted => 0x0A
        | some .withdrawn => 0x0B
        | some .absent => 0x0C
        | some .cleared => 0x0D
        | some .operator => 0x0E
        | some .closed => 0x10
        | some .notEntitled => 0x11
        | some .listFull => 0x12
        | some .restrained => 0x13
        | some .priority => 0x18
        | some .suspend => 0x19
        | some .set => 0x1A
        | some .clear => 0x1B
        | some (.linkUp (.branch .branchA)) => 0x20
        | some (.linkDown (.branch .branchA)) => 0x21
        | some (.linkUp (.branch .branchB)) => 0x22
        | some (.linkDown (.branch .branchB)) => 0x23
        | some (.linkUp (.branch .branchC)) => 0x24
        | some (.linkDown (.branch .branchC)) => 0x25
        | some (.linkUp (.branch .branchD)) => 0x26
        | some (.linkDown (.branch .branchD)) => 0x27
        | some (.linkUp .uplink) => 0x28
        | some (.linkDown .uplink) => 0x29
      let floor : Byte := match x.floor with
        | .closed => 0
        | .opened => 1
        | .suspended => 2
      noticeFrame x = mkFrame 0x62
        ([kind, if x.gap then 1 else 0] ++ seat ++ [chan, reason, BitVec.ofNat 8 x.fill, floor]))

/-- A management row and its frame taken by its bytes are one operation (R39, R44, R154; how rows stand for frames is
the model's choice of notes/assumptions/11.md). -/
def Obligations.RowsAgreeWithTheirFrames : Prop :=
  ∀ (i : Instr) (f : Frame) (s : State), i.managementFrame = some f →
    Machine.exec (.unknownOperation f) s = Machine.exec i s

/-! ### Marks, notices and the request list -/

/-- A mark appends the seat to the command set of its UP branch unless it is there already, and does nothing else. A
notice of an enabled kind enters the queue with the gap flag the marker gives, or is dropped, counted and marked as a
gap; one whose kind is not enabled is not built (R33, R167, R168). -/
def Obligations.MarksAndNoticesEnterTheirQueues : Prop :=
  (∀ (s : State) (n : SeatNo),
      (∀ b : BranchId, (s.mark n).port b = { s.port b with cmdSet := s.markedSet b n })
        ∧ s.mark n = s.withPorts (s.mark n).ports)
  ∧ (∀ (s : State) (k : NoticeKind) (n : Option SeatNo) (c : Option ChanNo) (r : Option Reason),
      (s.floorCfg.enables.getLsbD (k.code - 1) = false → s.notice k n c r = s)
      ∧ (s.floorCfg.enables.getLsbD (k.code - 1) = true →
        (s.uplink.up = true → s.uplink.notices.length < 32 →
          s.notice k n c r = (s.withUplink { s.uplink with notices := s.uplink.notices ++
              [⟨k, s.mgmt.gap, n, c, r, s.list.entries.length, s.floor⟩] }).withMgmt { s.mgmt with gap := false })
        ∧ (s.uplink.up = false ∨ 32 ≤ s.uplink.notices.length →
          s.notice k n c r = s.withMgmt
            { s.mgmt with noticeDrop := min 65535 (s.mgmt.noticeDrop + 1), gap := true })))

/-- The place rules: an entry stands directly behind every entry of its own and of numerically smaller levels, its position
one more than their number; a relisted entry stands directly ahead of every entry of its own and of larger levels (R65,
R67). -/
def Obligations.PlacesFollowTheLevelGroups : Prop :=
  (∀ (e : Entry) (l : List Entry), l.Pairwise (fun x y => x.effective ≤ y.effective) →
      State.placeEntry e l = l.filter (fun x => decide (x.effective ≤ e.effective)) ++
          e :: l.filter (fun x => decide (e.effective < x.effective))
        ∧ (e.seat ∉ l.map Entry.seat →
          positionIn (State.placeEntry e l) e.seat = 1 + (l.filter fun x => decide (x.effective ≤ e.effective)).length))
  ∧ (∀ (e : Entry) (l : List Entry), l.Pairwise (fun x y => x.effective ≤ y.effective) →
      State.placeRelisted e l = l.filter (fun x => decide (x.effective < e.effective)) ++
        e :: l.filter (fun x => decide (e.effective ≤ x.effective)))

/-- An insertion is one act: place, arrival number, EXHAUSTED, WAITING, restraint with its notice, and the marks of the
inserted seat and of every seat behind it. A removal is one act: the entry leaves, the UNLISTED notice with the fill
after it, restraint with its notice, and the marks of the removed seat and of every seat behind its former place; a seat
without an entry changes nothing (R66, R70, R73). That the mark of the removed seat stands ahead of those behind it is the
model's choice of notes/assumptions/21.md. A relisting is an insertion of a SPEAK entry at the head of its level group,
claimed at the level of the closed channel, whatever the checks of admission would say, with its LISTED notice after any
RESTRAINT notice; at 64 entries it is not made (R67). -/
def Obligations.InsertionsAndRemovalsAreWhole : Prop :=
  (∀ (s : State) (e : Entry), s.ListOk → e.seat ∉ s.list.entries.map Entry.seat →
      let t := s.insertEntry e
      let e' := { e with arrival := s.list.arrival + 1
                         exhausted := s.applies e.seat && (s.seat e.seat).run.budget == 0 }
      let behind := s.list.entries.filter fun x => decide (e.effective < x.effective)
      let r := s.list.restraint || decide (s.floorCfg.high ≤ s.list.entries.length + 1)
      t.list = { entries := s.list.entries.filter (fun x => decide (x.effective ≤ e.effective)) ++ e' :: behind
                 restraint := r, arrival := s.list.arrival + 1 }
        ∧ (∀ n : SeatNo, t.seat n = if n = e.seat then
            ⟨(s.seat n).cfg, { (s.seat n).run with floor := .waiting, chan := none }⟩ else s.seat n)
        ∧ t.ports = (s.markAll (e.seat :: behind.map Entry.seat)).ports
        ∧ (let told := if r = s.list.restraint then s
              else (s.withList t.list).notice .restraint none none (some .set)
           t.uplink = told.uplink ∧ t.mgmt = told.mgmt)
        ∧ t = ((((s.withList t.list).withSeats t.seats).withPorts t.ports).withUplink t.uplink).withMgmt t.mgmt)
  ∧ (∀ (s : State) (n : SeatNo) (r : Reason), s.ListOk →
      (n ∉ s.list.entries.map Entry.seat → s.removeEntry n r = s)
      ∧ ∀ (ahead behind : List Entry) (e : Entry), s.list.entries = ahead ++ e :: behind → e.seat = n →
        let t := s.removeEntry n r
        let kept := s.list.restraint && decide (s.floorCfg.low < (ahead ++ behind).length)
        let told := (s.withList { s.list with entries := ahead ++ behind }).notice .unlisted (some n) none (some r)
        t.list = { s.list with entries := ahead ++ behind, restraint := kept }
          ∧ (∀ m : SeatNo, t.seat m = if m = n then
              ⟨(s.seat m).cfg, { (s.seat m).run with floor := .idle, chan := none }⟩ else s.seat m)
          ∧ t.ports = (s.markAll (n :: behind.map Entry.seat)).ports
          ∧ (let last := if kept = s.list.restraint then told else told.notice .restraint none none (some .clear)
             t.uplink = last.uplink ∧ t.mgmt = last.mgmt)
          ∧ t = ((((s.withList t.list).withSeats t.seats).withPorts t.ports).withUplink t.uplink).withMgmt t.mgmt)
  ∧ (∀ (s : State) (n : SeatNo) (l : Level), s.ListOk →
      (64 ≤ s.list.entries.length → s.relist n l = s)
      ∧ (s.list.entries.length < 64 → n ∉ s.list.entries.map Entry.seat →
        let t := s.relist n l
        let level := max l (s.seat n).cfg.speak
        let e : Entry := { seat := n, kind := .speak, claimed := l, effective := level, arrival := s.list.arrival + 1
                           clamped := decide (l < (s.seat n).cfg.speak), relisted := true, upgraded := false
                           exhausted := s.applies n && (s.seat n).run.budget == 0 }
        let behind := s.list.entries.filter fun x => decide (level ≤ x.effective)
        let r := s.list.restraint || decide (s.floorCfg.high ≤ s.list.entries.length + 1)
        t.list = { entries := s.list.entries.filter (fun x => decide (x.effective < level)) ++ e :: behind
                   restraint := r, arrival := s.list.arrival + 1 }
          ∧ (∀ m : SeatNo, t.seat m = if m = n then
              ⟨(s.seat m).cfg, { (s.seat m).run with floor := .waiting, chan := none }⟩ else s.seat m)
          ∧ t.ports = (s.markAll (n :: behind.map Entry.seat)).ports
          ∧ (let told := if r = s.list.restraint then s.withList t.list
                else (s.withList t.list).notice .restraint none none (some .set)
             let last := told.notice .listed (some n) none (some .displaced)
             t.uplink = last.uplink ∧ t.mgmt = last.mgmt)
          ∧ t = ((((s.withList t.list).withSeats t.seats).withPorts t.ports).withUplink t.uplink).withMgmt t.mgmt))

/-! ### Grants, closes, holds and the fill rule -/

/-- A grant takes the FREE channel of the lowest number, and sets the turn, the causes, the grant order, the seat and
the notices; it is not made for an ABSENT or SPEAKING seat or without a FREE channel (R85 to R88). -/
def Obligations.GrantTakesTheLowestFreeChannel : Prop :=
  ∀ (s : State) (n : SeatNo) (k : TurnKind) (l : Level) (asHolder : Bool),
    ((s.seat n).run.present = false ∨ (s.seat n).run.floor = .speaking ∨ (∀ c : ChanNo, (s.chan c).state ≠ .free) →
      s.grant n k l asHolder = s)
    ∧ ∀ c : ChanNo, (s.seat n).run.present = true → (s.seat n).run.floor ≠ .speaking → (s.chan c).state = .free →
      (∀ c' : ChanNo, c' < c → (s.chan c').state ≠ .free) →
      let t := s.grant n k l asHolder
      let s1 := if n ∈ s.list.entries.map Entry.seat then s.takeOut n .granted else s
      let kind := if (s.seat n).cfg.cls = .chair then .chair else k
      let prio := decide (s.holders ≠ []) && decide (n ∉ s.holders) && !asHolder
      let susp := decide (s.floor = .suspended) && decide (kind ≠ .chair)
      let told := s1.notice .granted (some n) (some c) none
      (∀ c' : ChanNo, t.chan c' = if c' = c then
          { state := if prio || susp then .held else .opened, seat := some n, kind := some kind, level := some l
            priority := prio, suspend := susp
            timer := startTimer s.classes kind (s.seat n).cfg (s.seat n).run.budget
            detector := { voice := false, level := 0, peak := 0, run := 0 } }
        else s.chan c')
        ∧ t.grantOrder = s.grantOrder ++ [c]
        ∧ (∀ m : SeatNo, t.seat m = if m = n then
            ⟨(s.seat m).cfg, { (s.seat m).run with floor := .speaking, chan := some c }⟩ else s.seat m)
        ∧ t.list = s1.list ∧ t.ports = (s1.mark n).ports
        ∧ (let last := if prio || susp then
              told.notice .held (some n) (some c) (some (if prio then .priority else .suspend)) else told
           t.uplink = last.uplink ∧ t.mgmt = last.mgmt)
        ∧ t = ((((((s.withList t.list).withSeats t.seats).withChannels t.channels).withGrantOrder
            t.grantOrder).withPorts t.ports).withUplink t.uplink).withMgmt t.mgmt

/-- A close frees the channel, keeps the figures of the turn, deducts the used seconds where a budget applies and tells
of it; one that names a channel its seat does not hold changes nothing (R89, R91, R140). -/
def Obligations.CloseEndsTheTurn : Prop :=
  ∀ (s : State) (c : ChanNo) (n : SeatNo) (r : Reason),
    ((s.chan c).state = .free ∨ (s.chan c).seat ≠ some n → s.closeChannel c n r = s ∧ s.closeAndFill c n r = s)
    ∧ ((s.chan c).state ≠ .free → (s.chan c).seat = some n →
      let t := s.closeChannel c n r
      let told := s.notice .closed (some n) (some c) (some r)
      (∀ c' : ChanNo, t.chan c' = if c' = c then
          { state := .free, seat := none, kind := none, level := none, priority := false, suspend := false
            timer := (s.chan c).timer, detector := (s.chan c).detector }
        else s.chan c')
        ∧ t.grantOrder = s.grantOrder.erase c
        ∧ (∀ m : SeatNo, t.seat m = if m = n then
            ⟨(s.seat m).cfg, { (s.seat m).run with floor := .idle, chan := none
                                                   budget := if s.applies n then
                                                     (s.seat m).run.budget - (s.chan c).timer.used
                                                   else (s.seat m).run.budget }⟩
          else s.seat m)
        ∧ t.ports = (s.mark n).ports ∧ t.uplink = told.uplink ∧ t.mgmt = told.mgmt
        ∧ t = (((((s.withSeats t.seats).withChannels t.channels).withGrantOrder t.grantOrder).withPorts
            t.ports).withUplink t.uplink).withMgmt t.mgmt
        ∧ s.closeAndFill c n r = t.fillRule)

/-- A change of the holder set moves PRIORITY on exactly the channels it should, each busy channel's state follows its
causes, and each channel whose state changes has its HELD or RELEASED notice with PRIORITY and the mark of its seat, in
grant order (R94, R96). -/
def Obligations.PriorityFollowsTheHolderSet : Prop :=
  ∀ (s : State) (n : SeatNo), s.FloorOk →
    (∀ m : SeatNo, m ∈ (s.joinHolders n).holders ↔ m = n ∨ m ∈ s.holders)
    ∧ (∀ m : SeatNo, m ∈ (s.leaveHolders n).holders ↔ m ≠ n ∧ m ∈ s.holders)
    ∧ ∀ t : State, t = s.joinHolders n ∨ t = s.leaveHolders n →
      (∀ c : ChanNo, (s.chan c).state ≠ .free →
        let p := decide (t.holders ≠ []) && !(t.holders.any fun m => (s.chan c).seat == some m)
        t.chan c = { s.chan c with priority := p, state := if p || (s.chan c).suspend then .held else .opened })
      ∧ (∀ c : ChanNo, (s.chan c).state = .free → t.chan c = s.chan c)
      ∧ (let changed := s.grantOrder.filter fun c => (t.chan c).state != (s.chan c).state
        let told := changed.foldl (fun u c => u.notice (if (t.chan c).state = .held then .held else .released)
          (s.chan c).seat (some c) (some .priority)) s
        t.uplink = told.uplink ∧ t.mgmt = told.mgmt
          ∧ t.ports = (s.markAll (changed.filterMap fun c => (s.chan c).seat)).ports)
      ∧ t = ((((s.withHolders t.holders).withChannels t.channels).withPorts t.ports).withUplink t.uplink).withMgmt
          t.mgmt

/-- The fill rule grants nothing unless the floor is OPEN in AUTO or OVERRIDE. There it leaves no place unused: it
stops only with the count at the open limit, no channel FREE or no eligible entry; it never lifts the count above the
limit; it closes nothing and removes only the entries of the seats it granted. Each pass grants the entry nearest the
head whose level is within the gate and that is not EXHAUSTED (R104, R105). -/
def Obligations.FillRuleServesTheListInOrder : Prop :=
  (∀ s : State, s.FloorOk →
      (s.floor ≠ .opened ∨ s.floorCfg.mode = .directed → s.fillRule = s)
      ∧ (s.floorCfg.limit ≤ s.nonChairCount ∨ (∀ c : ChanNo, (s.chan c).state ≠ .free) ∨ s.firstEligible = none →
        s.fillRule = s)
      ∧ (s.floor = .opened → s.floorCfg.mode ≠ .directed →
        s.floorCfg.limit ≤ s.fillRule.nonChairCount ∨ (∀ c : ChanNo, (s.fillRule.chan c).state ≠ .free)
          ∨ s.fillRule.firstEligible = none)
      ∧ s.fillRule.nonChairCount ≤ max s.nonChairCount s.floorCfg.limit
      ∧ (∀ c : ChanNo, (s.chan c).state ≠ .free → s.fillRule.chan c = s.chan c)
      ∧ s.fillRule.list.entries.Sublist s.list.entries
      ∧ (∀ n : SeatNo, n ∈ s.list.entries.map Entry.seat → n ∉ s.fillRule.list.entries.map Entry.seat →
          (s.fillRule.seat n).run.floor = .speaking)
      ∧ State.FloorFrame s s.fillRule ∧ s.fillRule.holders = s.holders ∧ s.fillRule.floor = s.floor
      ∧ s.fillRule.floorCfg = s.floorCfg)
  ∧ (∀ (s : State) (ahead behind : List Entry) (e : Entry), s.floor = .opened → s.floorCfg.mode ≠ .directed →
      s.list.entries = ahead ++ e :: behind →
      (∀ x ∈ ahead, s.floorCfg.gate < x.effective ∨ x.exhausted = true) →
      e.effective ≤ s.floorCfg.gate → e.exhausted = false → s.nonChairCount < s.floorCfg.limit →
      (∃ c : ChanNo, (s.chan c).state = .free) → s.FloorOk →
      s.fillRule = (s.grant e.seat e.kind.turn e.effective false).fillRule)

/-- Displacement: an entry handed on in OVERRIDE mode at the open limit, first eligible, closes the oldest non-chair
channel granted at its level or a numerically larger one, whose seat is relisted if relisting is set; it is then granted,
and the fill rule runs. Where a condition fails, only the fill rule runs. A chair grant takes a FREE channel if there is
one; otherwise it closes the oldest non-chair channel, relists its seat if relisting is set, grants and runs the fill
rule; without such a channel it is not made (R107 to R109). -/
def Obligations.DisplacementTakesTheOldestTurn : Prop :=
  (∀ (s : State) (e : Entry), s.FloorOk → e ∈ s.list.entries →
      (s.floor ≠ .opened ∨ s.floorCfg.mode ≠ .override ∨ s.firstEligible ≠ some e
          ∨ s.nonChairCount < s.floorCfg.limit
          ∨ (∀ c ∈ s.grantOrder, (s.chan c).kind = some .chair
              ∨ ∃ l : Level, (s.chan c).level = some l ∧ l < e.effective) →
        s.handOn e.seat = s.fillRule)
      ∧ ∀ (older newer : List ChanNo) (c : ChanNo) (n : SeatNo) (l : Level), s.floor = .opened →
        s.floorCfg.mode = .override → s.firstEligible = some e → s.floorCfg.limit ≤ s.nonChairCount →
        s.grantOrder = older ++ c :: newer →
        (∀ x ∈ older, (s.chan x).kind = some .chair ∨ ∃ k : Level, (s.chan x).level = some k ∧ k < e.effective) →
        (s.chan c).kind ≠ some .chair → (s.chan c).seat = some n → (s.chan c).level = some l → e.effective ≤ l →
        s.handOn e.seat =
          ((if s.floorCfg.relist then (s.closeChannel c n .displaced).relist n l
            else s.closeChannel c n .displaced).grant e.seat e.kind.turn e.effective false).fillRule)
  ∧ (∀ (s : State) (n : SeatNo) (asHolder : Bool),
      ((∃ c : ChanNo, (s.chan c).state = .free) →
        s.chairGrant n asHolder = s.grant n .chair (s.seat n).cfg.speak asHolder)
      ∧ ((∀ c : ChanNo, (s.chan c).state ≠ .free ∧ (s.chan c).kind = some .chair) → s.chairGrant n asHolder = s)
      ∧ ∀ (older newer : List ChanNo) (c : ChanNo) (m : SeatNo) (l : Level),
        (∀ x : ChanNo, (s.chan x).state ≠ .free) → s.grantOrder = older ++ c :: newer →
        (∀ x ∈ older, (s.chan x).kind = some .chair) → (s.chan c).kind ≠ some .chair → (s.chan c).seat = some m →
        (s.chan c).level = some l →
        s.chairGrant n asHolder =
          ((if s.floorCfg.relist then (s.closeChannel c m .displaced).relist m l
            else s.closeChannel c m .displaced).grant n .chair (s.seat n).cfg.speak asHolder).fillRule)

/-- The absence cascade leaves every seat of its group ABSENT, IDLE, unlisted, outside the holder set and with its used
seconds deducted, and leaves the presence and the unit of every other seat. It is two passes over the group, then a
SEAT_ABSENT notice for each seat and the marks of the group. In a queue with room the notices stand in that order: in the
first pass the hold changes and the UNLISTED notices of the waiting seats, in the second the CLOSED notices of the
speaking seats, each with those of its fill rule, and last SEAT_ABSENT for each seat (R17, R177). -/
def Obligations.CascadeClearsItsGroup : Prop :=
  ∀ (s : State) (group : List SeatNo), s.FloorOk →
    let t := s.cascade group
    (∀ n ∈ group, t.refusalOf n = none ∧ n ∉ t.holders ∧ n ∉ t.list.entries.map Entry.seat
      ∧ t.seat n = ⟨(s.seat n).cfg, { (s.seat n).run with
          present := false, unitKind := none, mismatch := false, down1 := false, down2 := false, down3 := false
          refusalShown := false, floor := .idle, chan := none
          budget := if s.applies n then
              (s.seat n).run.budget - ((s.seat n).run.chan.map fun c => (s.chan c).timer.used).getD 0
            else (s.seat n).run.budget }⟩)
    ∧ (∀ n : SeatNo, n ∉ group → t.refusalOf n = s.refusalOf n ∧ (n ∈ t.holders ↔ n ∈ s.holders)
      ∧ t.seat n = ⟨(s.seat n).cfg, { (s.seat n).run with
          floor := (t.seat n).run.floor, chan := (t.seat n).run.chan, budget := (s.seat n).run.budget }⟩)
    ∧ t.floor = s.floor ∧ t.floorCfg = s.floorCfg ∧ t.classes = s.classes ∧ t.branches = s.branches
    ∧ t.profile = s.profile ∧ t.startUp = s.startUp
    ∧ (∀ b : BranchId, t.port b = { s.port b with cmdSet := (t.port b).cmdSet }
      ∧ (s.port b).cmdSet <+: (t.port b).cmdSet
      ∧ ∀ n ∈ group, s.branches.branchOf n = some b → (s.port b).up = true → n ∈ (t.port b).cmdSet)
    ∧ (let gone (u : State) (n : SeatNo) : State := (((u.updRun n fun x => { x with
          present := false, unitKind := none, mismatch := false, down1 := false, down2 := false, down3 := false
          refusalShown := false }).setRefusal n none).leaveHolders n).removeEntry n .absent
      let lost (u : State) (n : SeatNo) : State := match (u.seat n).run.chan with
        | some c => u.closeAndFill c n .seatLost
        | none => u
      t = (group.foldl (fun u n => u.notice .seatAbsent (some n) none none)
        (group.foldl lost (group.foldl gone s))).markAll group)
    ∧ (group.Pairwise (· < ·) → s.uplink.up = true → s.floorCfg.enables = BitVec.allOnes 13 →
      t.uplink.notices.length < 32 → ∃ first second : List Notice,
        t.uplink.notices.map (fun x => { x with gap := false })
            = s.uplink.notices.map (fun x => { x with gap := false }) ++ first ++ second
              ++ group.map (fun n => { kind := .seatAbsent, gap := false, seat := some n, chan := none, reason := none
                                       fill := t.list.entries.length, floor := s.floor })
          ∧ (∀ x ∈ first, x.kind = .released ∨ x.kind = .held ∨ x.kind = .unlisted ∨ x.kind = .restraint)
          ∧ (first.filter fun x => x.kind == .unlisted).map (fun x => (x.seat, x.reason))
              = (group.filter fun n => (s.seat n).run.floor == .waiting).map (fun n => (some n, some .absent))
          ∧ (∀ x ∈ second, x.kind = .closed ∨ x.kind = .unlisted ∨ x.kind = .restraint ∨ x.kind = .granted
              ∨ x.kind = .held)
          ∧ (second.filter fun x => x.kind == .closed).map (fun x => (x.seat, x.reason))
              = (group.filter fun n => (s.seat n).run.floor == .speaking).map (fun n => (some n, some .seatLost)))

/-! ### Speaking time and voice level -/

/-- The timer a grant sets: untimed where the turn limit is 0, otherwise the limit bounded by a budget that applies and
is not 0, warned from the start within the threshold (R127 to R129). -/
def Obligations.GrantFixesTheAllowance : Prop :=
  ∀ (t : ClassTable) (k : TurnKind) (c : SeatConfig) (budget : Nat),
    let x := if k = .chair then SeatClass.chair else c.cls
    let l := match k with
      | .order => (t.record x).orderLimit.seconds
      | _ => (t.record x).speakLimit.seconds
    (x = .observer ∨ l = 0 → startTimer t k c budget = ⟨.elapsed, ⟨0, 0, 0, 0⟩, 0, 0, 0, false⟩)
    ∧ (x ≠ .observer → 1 ≤ l →
      let a := if (t.record c.cls).enforced && !c.exempt && decide (1 ≤ budget) then min l budget else l
      let w := (t.record x).warning.seconds
      startTimer t k c budget = ⟨.countdown, display a, a, 0, 0, decide (0 < w) && decide (a ≤ w)⟩)

/-- The two conversions between seconds and mm:ss, with 99:59 for every count of 6,000 or more; a decrement takes one
second and an increment adds one, digit by digit, and 99:59 stays (R126, R133, R134). -/
def Obligations.DisplayedTimeIsExact : Prop :=
  ((∀ v : Mmss, v.seconds = 600 * v.mt + 60 * v.mu + 10 * v.st + v.su)
      ∧ (∀ v : Mmss, v.Valid → display v.seconds = v)
      ∧ (∀ n : Nat, n < 6000 → (display n).Valid ∧ (display n).seconds = n)
      ∧ ∀ n : Nat, 6000 ≤ n → display n = ⟨9, 9, 5, 9⟩)
  ∧ (∀ v : Mmss, v.Valid →
      (1 ≤ v.seconds → v.pred.Valid ∧ v.pred.seconds + 1 = v.seconds)
      ∧ (v.seconds < 5999 → v.succ.Valid ∧ v.succ.seconds = v.seconds + 1)
      ∧ (v.seconds = 5999 → v.succ = v))

/-- The level of a block is its largest magnitude, that of -32,768 being 32,767, and the detector steps its voice flag
with hysteresis and its silence run from the flag (R145 to R148). -/
def Obligations.BlocksStepTheDetector : Prop :=
  (∀ x : Half, magnitude x = if x = 0x8000 then 32767 else x.toInt.natAbs)
    ∧ (∀ l : List Half, (∀ x ∈ l, magnitude x ≤ blockLevel l) ∧ blockLevel l ≤ 32767
        ∧ (l ≠ [] → ∃ x ∈ l, blockLevel l = magnitude x))
    ∧ ∀ (f : FloorConfig) (d : Detector) (level : Nat),
      let v := if d.voice = false ∧ f.onThreshold ≤ level then true
        else if d.voice = true ∧ level < f.offThreshold then false else d.voice
      measure f d level = { voice := v, level := level, peak := max d.peak level
                            run := if v then 0 else if d.run < 131071 then d.run + 1 else 131071 }

/-! ### Frames from the seats -/

/-- A frame on a DOWN or disabled branch is lost; otherwise the first of the three checks that fails counts it
(R22, R25 to R28). -/
def Obligations.PortChecksCountBadFrames : Prop :=
  ∀ (b : BranchId) (f : Frame) (s : State) (i : Instr), (i = .seatReport b f ∨ i = .seatAudio b f) →
    ((s.port b).up = false ∨ (s.branches.record b).enabled = false → Machine.exec i s = .next s)
    ∧ ((s.port b).up = true → (s.branches.record b).enabled = true →
      (f.length < 4 ∨ (f.getD 1 0).toNat ≠ f.length - 4
          ∨ bytesOf (checkSequence (f.take (f.length - 2))) ≠ f.drop (f.length - 2) →
        Machine.exec i s = .next (s.updPort b fun p => { p with checkErr := min 65535 (p.checkErr + 1) }))
      ∧ (frameOk f = true → ¬(f.head? = some 0x21 ∧ f.getD 1 0 = 6) → ¬(f.head? = some 0x30 ∧ f.getD 1 0 = 99) →
        Machine.exec i s = .next (s.updPort b fun p => { p with kindErr := min 65535 (p.kindErr + 1) }))
      ∧ (frameOk f = true → (f.head? = some 0x21 ∧ f.getD 1 0 = 6) ∨ (f.head? = some 0x30 ∧ f.getD 1 0 = 99) →
        (let k := (f.getD 2 0 ++ f.getD 3 0).toNat
         k < (s.branches.record b).first ∨ (s.branches.record b).last < k ∨ 1023 < k) →
        Machine.exec i s = .next (s.updPort b fun p => { p with rangeErr := min 65535 (p.rangeErr + 1) })))

/-- A valid report makes an ABSENT seat PRESENT without a press act; a CHAIR seat's KEY2 level goes to the priority key
outside ROLL_CALL; an attach restart runs the absence cascade first. A report during RECALLING is set aside, one during
ROLL_CALL only records, and in READY a report without a press records, with a mark where presses cancelled. A report with
several keys takes its acts in order, each whole before the next: the mark of an even difference, KEY1, then the KEY2
level of a CHAIR seat or the KEY2 press of any other, then the KEY3 press of a CHAIR seat (R13 to R15, R46, R47, R59,
R175). -/
def Obligations.ReportsRecordTheSeat : Prop :=
  (∀ (b : BranchId) (f : Frame) (s : State) (n : SeatNo) (r : Report), s.Hears b f n r →
      s.startUp.state ≠ .recalling → ((s.seat n).run.present = false ∨ r.attach = true) →
      let s0 := if (s.seat n).run.present then s.cascade [n] else s
      let s1 := s0.recorded n r
      let s2 := if (s.seat n).cfg.cls = .chair ∧ s.startUp.state = .ready then s1.priorityKey n r.down2 false else s1
      Machine.exec (.seatReport b f) s = .next ((s2.mark n).notice .seatPresent (some n) none none))
  ∧ (∀ (b : BranchId) (f : Frame) (s : State) (n : SeatNo) (r : Report), s.Hears b f n r →
      (s.startUp.state = .recalling → Machine.exec (.seatReport b f) s = .next s)
      ∧ (s.startUp.state = .rollCall → (s.seat n).run.present = true → r.attach = false →
        Machine.exec (.seatReport b f) s = .next (s.recorded n r))
      ∧ (s.startUp.state = .ready → (s.seat n).run.present = true → r.attach = false → (s.seat n).cfg.cls ≠ .chair →
        (r.count1 - (s.seat n).run.ref1).getLsbD 0 = false → (r.count2 - (s.seat n).run.ref2).getLsbD 0 = false →
        Machine.exec (.seatReport b f) s = .next
          (if (r.count1 ≠ (s.seat n).run.ref1) ∨ (r.count2 ≠ (s.seat n).run.ref2)
              ∨ (r.count3 ≠ (s.seat n).run.ref3 ∧ (r.count3 - (s.seat n).run.ref3).getLsbD 0 = false)
            then (s.recorded n r).mark n else s.recorded n r)))
  ∧ (∀ (b : BranchId) (f : Frame) (s : State) (n : SeatNo) (r : Report), s.HearsOrdinary b f n r →
      let d1 := r.count1 - (s.seat n).run.ref1
      let d2 := r.count2 - (s.seat n).run.ref2
      let d3 := r.count3 - (s.seat n).run.ref3
      let even (d : BitVec 4) : Prop := d ≠ 0 ∧ d.getLsbD 0 = false
      ∃ marked first second last : State,
        (even d1 ∨ even d2 ∨ even d3 → marked = (s.recorded n r).mark n)
        ∧ (¬(even d1 ∨ even d2 ∨ even d3) → marked = s.recorded n r)
        ∧ first = (if d1.getLsbD 0 then (marked.undisplayed n).key1Act n r.claimed else marked)
        ∧ second = (if (s.seat n).cfg.cls = .chair then first.priorityKey n r.down2 (s.seat n).run.down2
            else if d2.getLsbD 0 then (first.undisplayed n).key2Act n r.claimed else first)
        ∧ last = (if d3.getLsbD 0 = true ∧ (s.seat n).cfg.cls = .chair then (second.undisplayed n).chairNext n
            else second)
        ∧ Machine.exec (.seatReport b f) s = .next last)

/-- The five checks of admission, in their order, against the level after the clamp (R52, R53). -/
def Obligations.AdmissionRefusesInOrder : Prop :=
  ∀ (s : State) (n : SeatNo) (claimed : Level) (k : RequestKind),
    let entitled := match k, (s.seat n).cfg.order with
      | .order, some o => o
      | _, _ => (s.seat n).cfg.speak
    let q := s.admissionRefusal n (effectiveLevel claimed ((s.seat n).cfg.entitled k))
    (s.floor = .closed → q = some .closed)
    ∧ (s.floor ≠ .closed → (s.seat n).cfg.cls = .observer → q = some .notEntitled)
    ∧ (s.floor ≠ .closed → (s.seat n).cfg.cls ≠ .observer → (s.seat n).cfg.barred = true → q = some .barred)
    ∧ (s.floor ≠ .closed → (s.seat n).cfg.cls ≠ .observer → (s.seat n).cfg.barred = false →
      (64 ≤ s.list.entries.length → q = some .listFull)
      ∧ (s.list.entries.length < 64 → s.list.restraint = true → claimed = 3 ∨ entitled = 3 → q = some .restrained)
      ∧ (s.list.entries.length < 64 → s.list.restraint = false ∨ (claimed ≠ 3 ∧ entitled ≠ 3) → q = none))

/-- A KEY1 press, or the KEY2 press of a seat without an order level: by the seat's floor state a request, a withdrawal
or a close; for a CHAIR seat off the floor a chair grant (R48, R49, R54, R55, R57 to R59). -/
def Obligations.FirstKeyFollowsTheFloorState : Prop :=
  ∀ (b : BranchId) (f : Frame) (s : State) (n : SeatNo) (r : Report), s.HearsOrdinary b f n r →
    r.count3 = (s.seat n).run.ref3 →
    ((r.count1 - (s.seat n).run.ref1).getLsbD 0 = true ∧ r.count2 = (s.seat n).run.ref2)
      ∨ (r.count1 = (s.seat n).run.ref1 ∧ (r.count2 - (s.seat n).run.ref2).getLsbD 0 = true
        ∧ (s.seat n).cfg.cls ≠ .chair ∧ (s.seat n).cfg.order = none) →
    ((s.seat n).cfg.cls = .chair → r.down2 = decide (n ∈ s.holders)) →
    let s1 := (s.recorded n r).undisplayed n
    let speak := (s.seat n).cfg.speak
    ((s.seat n).run.floor = .idle → (s.seat n).cfg.cls ≠ .chair →
      (∀ q : Reason, s.admissionRefusal n (max r.claimed speak) = some q →
        Machine.exec (.seatReport b f) s = .next (s1.refused n q))
      ∧ (s.admissionRefusal n (max r.claimed speak) = none →
        Machine.exec (.seatReport b f) s = .next (s1.admitted n .speak r.claimed speak)))
    ∧ ((s.seat n).run.floor = .idle → (s.seat n).cfg.cls = .chair → Machine.exec (.seatReport b f) s = .next
        (if (s.seat n).cfg.barred then s1.refused n .barred else s1.chairGrant n false))
    ∧ ((s.seat n).run.floor = .waiting →
        Machine.exec (.seatReport b f) s = .next (s1.removeEntry n .withdrawn))
    ∧ ∀ c : ChanNo, (s.seat n).run.floor = .speaking → (s.seat n).run.chan = some c →
        Machine.exec (.seatReport b f) s = .next
          (if (s.seat n).cfg.keyClose then s1.closeAndFill c n .seatClosed else s1)

/-- A KEY2 press of a seat with an order level: a new ORDER request, the upgrade or withdrawal of its entry, or nothing
while it speaks (R49, R56). -/
def Obligations.SecondKeyFollowsTheEntry : Prop :=
  ∀ (b : BranchId) (f : Frame) (s : State) (n : SeatNo) (r : Report) (o : Level), s.HearsOrdinary b f n r →
    s.ListOk → (s.seat n).cfg.cls ≠ .chair → (s.seat n).cfg.order = some o →
    r.count1 = (s.seat n).run.ref1 → r.count3 = (s.seat n).run.ref3 →
    (r.count2 - (s.seat n).run.ref2).getLsbD 0 = true →
    let s1 := (s.recorded n r).undisplayed n
    ((s.seat n).run.floor = .idle →
      (∀ q : Reason, s.admissionRefusal n (max r.claimed o) = some q →
        Machine.exec (.seatReport b f) s = .next (s1.refused n q))
      ∧ (s.admissionRefusal n (max r.claimed o) = none →
        Machine.exec (.seatReport b f) s = .next (s1.admitted n .order r.claimed o)))
    ∧ (∀ e ∈ s.list.entries, e.seat = n → (s.seat n).run.floor = .waiting →
      (e.kind = .order → Machine.exec (.seatReport b f) s = .next (s1.removeEntry n .withdrawn))
      ∧ (e.kind = .speak → (s.seat n).cfg.barred = true →
        Machine.exec (.seatReport b f) s = .next (s1.refused n .barred))
      ∧ (e.kind = .speak → (s.seat n).cfg.barred = false →
        let e' := { e with kind := .order, claimed := r.claimed, effective := max r.claimed o
                           clamped := decide (r.claimed < o), upgraded := true
                           exhausted := s.applies n && (s.seat n).run.budget == 0 }
        let moved := State.placeEntry e' (s.list.entries.filter fun x => x.seat != n)
        let s2 := (s1.withList { s.list with entries := moved }).markMoved s.list.entries
        Machine.exec (.seatReport b f) s = .next ((s2.notice .listed (some n) none none).handOn n)))
    ∧ ((s.seat n).run.floor = .speaking → Machine.exec (.seatReport b f) s = .next s1)

/-- The chair's keys: KEY2 DOWN joins the holder set, with a chair grant for a seat off the floor, KEY2 UP leaves it,
and a KEY3 press is NEXT; a BARRED seat is refused (R50, R51). -/
def Obligations.ChairKeysHoldAndAdvance : Prop :=
  ∀ (b : BranchId) (f : Frame) (s : State) (n : SeatNo) (r : Report), s.HearsOrdinary b f n r →
    (s.seat n).cfg.cls = .chair → r.count1 = (s.seat n).run.ref1 →
    (r.count2 = (s.seat n).run.ref2 ∨ (r.count2 - (s.seat n).run.ref2).getLsbD 0 = true) →
    let s1 := s.recorded n r
    (r.count3 = (s.seat n).run.ref3 →
      (r.down2 = true → n ∉ s.holders → (s.seat n).cfg.barred = true → Machine.exec (.seatReport b f) s = .next
        (if (s.seat n).run.down2 then s1 else s1.refused n .barred))
      ∧ (r.down2 = true → n ∉ s.holders → (s.seat n).cfg.barred = false → Machine.exec (.seatReport b f) s = .next
        ((if (s.seat n).run.floor = .speaking then s1 else s1.chairGrant n true).joinHolders n))
      ∧ (r.down2 = true → n ∈ s.holders → Machine.exec (.seatReport b f) s = .next s1)
      ∧ (r.down2 = false → Machine.exec (.seatReport b f) s = .next (s1.leaveHolders n)))
    ∧ ((r.count3 - (s.seat n).run.ref3).getLsbD 0 = true → r.down2 = decide (n ∈ s.holders) →
      let s2 := s1.undisplayed n
      Machine.exec (.seatReport b f) s = .next
        (if (s.seat n).cfg.barred then s2.refused n .barred else s2.next.1))

/-- An audio block is counted as stray unless its seat holds the busy channel it names; on a HELD channel it goes on
with 48 samples of 0 and the held marker, on an OPEN one unchanged, and is measured, which may release the channel for
silence (R40, R97, R98, R146, R149, R151). -/
def Obligations.AudioFollowsTheChannel : Prop :=
  ∀ (b : BranchId) (f : Frame) (s : State) (n : SeatNo) (x : Block), s.HearsBlock b f n x →
    let queue (y : AudioFrame) : List AudioFrame :=
      if (s.uplink.audio.any fun z => z.chan == y.chan) then
        (s.uplink.audio.map fun z => if z.chan = y.chan then y else z)
      else s.uplink.audio ++ [y]
    let forwarded (y : AudioFrame) : State :=
      if s.uplink.up then s.withUplink { s.uplink with audio := queue y } else s
    ((16 ≤ x.chan ∨ ∀ c : ChanNo, c.val = x.chan → (s.chan c).state = .free ∨ (s.chan c).seat ≠ some n) →
      Machine.exec (.seatAudio b f) s = .next
        (s.updPort b fun p => { p with audioStray := min 65535 (p.audioStray + 1) }))
    ∧ ∀ c : ChanNo, c.val = x.chan → (s.chan c).seat = some n →
      ((s.chan c).state = .held → Machine.exec (.seatAudio b f) s = .next
        (forwarded ⟨c, n, true, List.replicate 48 0⟩))
      ∧ ((s.chan c).state = .opened →
        let d := measure s.floorCfg (s.chan c).detector (blockLevel x.samples)
        let s1 := (forwarded ⟨c, n, false, x.samples⟩).updChan c fun k => { k with detector := d }
        x.samples.length = 48 ∧ Machine.exec (.seatAudio b f) s = .next
          (if 1 ≤ s.floorCfg.silenceS ∧ s.floorCfg.silenceS ≤ 120 ∧ (s.chan c).kind ≠ some .chair
              ∧ s.floorCfg.silenceS * 1000 ≤ d.run
            then s1.closeAndFill c n .silence else s1))

/-! ### The uplink's programme, the links and the transmitters -/

/-- A sound PROGRAMME frame is copied to every UP branch that holds fewer than two, a damaged one is dropped, and a
frame of any other kind but MANAGEMENT is discarded without count (R31, R39). -/
def Obligations.ProgrammeIsCopiedToTheBranches : Prop :=
  ∀ (f : Frame) (s : State),
    (s.uplink.up = true → frameKind f = some 0x50 → frameOk f = true →
      ∃ t : State, Machine.exec (.programme f) s = .next t ∧ t = s.withPorts t.ports
        ∧ ∀ b : BranchId, t.port b = { s.port b with programme :=
            if (s.port b).up = true ∧ (s.port b).programme.length < 2 then (s.port b).programme ++ [f]
            else (s.port b).programme })
    ∧ (s.uplink.up = false ∨ (frameKind f = some 0x50 ∧ frameOk f = false)
        ∨ (frameKind f ≠ some 0x50 ∧ frameKind f ≠ some 0x60) → Machine.exec (.programme f) s = .next s)

/-- A branch follows its carrier: UP with its LINK notice and no other change; DOWN with everything it held discarded,
its LINK notice and the absence cascade of its PRESENT seats. The uplink follows its carrier: UP with its LINK notice;
DOWN with the frame in transmission, the channel audio and the built replies discarded, the notices and reservations
kept, and its own LINK notice dropped and counted. Discarding the RESET reply makes the reset due (R22 to R24, R174). -/
def Obligations.LinksFollowTheirCarriers : Prop :=
  (∀ (b : BranchId) (s : State),
      ((s.port b).up = false → Machine.exec (.branchLinkUp b) s = .next
        ((s.updPort b fun p => { p with carrier := true, up := true }).notice .link none none
          (some (.linkUp (.branch b)))))
      ∧ ((s.port b).up = true → Machine.exec (.branchLinkUp b) s = .next
        (s.updPort b fun p => { p with carrier := true }))
      ∧ ((s.port b).up = true → Machine.exec (.branchLinkDown b) s = .next
        (((s.updPort b fun p => { p with carrier := false, up := false, tx := none, cmdSet := [], programme := [] }).notice
          .link none none (some (.linkDown (.branch b)))).cascade
            (s.seatsWhere fun n r => r.run.present && s.branches.branchOf n == some b)))
      ∧ ((s.port b).up = false → Machine.exec (.branchLinkDown b) s = .next
        (s.updPort b fun p => { p with carrier := false })))
  ∧ (∀ s : State,
      (s.uplink.up = false → Machine.exec .uplinkUp s = .next
        ((s.withUplink { s.uplink with carrier := true, up := true }).notice .link none none (some (.linkUp .uplink))))
      ∧ (s.uplink.up = true → Machine.exec .uplinkUp s = .next (s.withUplink { s.uplink with carrier := true }))
      ∧ (s.uplink.up = false → Machine.exec .uplinkDown s = .next (s.withUplink { s.uplink with carrier := false }))
      ∧ (s.uplink.up = true → ∃ t : State, Machine.exec .uplinkDown s = .next t
        ∧ t.uplink = { carrier := false, up := false, audio := [], tx := none, notices := s.uplink.notices
                       replies := s.uplink.replies.filter fun p => match p with
                         | .built _ => false
                         | _ => true }
        ∧ t.mgmt = (if s.floorCfg.enables.getLsbD 11 then
            { s.mgmt with noticeDrop := min 65535 (s.mgmt.noticeDrop + 1), gap := true } else s.mgmt)
        ∧ ((∃ r : Reply, r.resets = true ∧ .built r ∈ s.uplink.replies) ∨ (∃ x, s.uplink.tx = some x ∧ x.resets = true) →
          t.startUp = { s.startUp with reset := .due })
        ∧ ((∀ r : Reply, .built r ∈ s.uplink.replies → r.resets = false) →
          (∀ x, s.uplink.tx = some x → x.resets = false) → t.startUp = s.startUp)
        ∧ t = ((s.withUplink t.uplink).withMgmt t.mgmt).withStartUp t.startUp))

/-- A branch's transmitter, when it is free and UP, starts the oldest programme frame, and otherwise the command for the
head of the set, built from the seat's state at that moment; a completed frame leaves it free. The uplink's transmitter,
when it is free and UP and no reset is due, starts channel audio before a built reply at the head of its queue, and that
before a notice; the completion of the RESET reply makes the reset due (R32, R35, R39 to R42, R174). That a transmit
command the arbiter would not choose changes nothing is the model's choice of notes/assumptions/5.md. -/
def Obligations.TransmittersSendInTheirOrder : Prop :=
  (∀ (b : BranchId) (s : State),
      ((s.port b).up = true → (s.port b).tx = none →
        (∀ (f : Frame) (l : List Frame), (s.port b).programme = f :: l →
          Machine.exec (.programmeTransmit b) s = .next
              (s.updPort b fun p => { p with programme := l, tx := some f })
            ∧ Machine.exec (.seatCommand b) s = .next s)
        ∧ (∀ (n : SeatNo) (l : List SeatNo), (s.port b).programme = [] → (s.port b).cmdSet = n :: l →
          Machine.exec (.seatCommand b) s = .next
              ((s.updPort b fun p => { p with cmdSet := l, tx := some (seatCommandFrame n (s.seatShow n)) }).updRun n
                fun r => { r with lastCommand := s.now })
            ∧ Machine.exec (.programmeTransmit b) s = .next s))
      ∧ ((s.port b).up = false ∨ (s.port b).tx ≠ none →
          Machine.exec (.programmeTransmit b) s = .next s ∧ Machine.exec (.seatCommand b) s = .next s)
      ∧ Machine.exec (.branchTransmitComplete b) s = .next (s.updPort b fun p => { p with tx := none }))
  ∧ (∀ s : State,
      (s.uplink.up = true → s.uplink.tx = none → s.startUp.reset ≠ .due →
        (∀ (x : AudioFrame) (l : List AudioFrame), s.uplink.audio = x :: l →
          Machine.exec .channelAudioTransmit s = .next
              (s.withUplink { s.uplink with audio := l, tx := some ⟨audioFrame x, false⟩ })
            ∧ Machine.exec .replyTransmit s = .next s ∧ Machine.exec .noticeTransmit s = .next s)
        ∧ (∀ (r : Reply) (l : List ReplyPlace), s.uplink.audio = [] → s.uplink.replies = .built r :: l →
          Machine.exec .replyTransmit s = .next
              (s.withUplink { s.uplink with replies := l, tx := some ⟨replyFrame r, r.resets⟩ })
            ∧ Machine.exec .noticeTransmit s = .next s)
        ∧ (∀ (x : Notice) (l : List Notice), s.uplink.audio = [] →
          (∀ r : Reply, s.uplink.replies.head? ≠ some (.built r)) → s.uplink.notices = x :: l →
          Machine.exec .noticeTransmit s = .next
              (s.withUplink { s.uplink with notices := l, tx := some ⟨noticeFrame x, false⟩ })
            ∧ Machine.exec .replyTransmit s = .next s))
      ∧ (∀ x : UplinkTx, s.uplink.tx = some x → Machine.exec .uplinkTransmitComplete s = .next
          (if x.resets then (s.withUplink { s.uplink with tx := none }).withStartUp { s.startUp with reset := .due }
            else s.withUplink { s.uplink with tx := none })))

/-- What a seat command shows: microphone and ring by the channel and its timer, lamp, position, and the time field
(R36, R37); and the seven bytes that carry it, bit by bit (R44, 2.8). -/
def Obligations.SeatCommandShowsTheSeat : Prop :=
  ∀ (s : State) (n : SeatNo),
    let lamp : Lamp := if (s.seat n).run.refusalShown then .refused
      else if (s.seat n).run.floor = .waiting then .waiting else .dark
    let place := if (s.seat n).run.floor = .waiting then positionIn s.list.entries n else 0
    (∀ c : ChanNo, (s.seat n).run.floor = .speaking → (s.seat n).run.chan = some c →
      let t := (s.chan c).timer
      s.seatShow n =
        { microphone := if (s.chan c).state = .held then .held else .live
          ring := if t.mode = .countdown ∧ t.warned = true then .slowBlink
            else if t.mode = .overtime then .fastBlink else .steady
          lamp := lamp, position := place
          timeMode := match t.mode with
            | .countdown => .remaining
            | .overtime => .overtime
            | .elapsed => .elapsed
          time := t.value })
    ∧ ((s.seat n).run.floor ≠ .speaking →
      s.seatShow n =
        { microphone := .off, ring := .dark, lamp := lamp, position := place
          timeMode := if (s.seat n).run.present = true ∧ s.floorCfg.showBudget = true ∧ s.applies n = true
            then .remaining else .blank
          time := if (s.seat n).run.present = true ∧ s.floorCfg.showBudget = true ∧ s.applies n = true
            then display (s.seat n).run.budget else ⟨0, 0, 0, 0⟩ })
    ∧ ∀ x : SeatShow, x.time.Valid →
      let microphone : BitVec 2 := match x.microphone with
        | .off => 0
        | .live => 1
        | .held => 2
      let ring : BitVec 2 := match x.ring with
        | .dark => 0
        | .steady => 1
        | .slowBlink => 2
        | .fastBlink => 3
      let request : BitVec 2 := match x.lamp with
        | .dark => 0
        | .waiting => 1
        | .refused => 2
      let mode : Byte := match x.timeMode with
        | .blank => 0
        | .remaining => 1
        | .overtime => 2
        | .elapsed => 3
      seatCommandFrame n x = mkFrame 0x41
        [BitVec.ofNat 8 (n.val / 256), BitVec.ofNat 8 (n.val % 256), microphone ++ ring ++ 0#2 ++ request,
          BitVec.ofNat 8 x.position, mode, BitVec.ofNat 4 x.time.mt ++ BitVec.ofNat 4 x.time.mu,
          BitVec.ofNat 4 x.time.st ++ BitVec.ofNat 4 x.time.su]

/-! ### Timed events, resets and start-up -/

/-- A presence timeout runs the absence cascade of a PRESENT seat once the timeout has passed since its last-heard time, a
refusal timer's expiry ends the display 2,000 ms after its last start, and a refresh marks a PRESENT seat 5,000 ms after
its last command (R16, R34, R45, R59). An event whose time was restarted first does not happen, as R16 and R59 say; that
the command changes nothing then is the model's choice of notes/assumptions/5.md. A report taken first is acted on and
restarts the timeout; the expiry that follows it applies the cascade to whatever its presses made (R16 and the last row of
R61, read together in notes/assumptions/23.md). -/
def Obligations.TimedSeatEvents : Prop :=
  ∀ (n : SeatNo) (s : State),
    ((s.seat n).run.present = true → s.floorCfg.presenceMs ≤ s.now - (s.seat n).run.lastHeard →
      Machine.exec (.presenceTimeout n) s = .next (s.cascade [n]))
    ∧ ((s.seat n).run.present = false ∨ s.now - (s.seat n).run.lastHeard < s.floorCfg.presenceMs →
      Machine.exec (.presenceTimeout n) s = .next s)
    ∧ ((s.seat n).run.present = true → 5000 ≤ s.now - (s.seat n).run.lastCommand →
      Machine.exec (.commandRefresh n) s = .next (s.mark n))
    ∧ ((s.seat n).run.present = false ∨ s.now - (s.seat n).run.lastCommand < 5000 →
      Machine.exec (.commandRefresh n) s = .next s)
    ∧ (∀ k : Nat, s.refusalOf n = some k →
      (k + 2000 ≤ s.now → Machine.exec (.refusalTimerExpiry n) s = .next
        (((s.updRun n fun x => { x with refusalShown := false }).setRefusal n none).mark n))
      ∧ (s.now < k + 2000 → Machine.exec (.refusalTimerExpiry n) s = .next s))
    ∧ (s.refusalOf n = none → Machine.exec (.refusalTimerExpiry n) s = .next s)
    ∧ (∀ (b : BranchId) (f : Frame) (r : Report), s.HearsOrdinary b f n r → ∃ t : State,
      Machine.exec (.seatReport b f) s = .next t ∧ ∀ k : Nat, s.now ≤ k →
        Machine.exec (.presenceTimeout n) (t.withNow k) = .next
          (if s.floorCfg.presenceMs ≤ k - s.now then (t.withNow k).cascade [n] else t.withNow k))

/-- An elapsed second of an OPEN channel whose phase stands at 999: the used count, the step of the value, the warning, the
expiry with its CUT or OVERRUN, and the mark. On a channel that is not OPEN, or whose phase stands elsewhere, as at a new
grant, no second elapses (R91, R130, R132, R135 to R139, R141); that the command changes nothing then is the model's choice
of notes/assumptions/5.md. -/
def Obligations.ElapsedSecondStepsTheTimer : Prop :=
  ∀ (c : ChanNo) (s : State) (n : SeatNo) (k : TurnKind), (s.chan c).seat = some n → (s.chan c).kind = some k →
    let t := (s.chan c).timer
    let used := min 65535 (t.used + 1)
    let x := if k = .chair then SeatClass.chair else (s.seat n).cfg.cls
    let w := if x = .observer then 0 else (s.classes.record x).warning.seconds
    let act := if x = .observer then ExpiryAction.cut else (s.classes.record x).expiry
    ((s.chan c).state ≠ .opened ∨ t.phase < 999 → Machine.exec (.secondElapsed c) s = .next s)
    ∧ ((s.chan c).state = .opened → 999 ≤ t.phase → t.mode = .countdown →
      let v := t.value.pred
      let warn := decide (0 < w) && !t.warned && decide (v.seconds ≤ w)
      let s1 := s.updChan c fun y => { y with timer :=
        { t with value := v, used := used, phase := 0, warned := t.warned || warn } }
      let s2 := if warn then s1.notice .warning (some n) (some c) none else s1
      (v ≠ ⟨0, 0, 0, 0⟩ → Machine.exec (.secondElapsed c) s = .next (s2.mark n))
      ∧ (v = ⟨0, 0, 0, 0⟩ → act = .cut →
        Machine.exec (.secondElapsed c) s = .next ((s2.closeAndFill c n .timeUp).mark n))
      ∧ (v = ⟨0, 0, 0, 0⟩ → act = .overrun →
        Machine.exec (.secondElapsed c) s = .next
          (((s2.updChan c fun y => { y with timer := { y.timer with mode := .overtime } }).notice .expired (some n)
            (some c) none).mark n)))
    ∧ ((s.chan c).state = .opened → 999 ≤ t.phase → t.mode ≠ .countdown →
      let s1 := s.updChan c fun y => { y with timer := { t with value := t.value.succ, used := used, phase := 0 } }
      Machine.exec (.secondElapsed c) s = .next (if t.value.succ = t.value then s1 else s1.mark n))

/-- Either reset leaves every block at its after-reset values in RECALLING. The power-up reset makes the profile
DEFAULTED; the command reset keeps the status, and happens only once RESET has asked for it. A store in flight leaves
the profile memory as far as it had come (R21, R42, R81, R99, R100, R170, R173, R174, R176). That a store writes its words
in ascending order, so that the memory holds the first words new and the rest old, is the model's choice of
notes/assumptions/3.md, and that these are the words of the working configuration as it stands at the cut, with a mode,
open limit or gate level set during the store, is that of notes/assumptions/24.md; that the command reset is carried out while the RESET reply is in transmission, and changes
nothing where no RESET asked for it, is that of notes/assumptions/12.md. -/
def Obligations.ResetsRunTheSequence : Prop :=
  ∀ s : State,
    (∃ t : State, Machine.exec .powerUpReset s = .next t ∧ s.AfterReset t .power ∧ t.profile.status = .defaulted
      ∧ ((∀ k : Nat, s.profile.op ≠ some (.store k)) →
        t.profile.words = s.profile.words ∧ t.profile.check = s.profile.check)
      ∧ (∀ k : Nat, s.profile.op = some (.store k) → ∃ reach : Nat,
        t.profile.words = (profileWords s.configuration).take reach ++ s.profile.words.drop (min reach 1065)
          ∧ t.profile.check = if 1065 < reach then some (checkWord (profileWords s.configuration)) else none))
    ∧ ((s.startUp.reset = .due ∨ ∃ x, s.uplink.tx = some x ∧ x.resets = true) →
      ∃ t : State, Machine.exec .commandReset s = .next t ∧ s.AfterReset t .command
        ∧ t.profile.status = s.profile.status
        ∧ ((∀ k : Nat, s.profile.op ≠ some (.store k)) →
          t.profile.words = s.profile.words ∧ t.profile.check = s.profile.check))
    ∧ (s.startUp.reset ≠ .due → (∀ x, s.uplink.tx = some x → x.resets = false) →
      Machine.exec .commandReset s = .next s)

/-- The recall of RECALLING loads the profile, or the defaults if its check word is bad, gives every seat its initial
budget with the marks of R9, and begins the roll call; the end of the roll call, 2,000 ms later, makes the controller
READY and opens the floor if open at start, as that recall loaded it, is yes (R9, R10, R21, R170, R172, R174, R175; that
no write or recall of the roll call has a part in it is the model's reading, notes/assumptions/25.md). That ABSENT seats are
marked, in ascending seat number, is the model's choice of notes/assumptions/13.md; that a command outside its state or before its
time changes nothing is that of notes/assumptions/5.md. -/
def Obligations.StartUpRecallsAndBecomesReady : Prop :=
  ∀ s : State, s.FloorOk →
    (s.startUp.state = .recalling → ∃ t : State, Machine.exec .startUpRecallComplete s = .next t
      ∧ (∀ n : SeatNo, (t.seat n).cfg = s.profile.recalled.seats[n]
        ∧ (t.seat n).run = { (s.seat n).run with
            budget := (s.profile.recalled.classes.record (s.profile.recalled.seats[n]).cls).initial })
      ∧ t.classes = s.profile.recalled.classes ∧ t.branches = s.profile.recalled.branches
      ∧ t.floorCfg = s.profile.recalled.floorCfg
      ∧ t.profile = { s.profile with status := if s.profile.good then .valid else .defaulted }
      ∧ t.startUp = { s.startUp with state := .rollCall, since := s.now, opens := s.profile.recalled.floorCfg.openAtStart }
      ∧ t.channels = s.channels ∧ t.grantOrder = s.grantOrder ∧ t.holders = [] ∧ t.floor = .closed
      ∧ t.list.entries = []
      ∧ ∃ u : State, u = (s.withBranches t.branches).withPorts u.ports
        ∧ (∀ b : BranchId, u.port b = { s.port b with
            cmdSet := (s.port b).cmdSet.filter fun n => t.branches.branchOf n == some b })
        ∧ t.ports = (u.markAll (allSeats.filter fun n => (s.seat n).run.budget != (t.seat n).run.budget
            && t.floorCfg.showBudget && t.applies n)).ports)
    ∧ (s.startUp.state ≠ .recalling → Machine.exec .startUpRecallComplete s = .next s)
    ∧ (s.startUp.state ≠ .rollCall ∨ s.now < s.startUp.since + 2000 → Machine.exec .startUpReady s = .next s)
    ∧ (s.startUp.state = .rollCall → s.startUp.since + 2000 ≤ s.now → Machine.exec .startUpReady s = .next
      ((if s.startUp.opens then s.withFloor .opened else s).withStartUp
        { s.startUp with state := .ready, since := s.now }))

/-! ### Management -/

/-- A management frame on a DOWN uplink is lost; one that fails its check, carries no operation or finds the reply queue
full is counted; one handed on after RESET waits unanswered. A frame whose operation code is not listed, or whose fields
are longer or shorter than 2.8 gives, is answered UNKNOWN; a WRITE TABLE of a table code above 3 and a SEAT FLAGS of an
action code above 3 are out of range. Configuration writes and profile operations are BUSY while RECALLING and while a
profile operation is in flight; floor commands are BUSY while RECALLING and refused in ROLL_CALL (R22, R39, R44, R154,
R156, R166, R174). That an action code above 3 is out of range in the held-off windows too is the model's choice of
notes/assumptions/17.md. -/
def Obligations.FramesTurnedAway : Prop :=
  (∀ (i : Instr) (f : Frame) (s : State), i.managementFrame = some f →
      (s.uplink.up = false → Machine.exec i s = .next s)
      ∧ (s.uplink.up = true → (frameOk f = false ∨ (payload f).length < 2 ∨ 16 ≤ s.uplink.replies.length) →
        Machine.exec i s = .next (s.withMgmt { s.mgmt with mgmtErr := min 65535 (s.mgmt.mgmtErr + 1) }))
      ∧ (s.uplink.up = true → frameOk f = true → 2 ≤ (payload f).length → s.uplink.replies.length < 16 →
        s.startUp.reset ≠ .none → Machine.exec i s = .next
          (s.withUplink { s.uplink with replies := s.uplink.replies ++ [.unanswered] })))
  ∧ (∀ (f : Frame) (s : State) (tag code : Byte) (fields : List Byte), frameKind f = some 0x60 → s.Takes f →
      payload f = tag :: code :: fields →
      (Op.ofCode code = none →
        Machine.exec (.unknownOperation f) s = .next (s.replied tag .unknown []))
      ∧ (∀ o : Op, Op.ofCode code = some o → fieldsFit o fields = false →
        Machine.exec (.unknownOperation f) s = .next (s.replied tag .unknown []))
      ∧ (∀ (x : Byte) (l : List Byte), code = 0x03 → fields = x :: l → 3 < x.toNat →
        Machine.exec (.unknownOperation f) s = .next (s.replied tag .refusedRange []))
      ∧ (∀ a b k g x : Byte, code = 0x04 → fields = [a, b, k, g, x] → 3 < x.toNat →
        Machine.exec (.unknownOperation f) s = .next (s.replied tag .refusedRange [])))
  ∧ (∀ (i : Instr) (f : Frame) (s : State), i.managementFrame = some f → i.wf = true → s.Takes f →
      (i.holdClass = some .write ∨ i.holdClass = some .profile →
        s.startUp.state = .recalling ∨ s.profile.op ≠ none →
        Machine.exec i s = .next (s.replied ((payload f).headD 0) .busy []))
      ∧ (i.holdClass = some .floor →
        (s.startUp.state = .recalling → Machine.exec i s = .next (s.replied ((payload f).headD 0) .busy []))
        ∧ (s.startUp.state = .rollCall →
          Machine.exec i s = .next (s.replied ((payload f).headD 0) .refusedState []))))

/-- IDENTIFY reports the part, the reset cause, the profile status and the start-up state. READ TABLE reports the rows
from the first index on, at most 16 and not past the last, and says whether the count was shortened; READ LIST reports
the entries at 16 positions with the fill and restraint. None changes anything else (R80, R157 to R159). The rows of the
four tables and the list entries hold the bytes of 2.8, bit by bit (R44). -/
def Obligations.ReadoutsReportAndChangeNothing : Prop :=
  (∀ (m : MgmtHead) (s : State), s.Takes (mgmtFrame m .identify []) →
      Machine.exec (.identify m) s = .next (s.replied m.tag .done
        [0x43, 0x57, 0x04, 0x80, 0x01, 0x04, 0x00, 0x10, 0x40,
          (match s.startUp.cause with
            | .power => 0
            | .command => 1),
          (match s.profile.status with
            | .valid => 0
            | .invalid => 1
            | .defaulted => 2),
          (match s.startUp.state with
            | .recalling => 0
            | .rollCall => 1
            | .ready => 2)]))
  ∧ (∀ (m : MgmtHead) (s : State),
      (∀ (table count : Byte) (first : Half),
        s.Takes (mgmtFrame m .readTable ([table] ++ bytesOf first ++ [count])) →
        let rows := if table = 0 then 1024 else if table = 3 then 1 else 4
        let k := min (min 16 count.toNat) (rows - first.toNat)
        let bytes : List Byte :=
          if table = 0 then ((s.seats.toList.drop first.toNat).take k).flatMap (seatRow s.now)
          else if table = 1 then
            (([s.classes.delegate, s.classes.official, s.classes.chair, s.classes.observer].drop first.toNat).take
              k).flatMap classRow
          else if table = 2 then
            (([s.branches.a, s.branches.b, s.branches.c, s.branches.d].drop first.toNat).take k).flatMap branchRow
          else floorRow s.floorCfg
        (3 < table.toNat ∨ rows ≤ first.toNat ∨ count = 0 →
          Machine.exec (.readTable m table first count) s = .next (s.replied m.tag .refusedRange []))
        ∧ (table.toNat ≤ 3 → first.toNat < rows → count ≠ 0 →
          Machine.exec (.readTable m table first count) s = .next
            (s.replied m.tag (if k = count.toNat then .done else .adjusted)
              ([table] ++ bytesOf first ++ [byte k] ++ bytes))))
      ∧ ∀ p : Byte, s.Takes (mgmtFrame m .readList [p]) →
        (p = 0 ∨ 64 < p.toNat → Machine.exec (.readList m p) s = .next (s.replied m.tag .refusedRange []))
        ∧ (p ≠ 0 → p.toNat ≤ 64 →
          let l := (s.list.entries.drop (p.toNat - 1)).take 16
          Machine.exec (.readList m p) s = .next (s.replied m.tag .done
            ([byte s.list.entries.length, (if s.list.restraint then 1 else 0), p, byte l.length]
              ++ l.flatMap entryBytes))))
  ∧ (let pair (k : Nat) : List Byte := [BitVec.ofNat 8 (k / 256), BitVec.ofNat 8 k]
    let time (v : Mmss) : List Byte :=
      [BitVec.ofNat 4 v.mt ++ BitVec.ofNat 4 v.mu, BitVec.ofNat 4 v.st ++ BitVec.ofNat 4 v.su]
    let bit : Bool → BitVec 1 := BitVec.ofBool
    let yes (b : Bool) : Byte := if b then 1 else 0
    (∀ (now : Nat) (x : SeatRecord),
      let r := x.run
      let cls : BitVec 2 := match x.cfg.cls with
        | .delegate => 0
        | .official => 1
        | .chair => 2
        | .observer => 3
      let order : BitVec 3 := match x.cfg.order with
        | some o => BitVec.ofNat 3 o.val
        | none => 4
      let word : Half := cls ++ BitVec.ofNat 2 x.cfg.speak.val ++ order ++ bit x.cfg.barred ++ bit x.cfg.exempt
        ++ bit x.cfg.keyClose ++ 0#6
      let unit : BitVec 2 := match r.unitKind with
        | none => 0
        | some .delegateUnit => 1
        | some .chairUnit => 2
      let floor : BitVec 2 := match r.floor with
        | .idle => 0
        | .waiting => 1
        | .speaking => 2
      let keys : Half := r.ref1 ++ r.ref2 ++ r.ref3 ++ 0#1 ++ bit r.down1 ++ bit r.down2 ++ bit r.down3
      let chan : Byte := match r.chan with
        | some c => BitVec.ofNat 8 c.val
        | none => 0xFF
      seatRow now x = [word.extractLsb' 8 8, word.extractLsb' 0 8,
          bit r.present ++ unit ++ bit r.mismatch ++ bit r.refusalShown ++ floor ++ 0#1,
          keys.extractLsb' 8 8, keys.extractLsb' 0 8, chan] ++ pair r.budget
        ++ pair (if r.present then min 65535 (now - r.lastHeard) else 65535) ++ pair (min 65535 (now - r.lastCommand)))
    ∧ (∀ r : ClassRecord, r.Valid → classRow r = time r.speakLimit ++ time r.orderLimit ++ time r.warning
        ++ [(match r.expiry with
          | .cut => 0
          | .overrun => 1), yes r.enforced] ++ pair r.initial)
    ∧ (∀ r : BranchRecord, branchRow r = [yes r.enabled] ++ pair r.first ++ pair r.last)
    ∧ (∀ f : FloorConfig, floorRow f =
        [(match f.mode with
          | .auto => 0
          | .override => 1
          | .directed => 2), BitVec.ofNat 8 f.limit, BitVec.ofNat 8 f.gate.val, BitVec.ofNat 8 f.high,
          BitVec.ofNat 8 f.low] ++ pair f.presenceMs ++ [BitVec.ofNat 8 f.silenceS] ++ pair f.onThreshold
        ++ pair f.offThreshold ++ [yes f.openAtStart, yes f.showBudget, yes f.relist,
          0#3 ++ f.enables.extractLsb' 8 5, f.enables.extractLsb' 0 8])
    ∧ ∀ e : Entry, entryBytes e = pair e.seat.val
        ++ [(match e.kind with
          | .speak => 0
          | .order => 1), BitVec.ofNat 8 e.claimed.val, BitVec.ofNat 8 e.effective.val,
          e.arrival.extractLsb' 8 8, e.arrival.extractLsb' 0 8,
          0#4 ++ bit e.upgraded ++ bit e.relisted ++ bit e.exhausted ++ bit e.clamped])

/-- READ FLOOR reports the summary and the eight channels of a group, and clears the peaks it reports and nothing else.
READ COUNTERS reports the 18 counters in their order, and with its clear option sets them all to 0 in the same act
(R30, R142, R150, R159, R160). A channel record is the 24 bytes and the summary the 40 bytes of 2.8 (R44). -/
def Obligations.ReadoutsClearWhatTheyReport : Prop :=
  (∀ (m : MgmtHead) (group : Byte) (s : State), s.Takes (mgmtFrame m .readFloor [group]) →
      (1 < group.toNat → Machine.exec (.readFloor m group) s = .next (s.replied m.tag .refusedRange []))
      ∧ (group.toNat ≤ 1 → ∃ t : State,
        Machine.exec (.readFloor m group) s = .next (t.replied m.tag .done
          (floorSummary s group ++ (if group = 0 then allChannels.take 8 else allChannels.drop 8).flatMap
            fun c => channelBytes (s.chan c)))
        ∧ t = s.withChannels t.channels
        ∧ ∀ c : ChanNo, t.chan c = if c.val / 8 = group.toNat then
            { s.chan c with detector := { (s.chan c).detector with peak := 0 } } else s.chan c))
  ∧ (∀ (m : MgmtHead) (clear : Byte) (s : State), s.Takes (mgmtFrame m .readCounters [clear]) →
      let four (b : BranchId) : List Nat :=
        [(s.port b).checkErr, (s.port b).rangeErr, (s.port b).kindErr, (s.port b).audioStray]
      let data := (four .branchA ++ four .branchB ++ four .branchC ++ four .branchD
        ++ [s.mgmt.mgmtErr, s.mgmt.noticeDrop]).flatMap two
      (1 < clear.toNat → Machine.exec (.readCounters m clear) s = .next (s.replied m.tag .refusedRange []))
      ∧ (clear = 0 → Machine.exec (.readCounters m clear) s = .next (s.replied m.tag .done data))
      ∧ (clear = 1 → ∃ t : State, Machine.exec (.readCounters m clear) s = .next (t.replied m.tag .done data)
        ∧ (∀ b : BranchId, t.port b =
            { s.port b with checkErr := 0, rangeErr := 0, kindErr := 0, audioStray := 0 })
        ∧ t = (s.withPorts t.ports).withMgmt { s.mgmt with mgmtErr := 0, noticeDrop := 0 }))
  ∧ (let pair (k : Nat) : List Byte := [BitVec.ofNat 8 (k / 256), BitVec.ofNat 8 k]
    let yes (b : Bool) : Byte := if b then 1 else 0
    (∀ k : Channel, k.timer.value.Valid →
      let v := k.timer.value
      let state : Byte := match k.state with
        | .free => 0
        | .opened => 1
        | .held => 2
      channelBytes k = [state]
        ++ (match k.seat with
          | some n => pair n.val
          | none => [0xFF, 0xFF])
        ++ [(match k.kind with
          | some .speak => 0
          | some .order => 1
          | some .chair => 2
          | none => 0xFF),
          (match k.level with
          | some l => BitVec.ofNat 8 l.val
          | none => 0xFF),
          0#6 ++ BitVec.ofBool k.suspend ++ BitVec.ofBool k.priority,
          (match k.timer.mode with
          | .countdown => 0
          | .overtime => 1
          | .elapsed => 2),
          BitVec.ofNat 4 v.mt ++ BitVec.ofNat 4 v.mu, BitVec.ofNat 4 v.st ++ BitVec.ofNat 4 v.su]
        ++ pair k.timer.allowance ++ pair k.timer.used ++ pair k.timer.phase
        ++ [yes k.timer.warned, yes k.detector.voice] ++ pair k.detector.level ++ pair k.detector.peak
        ++ [BitVec.ofNat 8 (k.detector.run / 65536)] ++ pair k.detector.run)
    ∧ ∀ (s : State) (group : Byte), s.HoldersOk → chairCount s ≤ 8 → s.GrantOrderOk →
      floorSummary s group =
        [group,
          (match s.floor with
          | .closed => 0
          | .opened => 1
          | .suspended => 2),
          (match s.floorCfg.mode with
          | .auto => 0
          | .override => 1
          | .directed => 2),
          BitVec.ofNat 8 s.floorCfg.limit, BitVec.ofNat 8 s.floorCfg.gate.val,
          BitVec.ofNat 8 (s.grantOrder.filter fun c => (s.chan c).kind != some .chair).length,
          BitVec.ofNat 8 s.holders.length]
        ++ (s.holders.flatMap (fun n => pair n.val) ++ List.replicate (16 - 2 * s.holders.length) 0xFF)
        ++ [BitVec.ofNat 8 s.grantOrder.length]
        ++ (s.grantOrder.map (fun c => BitVec.ofNat 8 c.val) ++ List.replicate (16 - s.grantOrder.length) 0xFF))

/-- The clamps of the table writes, field by field, and that a row counts as adjusted exactly when a field was out of its
range: marks, thresholds, silence time, presence timeout, mode, limit, gate, yes and no fields, mm:ss digits, the warning
threshold, the expiry action, and the order level code (R79, R152, R162 to R165). -/
def Obligations.WrittenFieldsAreClamped : Prop :=
  (∀ a b c d e f x y hi lo : Byte,
      let time (p q : Byte) : Mmss :=
        ⟨min 9 (p.toNat / 16), min 9 (p.toNat % 16), min 5 (q.toNat / 16), min 9 (q.toNat % 16)⟩
      let wide (p q : Byte) : Prop := 9 < p.toNat / 16 ∨ 9 < p.toNat % 16 ∨ 5 < q.toNat / 16 ∨ 9 < q.toNat % 16
      let r : ClassRecord :=
        { speakLimit := time a b, orderLimit := time c d
          warning := if 599 < (time e f).seconds then ⟨0, 9, 5, 9⟩ else time e f
          expiry := if x = 0 then .cut else .overrun, enforced := decide (y ≠ 0), initial := (hi ++ lo).toNat }
      ∃ adjusted : Bool, readClassRow [a, b, c, d, e, f, x, y, hi, lo] = some (r, adjusted) ∧ r.Valid
        ∧ (adjusted = true ↔ wide a b ∨ wide c d ∨ wide e f ∨ 599 < (time e f).seconds ∨ 1 < x.toNat ∨ 1 < y.toNat)
        ∧ (adjusted = false → classRow r = [a, b, c, d, e, f, x, y, hi, lo]))
    ∧ (∀ e a b c d : Byte, readBranchRow [e, a, b, c, d] =
        some (⟨decide (e ≠ 0), (a ++ b).toNat, (c ++ d).toNat⟩, decide (1 < e.toNat)))
    ∧ (∀ mode limit gate high low ph pl sil onh onl offh offl start budget relist eh el : Byte,
      let high' := if high = 0 then 1 else if 64 < high.toNat then 64 else high.toNat
      let low' := if 63 < low.toNat then 63 else low.toNat
      let ms := (ph ++ pl).toNat
      let on := (onh ++ onl).toNat
      let off := (offh ++ offl).toNat
      let on' := if on = 0 then 1 else if 32767 < on then 32767 else on
      let off' := if 32766 < off then 32766 else off
      ∃ (f : FloorConfig) (adjusted : Bool),
        readFloorRow [mode, limit, gate, high, low, ph, pl, sil, onh, onl, offh, offl, start, budget, relist, eh, el]
            = some (f, adjusted)
        ∧ f.mode = (if mode = 0 then .auto else if mode = 1 then .override else .directed)
        ∧ f.limit = (if limit = 0 then 1 else if 16 < limit.toNat then 16 else limit.toNat)
        ∧ f.gate.val = (if 3 < gate.toNat then 3 else gate.toNat)
        ∧ f.high = high' ∧ f.low = (if low' < high' then low' else high' - 1)
        ∧ f.presenceMs = (if ms < 200 then 200 else if 5000 < ms then 5000 else ms - ms % 100)
        ∧ f.silenceS = (if 120 < sil.toNat then 120 else sil.toNat)
        ∧ f.onThreshold = on' ∧ f.offThreshold = (if off' < on' then off' else on' - 1)
        ∧ f.openAtStart = decide (start ≠ 0) ∧ f.showBudget = decide (budget ≠ 0) ∧ f.relist = decide (relist ≠ 0)
        ∧ (∀ k : Nat, k < 13 → f.enables.getLsbD k = (eh ++ el).getLsbD k)
        ∧ (adjusted = true ↔ 2 < mode.toNat ∨ limit = 0 ∨ 16 < limit.toNat ∨ 3 < gate.toNat ∨ high = 0
            ∨ 64 < high.toNat ∨ 63 < low.toNat ∨ high' ≤ low' ∨ ms < 200 ∨ 5000 < ms ∨ ms % 100 ≠ 0
            ∨ 120 < sil.toNat ∨ on = 0 ∨ 32767 < on ∨ 32766 < off ∨ on' ≤ off' ∨ 1 < start.toNat
            ∨ 1 < budget.toNat ∨ 1 < relist.toNat)
        ∧ (adjusted = false → (floorRow f).take 15 =
            [mode, limit, gate, high, low, ph, pl, sil, onh, onl, offh, offl, start, budget, relist]))
    ∧ ∀ w : Half,
      let k := (w.extractLsb' 9 3).toNat
      (configOfWord w).order = (if h : k < 4 then some ⟨k, h⟩ else none) ∧ (orderClamped w = true ↔ 4 < k)

/-- A SEAT row write is refused past the last row and for a ninth CHAIR seat; otherwise it stores the configuration word
and the budget, ends what a newly BARRED seat holds, recomputes the unit mismatch at a change of class, and moves the
holder set with the class. The entry of a WAITING seat takes the level its stored claim and the new entitlement give, at
the tail of its level group where the level changed, with its EXHAUSTED flag refreshed, and the fill rule then runs once;
without an entry no fill rule runs. The row already held changes nothing (R3, R4, R9, R12, R68, R74, R77, R106, R161,
R162). -/
def Obligations.SeatRowWriteStoresAndFollows : Prop :=
  ∀ (m : MgmtHead) (index : Half) (c1 c0 x1 x2 x3 x4 b1 b0 y1 y2 y3 y4 : Byte) (s : State),
    let row := [c1, c0, x1, x2, x3, x4, b1, b0, y1, y2, y3, y4]
    let c := configOfWord (c1 ++ c0)
    let budget := (b1 ++ b0).toNat
    s.Takes (mgmtFrame m .writeTable (0 :: bytesOf index ++ row)) → s.startUp.state ≠ .recalling →
    s.profile.op = none →
    (1024 ≤ index.toNat → Machine.exec (.writeTableSeat m index row) s = .next (s.replied m.tag .refusedRange []))
    ∧ ∀ n : SeatNo, n.val = index.toNat →
      let old := s.seat n
      let eight := 8 ≤ (s.seatsWhere fun k r => k != n && r.cfg.cls == .chair).length
      (c.cls = .chair → old.cfg.cls ≠ .chair → eight →
        Machine.exec (.writeTableSeat m index row) s = .next (s.replied m.tag .refusedLimit []))
      ∧ (c = old.cfg → budget = old.run.budget → Machine.exec (.writeTableSeat m index row) s = .next
          (s.replied m.tag (if 4 < ((c1 ++ c0).extractLsb' 9 3).toNat then .adjusted else .done) []))
      ∧ (s.FloorOk → ¬(c.barred = true ∧ old.cfg.barred = false) →
        c.cls = old.cfg.cls ∨ (c.cls ≠ .chair ∧ old.cfg.cls ≠ .chair) →
        let st : Status := if 4 < ((c1 ++ c0).extractLsb' 9 3).toNat then .adjusted else .done
        let applied := (s.classes.record c.cls).enforced && !c.exempt
        let stored := s.setSeat n ⟨c, { old.run with
          budget := budget
          mismatch := if c.cls = old.cfg.cls then old.run.mismatch else match old.run.unitKind with
            | none => false
            | some .chairUnit => c.cls != .chair
            | some .delegateUnit => c.cls == .chair }⟩
        let shown (u : State) : State :=
          if s.floorCfg.showBudget = true ∧ old.run.floor ≠ .speaking
              ∧ ((budget ≠ old.run.budget ∧ applied = true) ∨ applied ≠ s.applies n) then u.mark n else u
        (old.run.floor ≠ .waiting → Machine.exec (.writeTableSeat m index row) s = .next
          ((shown stored).replied m.tag st []))
        ∧ ∀ e ∈ s.list.entries, e.seat = n →
          let entitled := match e.kind, c.order with
            | .order, some o => o
            | _, _ => c.speak
          let e' := { e with effective := max e.claimed entitled, clamped := decide (e.claimed < entitled)
                             exhausted := applied && budget == 0 }
          let moved := if e'.effective = e.effective then s.list.entries.map fun x => if x.seat = n then e' else x
            else State.placeEntry e' (s.list.entries.filter fun x => x.seat != n)
          let listed := shown ((stored.withList { s.list with entries := moved }).markMoved s.list.entries)
          Machine.exec (.writeTableSeat m index row) s = .next
            ((if c.cls ≠ old.cfg.cls ∨ c.speak ≠ old.cfg.speak ∨ c.order ≠ old.cfg.order ∨ c.exempt ≠ old.cfg.exempt
                ∨ budget ≠ old.run.budget then listed.fillRule else listed).replied m.tag st []))
      ∧ (s.FloorOk → ¬(c.cls = .chair ∧ old.cfg.cls ≠ .chair ∧ eight) → ∃ t : State,
        Machine.exec (.writeTableSeat m index row) s = .next
          (t.replied m.tag (if 4 < ((c1 ++ c0).extractLsb' 9 3).toNat then .adjusted else .done) [])
        ∧ (t.seat n).cfg = c ∧ (∀ k : SeatNo, k ≠ n → (t.seat k).cfg = (s.seat k).cfg)
        ∧ (old.run.floor ≠ .speaking → (t.seat n).run.budget = budget)
        ∧ (c.barred = true → old.cfg.barred = false → (t.seat n).run.floor = .idle)
        ∧ (t.seat n).run.mismatch = (if c.cls = old.cfg.cls then old.run.mismatch else
            match old.run.unitKind with
            | none => false
            | some .chairUnit => c.cls != .chair
            | some .delegateUnit => c.cls == .chair)
        ∧ (c.cls ≠ .chair → n ∉ t.holders)
        ∧ (c.cls = .chair → old.cfg.cls ≠ .chair → (n ∈ t.holders ↔
            old.run.present = true ∧ s.startUp.state = .ready ∧ old.run.down2 = true ∧ c.barred = false))
        ∧ (∀ k : SeatNo, k ≠ n → (k ∈ t.holders ↔ k ∈ s.holders))
        ∧ (∀ k : SeatNo, k ≠ n → t.seat k = ⟨(s.seat k).cfg, { (s.seat k).run with
            floor := (t.seat k).run.floor, chan := (t.seat k).run.chan, budget := (t.seat k).run.budget }⟩)
        ∧ t.classes = s.classes ∧ t.branches = s.branches ∧ t.floorCfg = s.floorCfg ∧ t.floor = s.floor
        ∧ t.profile = s.profile ∧ t.startUp = s.startUp)

/-- A CLASS row write stores the clamped record of its class. With budget enforced unchanged that is all; otherwise
every waiting entry of the class is refreshed and the fill rule runs (R7, R161, R163). That ABSENT seats of the class are
marked too, in ascending seat number, is the model's choice of notes/assumptions/13.md, and that the fill rule runs though
no entry of the class waits is that of notes/assumptions/16.md. -/
def Obligations.ClassRowWriteActsOnTheWholeClass : Prop :=
  ∀ (m : MgmtHead) (index : Half) (row : List Byte) (s : State) (r : ClassRecord) (adjusted : Bool),
    readClassRow row = some (r, adjusted) → s.Takes (mgmtFrame m .writeTable (1 :: bytesOf index ++ row)) →
    s.startUp.state ≠ .recalling → s.profile.op = none →
    (4 ≤ index.toNat → Machine.exec (.writeTableClass m index row) s = .next (s.replied m.tag .refusedRange []))
    ∧ ∀ c : SeatClass, c.code = index.toNat →
      let table : ClassTable :=
        { delegate := if c = .delegate then r else s.classes.delegate
          official := if c = .official then r else s.classes.official
          chair := if c = .chair then r else s.classes.chair
          observer := if c = .observer then r else s.classes.observer }
      let st : Status := if adjusted then .adjusted else .done
      (r.enforced = (s.classes.record c).enforced → Machine.exec (.writeTableClass m index row) s = .next
        ((s.withClasses table).replied m.tag st []))
      ∧ (r.enforced ≠ (s.classes.record c).enforced → s.FloorOk → ∃ u : State,
        Machine.exec (.writeTableClass m index row) s = .next (u.fillRule.replied m.tag st [])
        ∧ u.classes = table ∧ u.seats = s.seats ∧ u.channels = s.channels
        ∧ u.list = { s.list with entries := s.list.entries.map fun e => { e with
            exhausted := budgetApplies table (s.seat e.seat).cfg && (s.seat e.seat).run.budget == 0 } }
        ∧ u.ports = (s.markAll (s.seatsWhere fun _ x =>
            x.cfg.cls == c && !x.cfg.exempt && x.run.floor != .speaking && s.floorCfg.showBudget)).ports
        ∧ u = ((s.withClasses u.classes).withList u.list).withPorts u.ports)

/-- A BRANCH row write is refused for a range past 1023, an empty one, one of more than 256 seats or an overlap of
enabled ranges; otherwise it stores the row, prunes the command sets and makes every PRESENT seat whose branch changed
ABSENT (R18, R38, R161, R164). -/
def Obligations.BranchRowWriteMovesSeats : Prop :=
  ∀ (m : MgmtHead) (index : Half) (e f1 f0 l1 l0 : Byte) (s : State),
    let row := [e, f1, f0, l1, l0]
    let r : BranchRecord := { enabled := decide (e ≠ 0), first := (f1 ++ f0).toNat, last := (l1 ++ l0).toNat }
    let st : Status := if 1 < e.toNat then .adjusted else .done
    s.Takes (mgmtFrame m .writeTable (2 :: bytesOf index ++ row)) → s.startUp.state ≠ .recalling →
    s.profile.op = none →
    (4 ≤ index.toNat → Machine.exec (.writeTableBranch m index row) s = .next (s.replied m.tag .refusedRange []))
    ∧ ∀ b : BranchId, branchOfIndex index = some b →
      let table : BranchTable :=
        { a := if b = .branchA then r else s.branches.a, b := if b = .branchB then r else s.branches.b
          c := if b = .branchC then r else s.branches.c, d := if b = .branchD then r else s.branches.d }
      let overlaps := r.enabled = true ∧ ∃ x : BranchId, x ≠ b ∧ (s.branches.record x).enabled = true
        ∧ r.first ≤ (s.branches.record x).last ∧ (s.branches.record x).first ≤ r.last
      let bad := 1023 < r.first ∨ 1023 < r.last ∨ r.last < r.first ∨ 256 < r.last - r.first + 1 ∨ overlaps
      (bad → Machine.exec (.writeTableBranch m index row) s = .next (s.replied m.tag .refusedRange []))
      ∧ (¬bad → (∀ n : SeatNo, (s.seat n).run.present = true → table.branchOf n = s.branches.branchOf n) →
        ∃ t : State, Machine.exec (.writeTableBranch m index row) s = .next (t.replied m.tag st [])
          ∧ t = (s.withBranches table).withPorts t.ports
          ∧ ∀ x : BranchId, t.port x = { s.port x with
              cmdSet := (s.port x).cmdSet.filter fun n => table.branchOf n == some x })
      ∧ (¬bad → ∃ t : State, Machine.exec (.writeTableBranch m index row) s = .next (t.replied m.tag st [])
        ∧ t.branches = table
        ∧ (∀ n : SeatNo, (t.seat n).cfg = (s.seat n).cfg ∧ (t.seat n).run.present =
            ((s.seat n).run.present && table.branchOf n == s.branches.branchOf n))
        ∧ t.classes = s.classes ∧ t.floorCfg = s.floorCfg ∧ t.floor = s.floor ∧ t.profile = s.profile
        ∧ t.startUp = s.startUp)

/-- A FLOOR row write stores the whole clamped record, and a shortened presence timeout makes the seats heard longer ago
ABSENT at once (R16, R161, R165); a seat heard exactly the new timeout ago waits for its presence timeout
(notes/assumptions/7.md). Its consequences follow in the order of R165: the fill rule of a changed mode, of a raised limit
and of a changed gate; restraint under the new marks with its notice; a cascade of its own for each seat a shortened timeout
makes absent; the marks of a changed show budget. That each field takes effect at its place, before the next is stored, is
the model's reading of notes/assumptions/14.md; that the cascades run in ascending seat number is its choice of
notes/assumptions/7.md, and that the marks of a changed show budget are made in ascending seat number that of
notes/assumptions/13.md. -/
def Obligations.FloorRowWriteStoresTheRecord : Prop :=
  ∀ (m : MgmtHead) (index : Half) (row : List Byte) (s : State) (f : FloorConfig) (adjusted : Bool),
    readFloorRow row = some (f, adjusted) → s.Takes (mgmtFrame m .writeTable (3 :: bytesOf index ++ row)) →
    s.startUp.state ≠ .recalling → s.profile.op = none →
    (index ≠ 0 → Machine.exec (.writeTableFloor m index row) s = .next (s.replied m.tag .refusedRange []))
    ∧ (index = 0 → ∃ t : State, Machine.exec (.writeTableFloor m index row) s = .next
        (t.replied m.tag (if adjusted then .adjusted else .done) [])
      ∧ t.floorCfg = f ∧ (∀ n : SeatNo, (t.seat n).cfg = (s.seat n).cfg
        ∧ (t.seat n).run.present = ((s.seat n).run.present
            && !(decide (f.presenceMs < s.floorCfg.presenceMs)
              && decide (f.presenceMs < s.now - (s.seat n).run.lastHeard))))
      ∧ t.classes = s.classes ∧ t.branches = s.branches ∧ t.floor = s.floor ∧ t.profile = s.profile
      ∧ t.startUp = s.startUp)
    ∧ (index = 0 → f = s.floorCfg → s.RestraintOk → Machine.exec (.writeTableFloor m index row) s = .next
        (s.replied m.tag (if adjusted then .adjusted else .done) []))
    ∧ (index = 0 →
      let s1 := if f.mode = s.floorCfg.mode then s
        else (s.withFloorCfg { s.floorCfg with mode := f.mode }).fillRule
      let u2 := s1.withFloorCfg { s.floorCfg with mode := f.mode, limit := f.limit }
      let s2 := if s.floorCfg.limit < f.limit then u2.fillRule else u2
      let u3 := s2.withFloorCfg { s.floorCfg with mode := f.mode, limit := f.limit, gate := f.gate }
      let s3 := if f.gate = s.floorCfg.gate then u3 else u3.fillRule
      let s4 := s3.withFloorCfg { s.floorCfg with
        mode := f.mode, limit := f.limit, gate := f.gate, high := f.high, low := f.low }
      let r := if f.high ≤ s3.list.entries.length then true
        else if s3.list.entries.length ≤ f.low then false else s3.list.restraint
      let s5 := if r = s3.list.restraint then s4
        else (s4.withList { s3.list with restraint := r }).notice .restraint none none
          (some (if r then .set else .clear))
      let s6 := s5.withFloorCfg { f with showBudget := s.floorCfg.showBudget, openAtStart := s.floorCfg.openAtStart
                                         relist := s.floorCfg.relist, enables := s.floorCfg.enables }
      let overdue := s.seatsWhere fun _ x => x.run.present && decide (f.presenceMs < s.now - x.run.lastHeard)
      let s7 := if f.presenceMs < s.floorCfg.presenceMs then overdue.foldl (fun u n => u.cascade [n]) s6 else s6
      let s8 := if f.showBudget = s.floorCfg.showBudget then s7
        else s7.markAll (s7.seatsWhere fun _ x =>
          x.run.present && x.run.floor != .speaking && (s.classes.record x.cfg.cls).enforced && !x.cfg.exempt)
      Machine.exec (.writeTableFloor m index row) s = .next
        ((s8.withFloorCfg f).replied m.tag (if adjusted then .adjusted else .done) []))

/-- SEAT FLAGS reports the prior values of its span; TEST changes nothing and is taken in every window, and SET, CLEAR and
TOGGLE leave the flag of every seat of the span as the action says, no other seat's configuration changed, and no newly
BARRED seat on the floor or in the list (R156, R166). -/
def Obligations.SeatFlagsReachTheSpan : Prop :=
  ∀ (m : MgmtHead) (first : Half) (count flag : Byte) (s : State) (i : Instr) (a : FlagAction),
    ((i = .seatFlagsTest m first count flag ∧ a = .test) ∨ (i = .seatFlagsSet m first count flag ∧ a = .set)
      ∨ (i = .seatFlagsClear m first count flag ∧ a = .clear)
      ∨ (i = .seatFlagsToggle m first count flag ∧ a = .toggle)) →
    s.Takes (mgmtFrame m .seatFlags (bytesOf first ++ [count, flag, a.code])) →
    a = .test ∨ (s.startUp.state ≠ .recalling ∧ s.profile.op = none) →
    (count = 0 ∨ 64 < count.toNat ∨ 1023 < first.toNat + count.toNat - 1 ∨ 2 < flag.toNat →
      Machine.exec i s = .next (s.replied m.tag .refusedRange []))
    ∧ ∀ g : SeatFlag, flagOfCode flag = some g → 1 ≤ count.toNat → count.toNat ≤ 64 →
      first.toNat + count.toNat ≤ 1024 →
      let span := (allSeats.drop first.toNat).take count.toNat
      let prior := span.map fun n => if (s.seat n).cfg.flag g then (1 : Byte) else 0
      (a = .test → Machine.exec i s = .next (s.replied m.tag .done (count :: prior)))
      ∧ (s.FloorOk → ∃ t : State, Machine.exec i s = .next (t.replied m.tag .done (count :: prior))
        ∧ (∀ n : SeatNo, (t.seat n).cfg = if n ∈ span then
            (s.seat n).cfg.withFlag g (match a with
              | .test => (s.seat n).cfg.flag g
              | .set => true
              | .clear => false
              | .toggle => !(s.seat n).cfg.flag g)
          else (s.seat n).cfg)
        ∧ (∀ n ∈ span, (t.seat n).cfg.barred = true → (s.seat n).cfg.barred = false →
            (t.seat n).run.floor = .idle)
        ∧ (∀ n : SeatNo, (t.seat n).run = { (s.seat n).run with
            floor := (t.seat n).run.floor, chan := (t.seat n).run.chan, budget := (t.seat n).run.budget })
        ∧ t.holders = s.holders ∧ t.floor = s.floor ∧ t.classes = s.classes ∧ t.branches = s.branches
        ∧ t.floorCfg = s.floorCfg ∧ t.profile = s.profile ∧ t.startUp = s.startUp)

/-! ### The profile -/

/-- STORE PROFILE erases the check word and keeps its reply place; its completion leaves the working configuration in
the memory with its check word, VALID and DONE, or, where a word did not take its write, INVALID and FAILED; while the
uplink is DOWN the reply is discarded with its place (R24, R39, R169 to R171). That the configuration stored is the one
that stands at the completion, with a mode, open limit or gate level set during the store, is the model's choice of
notes/assumptions/24.md. -/
def Obligations.StoreWritesTheWorkingConfiguration : Prop :=
  ∀ s : State,
    (∀ m : MgmtHead, s.Takes (mgmtFrame m .storeProfile []) → s.startUp.state ≠ .recalling → s.profile.op = none →
      Machine.exec (.storeProfile m) s = .next
        ((s.withProfile { s.profile with check := none, op := some (.store s.now) }).withUplink
          { s.uplink with replies := s.uplink.replies ++ [.profileOp m.tag] }))
    ∧ ∀ since : Nat, s.profile.op = some (.store since) →
      let words := profileWords s.configuration
      let answered (st : Status) : List ReplyPlace := s.uplink.replies.map fun p => match p with
        | .profileOp tag => .built ⟨tag, st, [], false⟩
        | p => p
      (s.uplink.up = false → Machine.exec (.storeComplete .good) s = .next
        ((s.withProfile { words := words, check := some (checkWord words), status := .valid, op := none }).withUplink
          { s.uplink with replies := s.uplink.replies.filter fun p => match p with
            | .profileOp _ => false
            | _ => true }))
      ∧ (s.uplink.up = true → Machine.exec (.storeComplete .good) s = .next
        ((s.withProfile { words := words, check := some (checkWord words), status := .valid, op := none }).withUplink
          { s.uplink with replies := answered .done }))
      ∧ (∀ (k : Nat) (v : Half) (h : k < words.length), v ≠ words[k] → s.uplink.up = true →
        Machine.exec (.storeComplete ⟨[(k, v)], .written⟩) s = .next
          ((s.withProfile { words := words.set k v, check := some (checkWord words), status := .invalid
                            op := none }).withUplink { s.uplink with replies := answered .failed }))
      ∧ (s.uplink.up = true → Machine.exec (.storeComplete ⟨[], .erased⟩) s = .next
        ((s.withProfile { words := words, check := none, status := .invalid, op := none }).withUplink
          { s.uplink with replies := answered .failed }))

/-- RECALL PROFILE is refused unless the floor is CLOSED and no channel is busy; its completion, with the condition
still met, replaces the configuration by the profile's, or by the defaults for a bad check word, and is answered DONE;
otherwise it replaces nothing and answers REFUSED_STATE; while the uplink is DOWN the reply is discarded with its place
(R24, R170, R172, R173). After the replacement a seat is PRESENT exactly if it was, its branch is the same, and its
last-heard time is not further back than a shortened presence timeout; its record but for the unit mismatch is then as it
was, and any other seat shows nothing of a unit (R16 to R18; a seat heard exactly the new timeout ago waits for its presence
timeout, notes/assumptions/7.md). -/
def Obligations.RecallReplacesTheConfiguration : Prop :=
  ∀ s : State,
    let allowed := s.floor = .closed ∧ ∀ c : ChanNo, (s.chan c).state = .free
    (∀ m : MgmtHead, s.Takes (mgmtFrame m .recallProfile []) → s.startUp.state ≠ .recalling → s.profile.op = none →
      (allowed → Machine.exec (.recallProfile m) s = .next
        ((s.withProfile { s.profile with op := some (.recall s.now) }).withUplink
          { s.uplink with replies := s.uplink.replies ++ [.profileOp m.tag] }))
      ∧ (¬allowed → Machine.exec (.recallProfile m) s = .next (s.replied m.tag .refusedState [])))
    ∧ ∀ since : Nat, s.profile.op = some (.recall since) →
      let answered (st : Status) : List ReplyPlace :=
        if s.uplink.up then s.uplink.replies.map fun p => match p with
          | .profileOp tag => .built ⟨tag, st, [], false⟩
          | p => p
        else s.uplink.replies.filter fun p => match p with
          | .profileOp _ => false
          | _ => true
      let good := s.profile.check = some (~~~(s.profile.words.foldl (· + ·) 0))
      let g := if good then configurationOfWords s.profile.words else defaultConfiguration
      (¬allowed → Machine.exec .recallComplete s = .next
        ((s.withProfile { s.profile with op := none }).withUplink
          { s.uplink with replies := answered .refusedState }))
      ∧ (allowed → s.FloorOk → ∃ t : State, Machine.exec .recallComplete s = .next t
        ∧ t.uplink.replies = answered .done
        ∧ t.profile = { s.profile with status := if good then .valid else .defaulted, op := none }
        ∧ (∀ n : SeatNo,
          let stays := (s.seat n).run.present && g.branches.branchOf n == s.branches.branchOf n
            && !(decide (g.floorCfg.presenceMs < s.floorCfg.presenceMs)
              && decide (g.floorCfg.presenceMs < s.now - (s.seat n).run.lastHeard))
          t.seat n = (if stays then
              ⟨g.seats[n], { (s.seat n).run with mismatch := match (s.seat n).run.unitKind with
                | none => false
                | some .chairUnit => (g.seats[n]).cls != .chair
                | some .delegateUnit => (g.seats[n]).cls == .chair }⟩
            else ⟨g.seats[n], { (s.seat n).run with
              present := false, unitKind := none, mismatch := false, down1 := false, down2 := false, down3 := false
              refusalShown := false }⟩)
          ∧ t.refusalOf n = (if stays then s.refusalOf n else none)
          ∧ (n ∈ t.holders ↔ n ∈ s.holders ∧ (t.seat n).run.present = true ∧ (g.seats[n]).cls = .chair))
        ∧ t.classes = g.classes ∧ t.branches = g.branches ∧ t.floorCfg = g.floorCfg ∧ t.floor = .closed
        ∧ t.channels = s.channels ∧ t.list.entries = [] ∧ t.startUp = s.startUp)

/-- RESET is answered DONE with the reply that brings the command reset, in every start-up state, and abandons a profile
operation in flight with its reply place; a recall leaves the memory as it was, a store as far as it had come
(R174, R176). That a store writes its words in ascending order is the model's choice of notes/assumptions/3.md, and that these are the words
of the working configuration as it stands at the RESET, with a mode, open limit or gate level set during the store, is that
of notes/assumptions/24.md. -/
def Obligations.ResetAbandonsTheProfileOperation : Prop :=
  ∀ (m : MgmtHead) (s : State), s.Takes (mgmtFrame m .reset []) → ∃ t : State,
    Machine.exec (.reset m) s = .next t
    ∧ t.startUp = { s.startUp with reset := .requested }
    ∧ t.uplink = { s.uplink with replies := (s.uplink.replies.filter fun p => match p with
        | .profileOp _ => false
        | _ => true) ++ [.built ⟨m.tag, .done, [], true⟩] }
    ∧ t.profile.op = none ∧ t.profile.status = s.profile.status
    ∧ ((∀ k : Nat, s.profile.op ≠ some (.store k)) →
        t.profile.words = s.profile.words ∧ t.profile.check = s.profile.check ∧ t.free = s.free)
    ∧ (∀ k : Nat, s.profile.op = some (.store k) → t.free = s.free + 1 ∧ ∃ reach : Nat,
        t.profile.words = (profileWords s.configuration).take reach ++ s.profile.words.drop (min reach 1065)
          ∧ t.profile.check = if 1065 < reach then some (checkWord (profileWords s.configuration)) else none)
    ∧ t = ((((s.withStartUp t.startUp).withUplink t.uplink).withProfile t.profile).withFree t.free)

/-! ### Floor commands -/

/-- OPEN FLOOR opens a CLOSED floor, with a budget reload at option 1; in any other state it is refused. CLOSE FLOOR
closes every channel but the chair channels, deducts their used seconds, empties the list, and keeps the holder set, the
causes of the channels kept and the arrival sequence (R111 to R113). -/
def Obligations.FloorOpensAndCloses : Prop :=
  (∀ (m : MgmtHead) (reload : Byte) (s : State), s.Takes (mgmtFrame m .openFloor [reload]) →
      s.startUp.state = .ready →
      (1 < reload.toNat → Machine.exec (.openFloor m reload) s = .next (s.replied m.tag .refusedRange []))
      ∧ (reload.toNat ≤ 1 → s.floor ≠ .closed →
        Machine.exec (.openFloor m reload) s = .next (s.replied m.tag .refusedState []))
      ∧ (s.floor = .closed → s.list.entries = [] →
        (reload = 0 → Machine.exec (.openFloor m reload) s = .next ((s.withFloor .opened).replied m.tag .done []))
        ∧ (reload = 1 → Machine.exec (.openFloor m reload) s = .next
            ((s.reload.withFloor .opened).replied m.tag .done []))))
  ∧ (∀ (m : MgmtHead) (s : State), s.Takes (mgmtFrame m .closeFloor []) → s.startUp.state = .ready → s.FloorOk →
      let kept (c : ChanNo) : Bool := (s.chan c).kind == some .chair && match (s.chan c).seat with
        | some n => (s.seat n).cfg.cls == .chair
        | none => false
      ∃ t : State, Machine.exec (.closeFloor m) s = .next (t.replied m.tag .done [])
        ∧ t.floor = .closed ∧ t.list = { s.list with entries := [], restraint := t.list.restraint }
        ∧ t.grantOrder = s.grantOrder.filter kept ∧ t.holders = s.holders
        ∧ (∀ c : ChanNo, t.chan c = if kept c then s.chan c else
            { state := .free, seat := none, kind := none, level := none, priority := false, suspend := false
              timer := (s.chan c).timer, detector := (s.chan c).detector })
        ∧ (∀ n : SeatNo, t.seat n = match (s.seat n).run.chan with
            | some c => if kept c then s.seat n else
                ⟨(s.seat n).cfg, { (s.seat n).run with floor := .idle, chan := none
                                                       budget := if s.applies n then
                                                         (s.seat n).run.budget - (s.chan c).timer.used
                                                       else (s.seat n).run.budget }⟩
            | none => ⟨(s.seat n).cfg, { (s.seat n).run with floor := .idle }⟩)
        ∧ State.FloorFrame s t ∧ t.floorCfg = s.floorCfg)

/-- SUSPEND holds every non-chair channel of an OPEN floor; RESUME takes SUSPEND from every channel of a SUSPENDED floor,
opens those that no longer have a cause, and runs the fill rule; each channel whose state changes has its HELD or RELEASED
notice with SUSPEND and the mark of its seat, in grant order; in any other floor state each is refused (R95, R96, R114,
R115). -/
def Obligations.SuspendHoldsAndResumeReleases : Prop :=
  ∀ (m : MgmtHead) (s : State), s.startUp.state = .ready → s.ChannelsOk → s.GrantOrderOk →
    (s.Takes (mgmtFrame m .suspend []) →
      (s.floor ≠ .opened → Machine.exec (.suspend m) s = .next (s.replied m.tag .refusedState []))
      ∧ (s.floor = .opened → ∃ t : State, Machine.exec (.suspend m) s = .next (t.replied m.tag .done [])
        ∧ (∀ c : ChanNo, t.chan c = if (s.chan c).state = .free ∨ (s.chan c).kind = some .chair then s.chan c
            else { s.chan c with state := .held, suspend := true })
        ∧ t.floor = .suspended
        ∧ (let changed := s.grantOrder.filter fun c => (t.chan c).state != (s.chan c).state
          let told := changed.foldl (fun u c => u.notice .held (s.chan c).seat (some c) (some .suspend))
            (s.withFloor .suspended)
          t.uplink = told.uplink ∧ t.mgmt = told.mgmt
            ∧ t.ports = (s.markAll (changed.filterMap fun c => (s.chan c).seat)).ports)
        ∧ t = ((((s.withFloor t.floor).withChannels t.channels).withPorts t.ports).withUplink t.uplink).withMgmt
            t.mgmt))
    ∧ (s.Takes (mgmtFrame m .resume []) →
      (s.floor ≠ .suspended → Machine.exec (.resume m) s = .next (s.replied m.tag .refusedState []))
      ∧ (s.floor = .suspended → ∃ t : State, Machine.exec (.resume m) s = .next (t.fillRule.replied m.tag .done [])
        ∧ (∀ c : ChanNo, t.chan c = if (s.chan c).state = .free then s.chan c
            else { s.chan c with state := if (s.chan c).priority then .held else .opened, suspend := false })
        ∧ t.floor = .opened
        ∧ (let changed := s.grantOrder.filter fun c => (t.chan c).state != (s.chan c).state
          let told := changed.foldl (fun u c => u.notice .released (s.chan c).seat (some c) (some .suspend))
            (s.withFloor .opened)
          t.uplink = told.uplink ∧ t.mgmt = told.mgmt
            ∧ t.ports = (s.markAll (changed.filterMap fun c => (s.chan c).seat)).ports)
        ∧ t = ((((s.withFloor t.floor).withChannels t.channels).withPorts t.ports).withUplink t.uplink).withMgmt
            t.mgmt))

/-- SET MODE sets the mode and runs the fill rule; SET LIMIT clamps the open limit into 1 to 16, runs the fill rule only
where it rises, and closes nothing where it falls; SET GATE clamps the gate level into 0 to 3 and runs the fill rule
(R116 to R118). -/
def Obligations.FloorSettingsClampAndFill : Prop :=
  (∀ (m : MgmtHead) (x : Byte) (s : State), s.Takes (mgmtFrame m .setMode [x]) → s.startUp.state = .ready →
      (2 < x.toNat → Machine.exec (.setMode m x) s = .next (s.replied m.tag .refusedRange []))
      ∧ ∀ y : Mode, y.code = x.toNat → Machine.exec (.setMode m x) s = .next
        ((s.withFloorCfg { s.floorCfg with mode := y }).fillRule.replied m.tag .done []))
  ∧ (∀ (m : MgmtHead) (x : Byte) (s : State), s.Takes (mgmtFrame m .setLimit [x]) → s.startUp.state = .ready →
      let limit := if x = 0 then 1 else if 16 < x.toNat then 16 else x.toNat
      let st : Status := if x = 0 ∨ 16 < x.toNat then .adjusted else .done
      let u := s.withFloorCfg { s.floorCfg with limit := limit }
      (s.floorCfg.limit < limit → Machine.exec (.setLimit m x) s = .next (u.fillRule.replied m.tag st []))
      ∧ (limit ≤ s.floorCfg.limit → Machine.exec (.setLimit m x) s = .next (u.replied m.tag st [])))
  ∧ (∀ (m : MgmtHead) (x : Byte) (s : State) (gate : Level), s.Takes (mgmtFrame m .setGate [x]) →
      s.startUp.state = .ready → gate.val = min 3 x.toNat →
      Machine.exec (.setGate m x) s = .next ((s.withFloorCfg { s.floorCfg with gate := gate }).fillRule.replied m.tag
        (if 3 < x.toNat then .adjusted else .done) []))

/-- GRANT gives a PRESENT seat that may speak and does not a channel at its speak level; where it needs a place it is
refused without force, and with force closes the oldest non-chair channel (R86, R111, R119). -/
def Obligations.GrantGivesTheFloorToASeat : Prop :=
  ∀ (m : MgmtHead) (seat : Half) (force : Byte) (s : State), s.Takes (mgmtFrame m .grant (bytesOf seat ++ [force])) →
    s.startUp.state = .ready → s.ChannelsOk →
    (1023 < seat.toNat ∨ 1 < force.toNat →
      Machine.exec (.grant m seat force) s = .next (s.replied m.tag .refusedRange []))
    ∧ ∀ n : SeatNo, n.val = seat.toNat → force.toNat ≤ 1 →
      let r := s.seat n
      let listed := (s.list.entries.find? fun e => e.seat == n).map fun e => e.kind.turn
      let k := if r.cfg.cls = .chair then TurnKind.chair else listed.getD .speak
      let able := r.run.present = true ∧ r.cfg.cls ≠ .observer ∧ r.cfg.barred = false ∧ r.run.floor ≠ .speaking
        ∧ s.floor ≠ .closed
      let full := (∀ c : ChanNo, (s.chan c).state ≠ .free) ∨ (k ≠ .chair ∧ s.floorCfg.limit ≤ s.nonChairCount)
      (¬able → Machine.exec (.grant m seat force) s = .next (s.replied m.tag .refusedState []))
      ∧ (∀ c : ChanNo, able → ¬full → (s.chan c).state = .free → (∀ x : ChanNo, x < c → (s.chan x).state ≠ .free) →
        Machine.exec (.grant m seat force) s = .next
          ((s.grant n k r.cfg.speak false).replied m.tag .done [byte c.val]))
      ∧ (able → full → (force = 0 ∨ ∀ c ∈ s.grantOrder, (s.chan c).kind = some .chair) →
        Machine.exec (.grant m seat force) s = .next (s.replied m.tag .refusedLimit []))
      ∧ (∀ (older newer : List ChanNo) (c : ChanNo) (x : SeatNo) (l : Level), able → full → force = 1 →
        s.grantOrder = older ++ c :: newer → (∀ y ∈ older, (s.chan y).kind = some .chair) →
        (s.chan c).state ≠ .free → (s.chan c).kind ≠ some .chair → (s.chan c).seat = some x →
        (s.chan c).level = some l →
        ∃ (u : State) (d : ChanNo),
          u = (if s.floorCfg.relist then (s.closeChannel c x .displaced).relist x l
            else s.closeChannel c x .displaced)
          ∧ (u.chan d).state = .free ∧ (∀ y : ChanNo, y < d → (u.chan y).state ≠ .free)
          ∧ Machine.exec (.grant m seat force) s = .next
            ((u.grant n k r.cfg.speak false).fillRule.replied m.tag .done [byte d.val]))

/-- END closes the turn of a SPEAKING seat or of a busy channel with its fill rule, and answers NOTHING where there is
none. WITHDRAW removes a WAITING seat's entry with OPERATOR, and answers NOTHING for any other seat; it runs no fill rule.
CLEAR LIST removes every entry from the tail to the head with CLEARED, makes every listed seat IDLE, keeps the arrival
sequence and the channels, and answers NOTHING for an empty list (R72, R111, R120 to R122). -/
def Obligations.OperatorEndsTurnsAndRequests : Prop :=
  (∀ (m : MgmtHead) (selector : Byte) (number : Half) (s : State),
      s.Takes (mgmtFrame m .endTurn (selector :: bytesOf number)) → s.startUp.state = .ready → s.FloorOk →
      (1 < selector.toNat ∨ (selector = 0 ∧ 1023 < number.toNat) ∨ (selector = 1 ∧ 15 < number.toNat) →
        Machine.exec (.endTurn m selector number) s = .next (s.replied m.tag .refusedRange []))
      ∧ (∀ n : SeatNo, selector = 0 → n.val = number.toNat →
        ((s.seat n).run.floor ≠ .speaking →
          Machine.exec (.endTurn m selector number) s = .next (s.replied m.tag .nothing []))
        ∧ ∀ c : ChanNo, (s.chan c).state ≠ .free → (s.chan c).seat = some n →
          Machine.exec (.endTurn m selector number) s = .next
            ((s.closeChannel c n .ended).fillRule.replied m.tag .done []))
      ∧ (∀ c : ChanNo, selector = 1 → c.val = number.toNat →
        ((s.chan c).state = .free →
          Machine.exec (.endTurn m selector number) s = .next (s.replied m.tag .nothing []))
        ∧ ∀ n : SeatNo, (s.chan c).state ≠ .free → (s.chan c).seat = some n →
          Machine.exec (.endTurn m selector number) s = .next
            ((s.closeChannel c n .ended).fillRule.replied m.tag .done [])))
  ∧ (∀ (m : MgmtHead) (seat : Half) (s : State), s.Takes (mgmtFrame m .withdraw (bytesOf seat)) →
      s.startUp.state = .ready →
      (1023 < seat.toNat → Machine.exec (.withdraw m seat) s = .next (s.replied m.tag .refusedRange []))
      ∧ ∀ n : SeatNo, n.val = seat.toNat → Machine.exec (.withdraw m seat) s = .next
        (if (s.seat n).run.floor = .waiting then (s.removeEntry n .operator).replied m.tag .done []
          else s.replied m.tag .nothing []))
  ∧ (∀ (m : MgmtHead) (s : State), s.Takes (mgmtFrame m .clearList []) → s.startUp.state = .ready →
      (s.list.entries = [] → Machine.exec (.clearList m) s = .next (s.replied m.tag .nothing []))
      ∧ (s.list.entries ≠ [] → ∃ t : State, Machine.exec (.clearList m) s = .next (t.replied m.tag .done [])
        ∧ t = (s.list.entries.map Entry.seat).foldr (fun n u => u.removeEntry n .cleared) s
        ∧ t.list.entries = [] ∧ t.list.arrival = s.list.arrival
        ∧ (∀ n : SeatNo, t.seat n = if n ∈ s.list.entries.map Entry.seat then
            ⟨(s.seat n).cfg, { (s.seat n).run with floor := .idle, chan := none }⟩ else s.seat n)
        ∧ t.channels = s.channels ∧ t.grantOrder = s.grantOrder ∧ t.holders = s.holders ∧ t.floor = s.floor
        ∧ t.floorCfg = s.floorCfg ∧ State.FloorFrame s t))

/-- A budget reload gives every seat its class's initial budget, refreshes EXHAUSTED of every entry, and marks each seat
off the floor whose shown budget changed; RELOAD BUDGETS runs it and then the fill rule (R11, R123). That ABSENT seats are
marked too, in ascending seat number, is the model's choice of notes/assumptions/13.md. -/
def Obligations.ReloadSetsEveryBudget : Prop :=
  (∀ s : State,
      (∀ n : SeatNo, s.reload.seat n = ⟨(s.seat n).cfg, { (s.seat n).run with
          budget := (s.classes.record (s.seat n).cfg.cls).initial }⟩)
      ∧ s.reload.list = { s.list with entries := s.list.entries.map fun e => { e with
          exhausted := s.applies e.seat && (s.classes.record (s.seat e.seat).cfg.cls).initial == 0 } }
      ∧ s.reload.ports = (s.markAll (s.seatsWhere fun n r =>
          r.run.budget != (s.classes.record r.cfg.cls).initial && r.run.floor != .speaking && s.floorCfg.showBudget
            && s.applies n)).ports
      ∧ s.reload = ((s.withSeats s.reload.seats).withList s.reload.list).withPorts s.reload.ports)
  ∧ (∀ (m : MgmtHead) (s : State), s.Takes (mgmtFrame m .reloadBudgets []) → s.startUp.state = .ready →
      Machine.exec (.reloadBudgets m) s = .next (s.reload.fillRule.replied m.tag .done []))

/-- NEXT grants the first eligible entry of an OPEN floor, after closing the oldest non-chair channels with NEXT_SPEAKER, one
after another in grant order and without a fill rule between them, down to one below the open limit, or the oldest of them
where no channel is FREE (R110). -/
def Obligations.NextGrantsTheFirstEligibleEntry : Prop :=
  ∀ (m : MgmtHead) (s : State), s.Takes (mgmtFrame m .next []) → s.startUp.state = .ready → s.ChannelsOk →
    s.GrantOrderOk → s.FloorCfgOk →
    (s.floor ≠ .opened → Machine.exec (.nextSpeaker m) s = .next (s.replied m.tag .refusedState []))
    ∧ (s.floor = .opened → s.firstEligible = none →
      Machine.exec (.nextSpeaker m) s = .next (s.replied m.tag .nothing []))
    ∧ ∀ e : Entry, s.floor = .opened → s.firstEligible = some e →
      (s.nonChairCount < s.floorCfg.limit → (∃ c : ChanNo, (s.chan c).state = .free) →
        Machine.exec (.nextSpeaker m) s = .next
          ((s.grant e.seat e.kind.turn e.effective false).fillRule.replied m.tag .done []))
      ∧ (s.nonChairCount < s.floorCfg.limit → (∀ c : ChanNo, (s.chan c).state ≠ .free) → s.nonChairCount = 0 →
        Machine.exec (.nextSpeaker m) s = .next (s.replied m.tag .refusedLimit []))
      ∧ (∀ (older newer : List ChanNo) (c : ChanNo) (n : SeatNo),
        s.nonChairCount = s.floorCfg.limit
          ∨ (s.nonChairCount < s.floorCfg.limit ∧ ∀ x : ChanNo, (s.chan x).state ≠ .free) →
        s.grantOrder = older ++ c :: newer → (∀ x ∈ older, (s.chan x).kind = some .chair) →
        (s.chan c).kind ≠ some .chair → (s.chan c).seat = some n →
        Machine.exec (.nextSpeaker m) s = .next
          (((s.closeChannel c n .nextSpeaker).grant e.seat e.kind.turn e.effective false).fillRule.replied m.tag
            .done []))
      ∧ (s.floorCfg.limit < s.nonChairCount →
        let oldest := (s.grantOrder.filter fun c => (s.chan c).kind != some .chair).take
          (s.nonChairCount + 1 - s.floorCfg.limit)
        let u := oldest.foldl (fun v c => match (s.chan c).seat with
          | some n => v.closeChannel c n .nextSpeaker
          | none => v) s
        State.FloorFrame s u
        ∧ u.nonChairCount + 1 = s.floorCfg.limit ∧ u.list = s.list
        ∧ u.grantOrder = s.grantOrder.filter (fun c => !oldest.contains c)
        ∧ (∀ c ∈ u.grantOrder, u.chan c = s.chan c)
        ∧ Machine.exec (.nextSpeaker m) s = .next
          ((u.grant e.seat e.kind.turn e.effective false).fillRule.replied m.tag .done []))
end

