-- ==== Sys2Proof/Laws/State.lean ====
section
/-! SUPPORT. What each named update of one field does to every field and to the getters of records: one lemma for each
pair, so that no later proof unfolds a record update. -/

namespace Sys2Proof.Machine

variable (s : State)

namespace State

section setSeat
variable (n : SeatNo) (r : SeatRecord)

@[simp] theorem setSeat_now : (s.setSeat n r).now = s.now := rfl
@[simp] theorem setSeat_seats : (s.setSeat n r).seats = s.seats.set n r := rfl
@[simp] theorem setSeat_refusal : (s.setSeat n r).refusal = s.refusal := rfl
@[simp] theorem setSeat_classes : (s.setSeat n r).classes = s.classes := rfl
@[simp] theorem setSeat_branches : (s.setSeat n r).branches = s.branches := rfl
@[simp] theorem setSeat_floorCfg : (s.setSeat n r).floorCfg = s.floorCfg := rfl
@[simp] theorem setSeat_ports : (s.setSeat n r).ports = s.ports := rfl
@[simp] theorem setSeat_uplink : (s.setSeat n r).uplink = s.uplink := rfl
@[simp] theorem setSeat_list : (s.setSeat n r).list = s.list := rfl
@[simp] theorem setSeat_channels : (s.setSeat n r).channels = s.channels := rfl
@[simp] theorem setSeat_grantOrder : (s.setSeat n r).grantOrder = s.grantOrder := rfl
@[simp] theorem setSeat_holders : (s.setSeat n r).holders = s.holders := rfl
@[simp] theorem setSeat_floor : (s.setSeat n r).floor = s.floor := rfl
@[simp] theorem setSeat_mgmt : (s.setSeat n r).mgmt = s.mgmt := rfl
@[simp] theorem setSeat_profile : (s.setSeat n r).profile = s.profile := rfl
@[simp] theorem setSeat_startUp : (s.setSeat n r).startUp = s.startUp := rfl
@[simp] theorem setSeat_free : (s.setSeat n r).free = s.free := rfl
@[simp] theorem setSeat_pending : (s.setSeat n r).pending = s.pending := rfl
@[simp] theorem setSeat_refusalOf (n' : SeatNo) : (s.setSeat n r).refusalOf n' = s.refusalOf n' := rfl
@[simp] theorem setSeat_chan (c' : ChanNo) : (s.setSeat n r).chan c' = s.chan c' := rfl
@[simp] theorem setSeat_port (b' : BranchId) : (s.setSeat n r).port b' = s.port b' := rfl

end setSeat

section setRefusal
variable (n : SeatNo) (x : Option Nat)

@[simp] theorem setRefusal_now : (s.setRefusal n x).now = s.now := rfl
@[simp] theorem setRefusal_seats : (s.setRefusal n x).seats = s.seats := rfl
@[simp] theorem setRefusal_refusal : (s.setRefusal n x).refusal = s.refusal.set n x := rfl
@[simp] theorem setRefusal_classes : (s.setRefusal n x).classes = s.classes := rfl
@[simp] theorem setRefusal_branches : (s.setRefusal n x).branches = s.branches := rfl
@[simp] theorem setRefusal_floorCfg : (s.setRefusal n x).floorCfg = s.floorCfg := rfl
@[simp] theorem setRefusal_ports : (s.setRefusal n x).ports = s.ports := rfl
@[simp] theorem setRefusal_uplink : (s.setRefusal n x).uplink = s.uplink := rfl
@[simp] theorem setRefusal_list : (s.setRefusal n x).list = s.list := rfl
@[simp] theorem setRefusal_channels : (s.setRefusal n x).channels = s.channels := rfl
@[simp] theorem setRefusal_grantOrder : (s.setRefusal n x).grantOrder = s.grantOrder := rfl
@[simp] theorem setRefusal_holders : (s.setRefusal n x).holders = s.holders := rfl
@[simp] theorem setRefusal_floor : (s.setRefusal n x).floor = s.floor := rfl
@[simp] theorem setRefusal_mgmt : (s.setRefusal n x).mgmt = s.mgmt := rfl
@[simp] theorem setRefusal_profile : (s.setRefusal n x).profile = s.profile := rfl
@[simp] theorem setRefusal_startUp : (s.setRefusal n x).startUp = s.startUp := rfl
@[simp] theorem setRefusal_free : (s.setRefusal n x).free = s.free := rfl
@[simp] theorem setRefusal_pending : (s.setRefusal n x).pending = s.pending := rfl
@[simp] theorem setRefusal_seat (n' : SeatNo) : (s.setRefusal n x).seat n' = s.seat n' := rfl
@[simp] theorem setRefusal_chan (c' : ChanNo) : (s.setRefusal n x).chan c' = s.chan c' := rfl
@[simp] theorem setRefusal_port (b' : BranchId) : (s.setRefusal n x).port b' = s.port b' := rfl

end setRefusal

section setChan
variable (c : ChanNo) (k : Channel)

@[simp] theorem setChan_now : (s.setChan c k).now = s.now := rfl
@[simp] theorem setChan_seats : (s.setChan c k).seats = s.seats := rfl
@[simp] theorem setChan_refusal : (s.setChan c k).refusal = s.refusal := rfl
@[simp] theorem setChan_classes : (s.setChan c k).classes = s.classes := rfl
@[simp] theorem setChan_branches : (s.setChan c k).branches = s.branches := rfl
@[simp] theorem setChan_floorCfg : (s.setChan c k).floorCfg = s.floorCfg := rfl
@[simp] theorem setChan_ports : (s.setChan c k).ports = s.ports := rfl
@[simp] theorem setChan_uplink : (s.setChan c k).uplink = s.uplink := rfl
@[simp] theorem setChan_list : (s.setChan c k).list = s.list := rfl
@[simp] theorem setChan_channels : (s.setChan c k).channels = s.channels.set c k := rfl
@[simp] theorem setChan_grantOrder : (s.setChan c k).grantOrder = s.grantOrder := rfl
@[simp] theorem setChan_holders : (s.setChan c k).holders = s.holders := rfl
@[simp] theorem setChan_floor : (s.setChan c k).floor = s.floor := rfl
@[simp] theorem setChan_mgmt : (s.setChan c k).mgmt = s.mgmt := rfl
@[simp] theorem setChan_profile : (s.setChan c k).profile = s.profile := rfl
@[simp] theorem setChan_startUp : (s.setChan c k).startUp = s.startUp := rfl
@[simp] theorem setChan_free : (s.setChan c k).free = s.free := rfl
@[simp] theorem setChan_pending : (s.setChan c k).pending = s.pending := rfl
@[simp] theorem setChan_seat (n' : SeatNo) : (s.setChan c k).seat n' = s.seat n' := rfl
@[simp] theorem setChan_refusalOf (n' : SeatNo) : (s.setChan c k).refusalOf n' = s.refusalOf n' := rfl
@[simp] theorem setChan_port (b' : BranchId) : (s.setChan c k).port b' = s.port b' := rfl

end setChan

section setPort
variable (b : BranchId) (p : BranchPort)

@[simp] theorem setPort_now : (s.setPort b p).now = s.now := rfl
@[simp] theorem setPort_seats : (s.setPort b p).seats = s.seats := rfl
@[simp] theorem setPort_refusal : (s.setPort b p).refusal = s.refusal := rfl
@[simp] theorem setPort_classes : (s.setPort b p).classes = s.classes := rfl
@[simp] theorem setPort_branches : (s.setPort b p).branches = s.branches := rfl
@[simp] theorem setPort_floorCfg : (s.setPort b p).floorCfg = s.floorCfg := rfl
@[simp] theorem setPort_uplink : (s.setPort b p).uplink = s.uplink := rfl
@[simp] theorem setPort_list : (s.setPort b p).list = s.list := rfl
@[simp] theorem setPort_channels : (s.setPort b p).channels = s.channels := rfl
@[simp] theorem setPort_grantOrder : (s.setPort b p).grantOrder = s.grantOrder := rfl
@[simp] theorem setPort_holders : (s.setPort b p).holders = s.holders := rfl
@[simp] theorem setPort_floor : (s.setPort b p).floor = s.floor := rfl
@[simp] theorem setPort_mgmt : (s.setPort b p).mgmt = s.mgmt := rfl
@[simp] theorem setPort_profile : (s.setPort b p).profile = s.profile := rfl
@[simp] theorem setPort_startUp : (s.setPort b p).startUp = s.startUp := rfl
@[simp] theorem setPort_free : (s.setPort b p).free = s.free := rfl
@[simp] theorem setPort_pending : (s.setPort b p).pending = s.pending := rfl
@[simp] theorem setPort_seat (n' : SeatNo) : (s.setPort b p).seat n' = s.seat n' := rfl
@[simp] theorem setPort_refusalOf (n' : SeatNo) : (s.setPort b p).refusalOf n' = s.refusalOf n' := rfl
@[simp] theorem setPort_chan (c' : ChanNo) : (s.setPort b p).chan c' = s.chan c' := rfl

end setPort

section withNow
variable (x : Nat)

@[simp] theorem withNow_now : (s.withNow x).now = x := rfl
@[simp] theorem withNow_seats : (s.withNow x).seats = s.seats := rfl
@[simp] theorem withNow_refusal : (s.withNow x).refusal = s.refusal := rfl
@[simp] theorem withNow_classes : (s.withNow x).classes = s.classes := rfl
@[simp] theorem withNow_branches : (s.withNow x).branches = s.branches := rfl
@[simp] theorem withNow_floorCfg : (s.withNow x).floorCfg = s.floorCfg := rfl
@[simp] theorem withNow_ports : (s.withNow x).ports = s.ports := rfl
@[simp] theorem withNow_uplink : (s.withNow x).uplink = s.uplink := rfl
@[simp] theorem withNow_list : (s.withNow x).list = s.list := rfl
@[simp] theorem withNow_channels : (s.withNow x).channels = s.channels := rfl
@[simp] theorem withNow_grantOrder : (s.withNow x).grantOrder = s.grantOrder := rfl
@[simp] theorem withNow_holders : (s.withNow x).holders = s.holders := rfl
@[simp] theorem withNow_floor : (s.withNow x).floor = s.floor := rfl
@[simp] theorem withNow_mgmt : (s.withNow x).mgmt = s.mgmt := rfl
@[simp] theorem withNow_profile : (s.withNow x).profile = s.profile := rfl
@[simp] theorem withNow_startUp : (s.withNow x).startUp = s.startUp := rfl
@[simp] theorem withNow_free : (s.withNow x).free = s.free := rfl
@[simp] theorem withNow_pending : (s.withNow x).pending = s.pending := rfl
@[simp] theorem withNow_seat (n' : SeatNo) : (s.withNow x).seat n' = s.seat n' := rfl
@[simp] theorem withNow_refusalOf (n' : SeatNo) : (s.withNow x).refusalOf n' = s.refusalOf n' := rfl
@[simp] theorem withNow_chan (c' : ChanNo) : (s.withNow x).chan c' = s.chan c' := rfl
@[simp] theorem withNow_port (b' : BranchId) : (s.withNow x).port b' = s.port b' := rfl

end withNow

section withSeats
variable (x : Vector SeatRecord 1024)

@[simp] theorem withSeats_now : (s.withSeats x).now = s.now := rfl
@[simp] theorem withSeats_seats : (s.withSeats x).seats = x := rfl
@[simp] theorem withSeats_refusal : (s.withSeats x).refusal = s.refusal := rfl
@[simp] theorem withSeats_classes : (s.withSeats x).classes = s.classes := rfl
@[simp] theorem withSeats_branches : (s.withSeats x).branches = s.branches := rfl
@[simp] theorem withSeats_floorCfg : (s.withSeats x).floorCfg = s.floorCfg := rfl
@[simp] theorem withSeats_ports : (s.withSeats x).ports = s.ports := rfl
@[simp] theorem withSeats_uplink : (s.withSeats x).uplink = s.uplink := rfl
@[simp] theorem withSeats_list : (s.withSeats x).list = s.list := rfl
@[simp] theorem withSeats_channels : (s.withSeats x).channels = s.channels := rfl
@[simp] theorem withSeats_grantOrder : (s.withSeats x).grantOrder = s.grantOrder := rfl
@[simp] theorem withSeats_holders : (s.withSeats x).holders = s.holders := rfl
@[simp] theorem withSeats_floor : (s.withSeats x).floor = s.floor := rfl
@[simp] theorem withSeats_mgmt : (s.withSeats x).mgmt = s.mgmt := rfl
@[simp] theorem withSeats_profile : (s.withSeats x).profile = s.profile := rfl
@[simp] theorem withSeats_startUp : (s.withSeats x).startUp = s.startUp := rfl
@[simp] theorem withSeats_free : (s.withSeats x).free = s.free := rfl
@[simp] theorem withSeats_pending : (s.withSeats x).pending = s.pending := rfl
@[simp] theorem withSeats_refusalOf (n' : SeatNo) : (s.withSeats x).refusalOf n' = s.refusalOf n' := rfl
@[simp] theorem withSeats_chan (c' : ChanNo) : (s.withSeats x).chan c' = s.chan c' := rfl
@[simp] theorem withSeats_port (b' : BranchId) : (s.withSeats x).port b' = s.port b' := rfl

end withSeats

section withRefusal
variable (x : Vector (Option Nat) 1024)

@[simp] theorem withRefusal_now : (s.withRefusal x).now = s.now := rfl
@[simp] theorem withRefusal_seats : (s.withRefusal x).seats = s.seats := rfl
@[simp] theorem withRefusal_refusal : (s.withRefusal x).refusal = x := rfl
@[simp] theorem withRefusal_classes : (s.withRefusal x).classes = s.classes := rfl
@[simp] theorem withRefusal_branches : (s.withRefusal x).branches = s.branches := rfl
@[simp] theorem withRefusal_floorCfg : (s.withRefusal x).floorCfg = s.floorCfg := rfl
@[simp] theorem withRefusal_ports : (s.withRefusal x).ports = s.ports := rfl
@[simp] theorem withRefusal_uplink : (s.withRefusal x).uplink = s.uplink := rfl
@[simp] theorem withRefusal_list : (s.withRefusal x).list = s.list := rfl
@[simp] theorem withRefusal_channels : (s.withRefusal x).channels = s.channels := rfl
@[simp] theorem withRefusal_grantOrder : (s.withRefusal x).grantOrder = s.grantOrder := rfl
@[simp] theorem withRefusal_holders : (s.withRefusal x).holders = s.holders := rfl
@[simp] theorem withRefusal_floor : (s.withRefusal x).floor = s.floor := rfl
@[simp] theorem withRefusal_mgmt : (s.withRefusal x).mgmt = s.mgmt := rfl
@[simp] theorem withRefusal_profile : (s.withRefusal x).profile = s.profile := rfl
@[simp] theorem withRefusal_startUp : (s.withRefusal x).startUp = s.startUp := rfl
@[simp] theorem withRefusal_free : (s.withRefusal x).free = s.free := rfl
@[simp] theorem withRefusal_pending : (s.withRefusal x).pending = s.pending := rfl
@[simp] theorem withRefusal_seat (n' : SeatNo) : (s.withRefusal x).seat n' = s.seat n' := rfl
@[simp] theorem withRefusal_chan (c' : ChanNo) : (s.withRefusal x).chan c' = s.chan c' := rfl
@[simp] theorem withRefusal_port (b' : BranchId) : (s.withRefusal x).port b' = s.port b' := rfl

end withRefusal

section withClasses
variable (x : ClassTable)

@[simp] theorem withClasses_now : (s.withClasses x).now = s.now := rfl
@[simp] theorem withClasses_seats : (s.withClasses x).seats = s.seats := rfl
@[simp] theorem withClasses_refusal : (s.withClasses x).refusal = s.refusal := rfl
@[simp] theorem withClasses_classes : (s.withClasses x).classes = x := rfl
@[simp] theorem withClasses_branches : (s.withClasses x).branches = s.branches := rfl
@[simp] theorem withClasses_floorCfg : (s.withClasses x).floorCfg = s.floorCfg := rfl
@[simp] theorem withClasses_ports : (s.withClasses x).ports = s.ports := rfl
@[simp] theorem withClasses_uplink : (s.withClasses x).uplink = s.uplink := rfl
@[simp] theorem withClasses_list : (s.withClasses x).list = s.list := rfl
@[simp] theorem withClasses_channels : (s.withClasses x).channels = s.channels := rfl
@[simp] theorem withClasses_grantOrder : (s.withClasses x).grantOrder = s.grantOrder := rfl
@[simp] theorem withClasses_holders : (s.withClasses x).holders = s.holders := rfl
@[simp] theorem withClasses_floor : (s.withClasses x).floor = s.floor := rfl
@[simp] theorem withClasses_mgmt : (s.withClasses x).mgmt = s.mgmt := rfl
@[simp] theorem withClasses_profile : (s.withClasses x).profile = s.profile := rfl
@[simp] theorem withClasses_startUp : (s.withClasses x).startUp = s.startUp := rfl
@[simp] theorem withClasses_free : (s.withClasses x).free = s.free := rfl
@[simp] theorem withClasses_pending : (s.withClasses x).pending = s.pending := rfl
@[simp] theorem withClasses_seat (n' : SeatNo) : (s.withClasses x).seat n' = s.seat n' := rfl
@[simp] theorem withClasses_refusalOf (n' : SeatNo) : (s.withClasses x).refusalOf n' = s.refusalOf n' := rfl
@[simp] theorem withClasses_chan (c' : ChanNo) : (s.withClasses x).chan c' = s.chan c' := rfl
@[simp] theorem withClasses_port (b' : BranchId) : (s.withClasses x).port b' = s.port b' := rfl

end withClasses

section withBranches
variable (x : BranchTable)

@[simp] theorem withBranches_now : (s.withBranches x).now = s.now := rfl
@[simp] theorem withBranches_seats : (s.withBranches x).seats = s.seats := rfl
@[simp] theorem withBranches_refusal : (s.withBranches x).refusal = s.refusal := rfl
@[simp] theorem withBranches_classes : (s.withBranches x).classes = s.classes := rfl
@[simp] theorem withBranches_branches : (s.withBranches x).branches = x := rfl
@[simp] theorem withBranches_floorCfg : (s.withBranches x).floorCfg = s.floorCfg := rfl
@[simp] theorem withBranches_ports : (s.withBranches x).ports = s.ports := rfl
@[simp] theorem withBranches_uplink : (s.withBranches x).uplink = s.uplink := rfl
@[simp] theorem withBranches_list : (s.withBranches x).list = s.list := rfl
@[simp] theorem withBranches_channels : (s.withBranches x).channels = s.channels := rfl
@[simp] theorem withBranches_grantOrder : (s.withBranches x).grantOrder = s.grantOrder := rfl
@[simp] theorem withBranches_holders : (s.withBranches x).holders = s.holders := rfl
@[simp] theorem withBranches_floor : (s.withBranches x).floor = s.floor := rfl
@[simp] theorem withBranches_mgmt : (s.withBranches x).mgmt = s.mgmt := rfl
@[simp] theorem withBranches_profile : (s.withBranches x).profile = s.profile := rfl
@[simp] theorem withBranches_startUp : (s.withBranches x).startUp = s.startUp := rfl
@[simp] theorem withBranches_free : (s.withBranches x).free = s.free := rfl
@[simp] theorem withBranches_pending : (s.withBranches x).pending = s.pending := rfl
@[simp] theorem withBranches_seat (n' : SeatNo) : (s.withBranches x).seat n' = s.seat n' := rfl
@[simp] theorem withBranches_refusalOf (n' : SeatNo) : (s.withBranches x).refusalOf n' = s.refusalOf n' := rfl
@[simp] theorem withBranches_chan (c' : ChanNo) : (s.withBranches x).chan c' = s.chan c' := rfl
@[simp] theorem withBranches_port (b' : BranchId) : (s.withBranches x).port b' = s.port b' := rfl

end withBranches

section withFloorCfg
variable (x : FloorConfig)

@[simp] theorem withFloorCfg_now : (s.withFloorCfg x).now = s.now := rfl
@[simp] theorem withFloorCfg_seats : (s.withFloorCfg x).seats = s.seats := rfl
@[simp] theorem withFloorCfg_refusal : (s.withFloorCfg x).refusal = s.refusal := rfl
@[simp] theorem withFloorCfg_classes : (s.withFloorCfg x).classes = s.classes := rfl
@[simp] theorem withFloorCfg_branches : (s.withFloorCfg x).branches = s.branches := rfl
@[simp] theorem withFloorCfg_floorCfg : (s.withFloorCfg x).floorCfg = x := rfl
@[simp] theorem withFloorCfg_ports : (s.withFloorCfg x).ports = s.ports := rfl
@[simp] theorem withFloorCfg_uplink : (s.withFloorCfg x).uplink = s.uplink := rfl
@[simp] theorem withFloorCfg_list : (s.withFloorCfg x).list = s.list := rfl
@[simp] theorem withFloorCfg_channels : (s.withFloorCfg x).channels = s.channels := rfl
@[simp] theorem withFloorCfg_grantOrder : (s.withFloorCfg x).grantOrder = s.grantOrder := rfl
@[simp] theorem withFloorCfg_holders : (s.withFloorCfg x).holders = s.holders := rfl
@[simp] theorem withFloorCfg_floor : (s.withFloorCfg x).floor = s.floor := rfl
@[simp] theorem withFloorCfg_mgmt : (s.withFloorCfg x).mgmt = s.mgmt := rfl
@[simp] theorem withFloorCfg_profile : (s.withFloorCfg x).profile = s.profile := rfl
@[simp] theorem withFloorCfg_startUp : (s.withFloorCfg x).startUp = s.startUp := rfl
@[simp] theorem withFloorCfg_free : (s.withFloorCfg x).free = s.free := rfl
@[simp] theorem withFloorCfg_pending : (s.withFloorCfg x).pending = s.pending := rfl
@[simp] theorem withFloorCfg_seat (n' : SeatNo) : (s.withFloorCfg x).seat n' = s.seat n' := rfl
@[simp] theorem withFloorCfg_refusalOf (n' : SeatNo) : (s.withFloorCfg x).refusalOf n' = s.refusalOf n' := rfl
@[simp] theorem withFloorCfg_chan (c' : ChanNo) : (s.withFloorCfg x).chan c' = s.chan c' := rfl
@[simp] theorem withFloorCfg_port (b' : BranchId) : (s.withFloorCfg x).port b' = s.port b' := rfl

end withFloorCfg

section withPorts
variable (x : BranchPorts)

@[simp] theorem withPorts_now : (s.withPorts x).now = s.now := rfl
@[simp] theorem withPorts_seats : (s.withPorts x).seats = s.seats := rfl
@[simp] theorem withPorts_refusal : (s.withPorts x).refusal = s.refusal := rfl
@[simp] theorem withPorts_classes : (s.withPorts x).classes = s.classes := rfl
@[simp] theorem withPorts_branches : (s.withPorts x).branches = s.branches := rfl
@[simp] theorem withPorts_floorCfg : (s.withPorts x).floorCfg = s.floorCfg := rfl
@[simp] theorem withPorts_ports : (s.withPorts x).ports = x := rfl
@[simp] theorem withPorts_uplink : (s.withPorts x).uplink = s.uplink := rfl
@[simp] theorem withPorts_list : (s.withPorts x).list = s.list := rfl
@[simp] theorem withPorts_channels : (s.withPorts x).channels = s.channels := rfl
@[simp] theorem withPorts_grantOrder : (s.withPorts x).grantOrder = s.grantOrder := rfl
@[simp] theorem withPorts_holders : (s.withPorts x).holders = s.holders := rfl
@[simp] theorem withPorts_floor : (s.withPorts x).floor = s.floor := rfl
@[simp] theorem withPorts_mgmt : (s.withPorts x).mgmt = s.mgmt := rfl
@[simp] theorem withPorts_profile : (s.withPorts x).profile = s.profile := rfl
@[simp] theorem withPorts_startUp : (s.withPorts x).startUp = s.startUp := rfl
@[simp] theorem withPorts_free : (s.withPorts x).free = s.free := rfl
@[simp] theorem withPorts_pending : (s.withPorts x).pending = s.pending := rfl
@[simp] theorem withPorts_seat (n' : SeatNo) : (s.withPorts x).seat n' = s.seat n' := rfl
@[simp] theorem withPorts_refusalOf (n' : SeatNo) : (s.withPorts x).refusalOf n' = s.refusalOf n' := rfl
@[simp] theorem withPorts_chan (c' : ChanNo) : (s.withPorts x).chan c' = s.chan c' := rfl

end withPorts

section withUplink
variable (x : UplinkPort)

@[simp] theorem withUplink_now : (s.withUplink x).now = s.now := rfl
@[simp] theorem withUplink_seats : (s.withUplink x).seats = s.seats := rfl
@[simp] theorem withUplink_refusal : (s.withUplink x).refusal = s.refusal := rfl
@[simp] theorem withUplink_classes : (s.withUplink x).classes = s.classes := rfl
@[simp] theorem withUplink_branches : (s.withUplink x).branches = s.branches := rfl
@[simp] theorem withUplink_floorCfg : (s.withUplink x).floorCfg = s.floorCfg := rfl
@[simp] theorem withUplink_ports : (s.withUplink x).ports = s.ports := rfl
@[simp] theorem withUplink_uplink : (s.withUplink x).uplink = x := rfl
@[simp] theorem withUplink_list : (s.withUplink x).list = s.list := rfl
@[simp] theorem withUplink_channels : (s.withUplink x).channels = s.channels := rfl
@[simp] theorem withUplink_grantOrder : (s.withUplink x).grantOrder = s.grantOrder := rfl
@[simp] theorem withUplink_holders : (s.withUplink x).holders = s.holders := rfl
@[simp] theorem withUplink_floor : (s.withUplink x).floor = s.floor := rfl
@[simp] theorem withUplink_mgmt : (s.withUplink x).mgmt = s.mgmt := rfl
@[simp] theorem withUplink_profile : (s.withUplink x).profile = s.profile := rfl
@[simp] theorem withUplink_startUp : (s.withUplink x).startUp = s.startUp := rfl
@[simp] theorem withUplink_free : (s.withUplink x).free = s.free := rfl
@[simp] theorem withUplink_pending : (s.withUplink x).pending = s.pending := rfl
@[simp] theorem withUplink_seat (n' : SeatNo) : (s.withUplink x).seat n' = s.seat n' := rfl
@[simp] theorem withUplink_refusalOf (n' : SeatNo) : (s.withUplink x).refusalOf n' = s.refusalOf n' := rfl
@[simp] theorem withUplink_chan (c' : ChanNo) : (s.withUplink x).chan c' = s.chan c' := rfl
@[simp] theorem withUplink_port (b' : BranchId) : (s.withUplink x).port b' = s.port b' := rfl

end withUplink

section withList
variable (x : RequestList)

@[simp] theorem withList_now : (s.withList x).now = s.now := rfl
@[simp] theorem withList_seats : (s.withList x).seats = s.seats := rfl
@[simp] theorem withList_refusal : (s.withList x).refusal = s.refusal := rfl
@[simp] theorem withList_classes : (s.withList x).classes = s.classes := rfl
@[simp] theorem withList_branches : (s.withList x).branches = s.branches := rfl
@[simp] theorem withList_floorCfg : (s.withList x).floorCfg = s.floorCfg := rfl
@[simp] theorem withList_ports : (s.withList x).ports = s.ports := rfl
@[simp] theorem withList_uplink : (s.withList x).uplink = s.uplink := rfl
@[simp] theorem withList_list : (s.withList x).list = x := rfl
@[simp] theorem withList_channels : (s.withList x).channels = s.channels := rfl
@[simp] theorem withList_grantOrder : (s.withList x).grantOrder = s.grantOrder := rfl
@[simp] theorem withList_holders : (s.withList x).holders = s.holders := rfl
@[simp] theorem withList_floor : (s.withList x).floor = s.floor := rfl
@[simp] theorem withList_mgmt : (s.withList x).mgmt = s.mgmt := rfl
@[simp] theorem withList_profile : (s.withList x).profile = s.profile := rfl
@[simp] theorem withList_startUp : (s.withList x).startUp = s.startUp := rfl
@[simp] theorem withList_free : (s.withList x).free = s.free := rfl
@[simp] theorem withList_pending : (s.withList x).pending = s.pending := rfl
@[simp] theorem withList_seat (n' : SeatNo) : (s.withList x).seat n' = s.seat n' := rfl
@[simp] theorem withList_refusalOf (n' : SeatNo) : (s.withList x).refusalOf n' = s.refusalOf n' := rfl
@[simp] theorem withList_chan (c' : ChanNo) : (s.withList x).chan c' = s.chan c' := rfl
@[simp] theorem withList_port (b' : BranchId) : (s.withList x).port b' = s.port b' := rfl

end withList

section withChannels
variable (x : Vector Channel 16)

@[simp] theorem withChannels_now : (s.withChannels x).now = s.now := rfl
@[simp] theorem withChannels_seats : (s.withChannels x).seats = s.seats := rfl
@[simp] theorem withChannels_refusal : (s.withChannels x).refusal = s.refusal := rfl
@[simp] theorem withChannels_classes : (s.withChannels x).classes = s.classes := rfl
@[simp] theorem withChannels_branches : (s.withChannels x).branches = s.branches := rfl
@[simp] theorem withChannels_floorCfg : (s.withChannels x).floorCfg = s.floorCfg := rfl
@[simp] theorem withChannels_ports : (s.withChannels x).ports = s.ports := rfl
@[simp] theorem withChannels_uplink : (s.withChannels x).uplink = s.uplink := rfl
@[simp] theorem withChannels_list : (s.withChannels x).list = s.list := rfl
@[simp] theorem withChannels_channels : (s.withChannels x).channels = x := rfl
@[simp] theorem withChannels_grantOrder : (s.withChannels x).grantOrder = s.grantOrder := rfl
@[simp] theorem withChannels_holders : (s.withChannels x).holders = s.holders := rfl
@[simp] theorem withChannels_floor : (s.withChannels x).floor = s.floor := rfl
@[simp] theorem withChannels_mgmt : (s.withChannels x).mgmt = s.mgmt := rfl
@[simp] theorem withChannels_profile : (s.withChannels x).profile = s.profile := rfl
@[simp] theorem withChannels_startUp : (s.withChannels x).startUp = s.startUp := rfl
@[simp] theorem withChannels_free : (s.withChannels x).free = s.free := rfl
@[simp] theorem withChannels_pending : (s.withChannels x).pending = s.pending := rfl
@[simp] theorem withChannels_seat (n' : SeatNo) : (s.withChannels x).seat n' = s.seat n' := rfl
@[simp] theorem withChannels_refusalOf (n' : SeatNo) : (s.withChannels x).refusalOf n' = s.refusalOf n' := rfl
@[simp] theorem withChannels_port (b' : BranchId) : (s.withChannels x).port b' = s.port b' := rfl

end withChannels

section withGrantOrder
variable (x : List ChanNo)

@[simp] theorem withGrantOrder_now : (s.withGrantOrder x).now = s.now := rfl
@[simp] theorem withGrantOrder_seats : (s.withGrantOrder x).seats = s.seats := rfl
@[simp] theorem withGrantOrder_refusal : (s.withGrantOrder x).refusal = s.refusal := rfl
@[simp] theorem withGrantOrder_classes : (s.withGrantOrder x).classes = s.classes := rfl
@[simp] theorem withGrantOrder_branches : (s.withGrantOrder x).branches = s.branches := rfl
@[simp] theorem withGrantOrder_floorCfg : (s.withGrantOrder x).floorCfg = s.floorCfg := rfl
@[simp] theorem withGrantOrder_ports : (s.withGrantOrder x).ports = s.ports := rfl
@[simp] theorem withGrantOrder_uplink : (s.withGrantOrder x).uplink = s.uplink := rfl
@[simp] theorem withGrantOrder_list : (s.withGrantOrder x).list = s.list := rfl
@[simp] theorem withGrantOrder_channels : (s.withGrantOrder x).channels = s.channels := rfl
@[simp] theorem withGrantOrder_grantOrder : (s.withGrantOrder x).grantOrder = x := rfl
@[simp] theorem withGrantOrder_holders : (s.withGrantOrder x).holders = s.holders := rfl
@[simp] theorem withGrantOrder_floor : (s.withGrantOrder x).floor = s.floor := rfl
@[simp] theorem withGrantOrder_mgmt : (s.withGrantOrder x).mgmt = s.mgmt := rfl
@[simp] theorem withGrantOrder_profile : (s.withGrantOrder x).profile = s.profile := rfl
@[simp] theorem withGrantOrder_startUp : (s.withGrantOrder x).startUp = s.startUp := rfl
@[simp] theorem withGrantOrder_free : (s.withGrantOrder x).free = s.free := rfl
@[simp] theorem withGrantOrder_pending : (s.withGrantOrder x).pending = s.pending := rfl
@[simp] theorem withGrantOrder_seat (n' : SeatNo) : (s.withGrantOrder x).seat n' = s.seat n' := rfl
@[simp] theorem withGrantOrder_refusalOf (n' : SeatNo) : (s.withGrantOrder x).refusalOf n' = s.refusalOf n' := rfl
@[simp] theorem withGrantOrder_chan (c' : ChanNo) : (s.withGrantOrder x).chan c' = s.chan c' := rfl
@[simp] theorem withGrantOrder_port (b' : BranchId) : (s.withGrantOrder x).port b' = s.port b' := rfl

end withGrantOrder

section withHolders
variable (x : List SeatNo)

@[simp] theorem withHolders_now : (s.withHolders x).now = s.now := rfl
@[simp] theorem withHolders_seats : (s.withHolders x).seats = s.seats := rfl
@[simp] theorem withHolders_refusal : (s.withHolders x).refusal = s.refusal := rfl
@[simp] theorem withHolders_classes : (s.withHolders x).classes = s.classes := rfl
@[simp] theorem withHolders_branches : (s.withHolders x).branches = s.branches := rfl
@[simp] theorem withHolders_floorCfg : (s.withHolders x).floorCfg = s.floorCfg := rfl
@[simp] theorem withHolders_ports : (s.withHolders x).ports = s.ports := rfl
@[simp] theorem withHolders_uplink : (s.withHolders x).uplink = s.uplink := rfl
@[simp] theorem withHolders_list : (s.withHolders x).list = s.list := rfl
@[simp] theorem withHolders_channels : (s.withHolders x).channels = s.channels := rfl
@[simp] theorem withHolders_grantOrder : (s.withHolders x).grantOrder = s.grantOrder := rfl
@[simp] theorem withHolders_holders : (s.withHolders x).holders = x := rfl
@[simp] theorem withHolders_floor : (s.withHolders x).floor = s.floor := rfl
@[simp] theorem withHolders_mgmt : (s.withHolders x).mgmt = s.mgmt := rfl
@[simp] theorem withHolders_profile : (s.withHolders x).profile = s.profile := rfl
@[simp] theorem withHolders_startUp : (s.withHolders x).startUp = s.startUp := rfl
@[simp] theorem withHolders_free : (s.withHolders x).free = s.free := rfl
@[simp] theorem withHolders_pending : (s.withHolders x).pending = s.pending := rfl
@[simp] theorem withHolders_seat (n' : SeatNo) : (s.withHolders x).seat n' = s.seat n' := rfl
@[simp] theorem withHolders_refusalOf (n' : SeatNo) : (s.withHolders x).refusalOf n' = s.refusalOf n' := rfl
@[simp] theorem withHolders_chan (c' : ChanNo) : (s.withHolders x).chan c' = s.chan c' := rfl
@[simp] theorem withHolders_port (b' : BranchId) : (s.withHolders x).port b' = s.port b' := rfl

end withHolders

section withFloor
variable (x : FloorState)

@[simp] theorem withFloor_now : (s.withFloor x).now = s.now := rfl
@[simp] theorem withFloor_seats : (s.withFloor x).seats = s.seats := rfl
@[simp] theorem withFloor_refusal : (s.withFloor x).refusal = s.refusal := rfl
@[simp] theorem withFloor_classes : (s.withFloor x).classes = s.classes := rfl
@[simp] theorem withFloor_branches : (s.withFloor x).branches = s.branches := rfl
@[simp] theorem withFloor_floorCfg : (s.withFloor x).floorCfg = s.floorCfg := rfl
@[simp] theorem withFloor_ports : (s.withFloor x).ports = s.ports := rfl
@[simp] theorem withFloor_uplink : (s.withFloor x).uplink = s.uplink := rfl
@[simp] theorem withFloor_list : (s.withFloor x).list = s.list := rfl
@[simp] theorem withFloor_channels : (s.withFloor x).channels = s.channels := rfl
@[simp] theorem withFloor_grantOrder : (s.withFloor x).grantOrder = s.grantOrder := rfl
@[simp] theorem withFloor_holders : (s.withFloor x).holders = s.holders := rfl
@[simp] theorem withFloor_floor : (s.withFloor x).floor = x := rfl
@[simp] theorem withFloor_mgmt : (s.withFloor x).mgmt = s.mgmt := rfl
@[simp] theorem withFloor_profile : (s.withFloor x).profile = s.profile := rfl
@[simp] theorem withFloor_startUp : (s.withFloor x).startUp = s.startUp := rfl
@[simp] theorem withFloor_free : (s.withFloor x).free = s.free := rfl
@[simp] theorem withFloor_pending : (s.withFloor x).pending = s.pending := rfl
@[simp] theorem withFloor_seat (n' : SeatNo) : (s.withFloor x).seat n' = s.seat n' := rfl
@[simp] theorem withFloor_refusalOf (n' : SeatNo) : (s.withFloor x).refusalOf n' = s.refusalOf n' := rfl
@[simp] theorem withFloor_chan (c' : ChanNo) : (s.withFloor x).chan c' = s.chan c' := rfl
@[simp] theorem withFloor_port (b' : BranchId) : (s.withFloor x).port b' = s.port b' := rfl

end withFloor

section withMgmt
variable (x : Management)

@[simp] theorem withMgmt_now : (s.withMgmt x).now = s.now := rfl
@[simp] theorem withMgmt_seats : (s.withMgmt x).seats = s.seats := rfl
@[simp] theorem withMgmt_refusal : (s.withMgmt x).refusal = s.refusal := rfl
@[simp] theorem withMgmt_classes : (s.withMgmt x).classes = s.classes := rfl
@[simp] theorem withMgmt_branches : (s.withMgmt x).branches = s.branches := rfl
@[simp] theorem withMgmt_floorCfg : (s.withMgmt x).floorCfg = s.floorCfg := rfl
@[simp] theorem withMgmt_ports : (s.withMgmt x).ports = s.ports := rfl
@[simp] theorem withMgmt_uplink : (s.withMgmt x).uplink = s.uplink := rfl
@[simp] theorem withMgmt_list : (s.withMgmt x).list = s.list := rfl
@[simp] theorem withMgmt_channels : (s.withMgmt x).channels = s.channels := rfl
@[simp] theorem withMgmt_grantOrder : (s.withMgmt x).grantOrder = s.grantOrder := rfl
@[simp] theorem withMgmt_holders : (s.withMgmt x).holders = s.holders := rfl
@[simp] theorem withMgmt_floor : (s.withMgmt x).floor = s.floor := rfl
@[simp] theorem withMgmt_mgmt : (s.withMgmt x).mgmt = x := rfl
@[simp] theorem withMgmt_profile : (s.withMgmt x).profile = s.profile := rfl
@[simp] theorem withMgmt_startUp : (s.withMgmt x).startUp = s.startUp := rfl
@[simp] theorem withMgmt_free : (s.withMgmt x).free = s.free := rfl
@[simp] theorem withMgmt_pending : (s.withMgmt x).pending = s.pending := rfl
@[simp] theorem withMgmt_seat (n' : SeatNo) : (s.withMgmt x).seat n' = s.seat n' := rfl
@[simp] theorem withMgmt_refusalOf (n' : SeatNo) : (s.withMgmt x).refusalOf n' = s.refusalOf n' := rfl
@[simp] theorem withMgmt_chan (c' : ChanNo) : (s.withMgmt x).chan c' = s.chan c' := rfl
@[simp] theorem withMgmt_port (b' : BranchId) : (s.withMgmt x).port b' = s.port b' := rfl

end withMgmt

section withProfile
variable (x : Profile)

@[simp] theorem withProfile_now : (s.withProfile x).now = s.now := rfl
@[simp] theorem withProfile_seats : (s.withProfile x).seats = s.seats := rfl
@[simp] theorem withProfile_refusal : (s.withProfile x).refusal = s.refusal := rfl
@[simp] theorem withProfile_classes : (s.withProfile x).classes = s.classes := rfl
@[simp] theorem withProfile_branches : (s.withProfile x).branches = s.branches := rfl
@[simp] theorem withProfile_floorCfg : (s.withProfile x).floorCfg = s.floorCfg := rfl
@[simp] theorem withProfile_ports : (s.withProfile x).ports = s.ports := rfl
@[simp] theorem withProfile_uplink : (s.withProfile x).uplink = s.uplink := rfl
@[simp] theorem withProfile_list : (s.withProfile x).list = s.list := rfl
@[simp] theorem withProfile_channels : (s.withProfile x).channels = s.channels := rfl
@[simp] theorem withProfile_grantOrder : (s.withProfile x).grantOrder = s.grantOrder := rfl
@[simp] theorem withProfile_holders : (s.withProfile x).holders = s.holders := rfl
@[simp] theorem withProfile_floor : (s.withProfile x).floor = s.floor := rfl
@[simp] theorem withProfile_mgmt : (s.withProfile x).mgmt = s.mgmt := rfl
@[simp] theorem withProfile_profile : (s.withProfile x).profile = x := rfl
@[simp] theorem withProfile_startUp : (s.withProfile x).startUp = s.startUp := rfl
@[simp] theorem withProfile_free : (s.withProfile x).free = s.free := rfl
@[simp] theorem withProfile_pending : (s.withProfile x).pending = s.pending := rfl
@[simp] theorem withProfile_seat (n' : SeatNo) : (s.withProfile x).seat n' = s.seat n' := rfl
@[simp] theorem withProfile_refusalOf (n' : SeatNo) : (s.withProfile x).refusalOf n' = s.refusalOf n' := rfl
@[simp] theorem withProfile_chan (c' : ChanNo) : (s.withProfile x).chan c' = s.chan c' := rfl
@[simp] theorem withProfile_port (b' : BranchId) : (s.withProfile x).port b' = s.port b' := rfl

end withProfile

section withStartUp
variable (x : StartUp)

@[simp] theorem withStartUp_now : (s.withStartUp x).now = s.now := rfl
@[simp] theorem withStartUp_seats : (s.withStartUp x).seats = s.seats := rfl
@[simp] theorem withStartUp_refusal : (s.withStartUp x).refusal = s.refusal := rfl
@[simp] theorem withStartUp_classes : (s.withStartUp x).classes = s.classes := rfl
@[simp] theorem withStartUp_branches : (s.withStartUp x).branches = s.branches := rfl
@[simp] theorem withStartUp_floorCfg : (s.withStartUp x).floorCfg = s.floorCfg := rfl
@[simp] theorem withStartUp_ports : (s.withStartUp x).ports = s.ports := rfl
@[simp] theorem withStartUp_uplink : (s.withStartUp x).uplink = s.uplink := rfl
@[simp] theorem withStartUp_list : (s.withStartUp x).list = s.list := rfl
@[simp] theorem withStartUp_channels : (s.withStartUp x).channels = s.channels := rfl
@[simp] theorem withStartUp_grantOrder : (s.withStartUp x).grantOrder = s.grantOrder := rfl
@[simp] theorem withStartUp_holders : (s.withStartUp x).holders = s.holders := rfl
@[simp] theorem withStartUp_floor : (s.withStartUp x).floor = s.floor := rfl
@[simp] theorem withStartUp_mgmt : (s.withStartUp x).mgmt = s.mgmt := rfl
@[simp] theorem withStartUp_profile : (s.withStartUp x).profile = s.profile := rfl
@[simp] theorem withStartUp_startUp : (s.withStartUp x).startUp = x := rfl
@[simp] theorem withStartUp_free : (s.withStartUp x).free = s.free := rfl
@[simp] theorem withStartUp_pending : (s.withStartUp x).pending = s.pending := rfl
@[simp] theorem withStartUp_seat (n' : SeatNo) : (s.withStartUp x).seat n' = s.seat n' := rfl
@[simp] theorem withStartUp_refusalOf (n' : SeatNo) : (s.withStartUp x).refusalOf n' = s.refusalOf n' := rfl
@[simp] theorem withStartUp_chan (c' : ChanNo) : (s.withStartUp x).chan c' = s.chan c' := rfl
@[simp] theorem withStartUp_port (b' : BranchId) : (s.withStartUp x).port b' = s.port b' := rfl

end withStartUp

section withFree
variable (x : Nat)

@[simp] theorem withFree_now : (s.withFree x).now = s.now := rfl
@[simp] theorem withFree_seats : (s.withFree x).seats = s.seats := rfl
@[simp] theorem withFree_refusal : (s.withFree x).refusal = s.refusal := rfl
@[simp] theorem withFree_classes : (s.withFree x).classes = s.classes := rfl
@[simp] theorem withFree_branches : (s.withFree x).branches = s.branches := rfl
@[simp] theorem withFree_floorCfg : (s.withFree x).floorCfg = s.floorCfg := rfl
@[simp] theorem withFree_ports : (s.withFree x).ports = s.ports := rfl
@[simp] theorem withFree_uplink : (s.withFree x).uplink = s.uplink := rfl
@[simp] theorem withFree_list : (s.withFree x).list = s.list := rfl
@[simp] theorem withFree_channels : (s.withFree x).channels = s.channels := rfl
@[simp] theorem withFree_grantOrder : (s.withFree x).grantOrder = s.grantOrder := rfl
@[simp] theorem withFree_holders : (s.withFree x).holders = s.holders := rfl
@[simp] theorem withFree_floor : (s.withFree x).floor = s.floor := rfl
@[simp] theorem withFree_mgmt : (s.withFree x).mgmt = s.mgmt := rfl
@[simp] theorem withFree_profile : (s.withFree x).profile = s.profile := rfl
@[simp] theorem withFree_startUp : (s.withFree x).startUp = s.startUp := rfl
@[simp] theorem withFree_free : (s.withFree x).free = x := rfl
@[simp] theorem withFree_pending : (s.withFree x).pending = s.pending := rfl
@[simp] theorem withFree_seat (n' : SeatNo) : (s.withFree x).seat n' = s.seat n' := rfl
@[simp] theorem withFree_refusalOf (n' : SeatNo) : (s.withFree x).refusalOf n' = s.refusalOf n' := rfl
@[simp] theorem withFree_chan (c' : ChanNo) : (s.withFree x).chan c' = s.chan c' := rfl
@[simp] theorem withFree_port (b' : BranchId) : (s.withFree x).port b' = s.port b' := rfl

end withFree

section withPending
variable (x : List Instr)

@[simp] theorem withPending_now : (s.withPending x).now = s.now := rfl
@[simp] theorem withPending_seats : (s.withPending x).seats = s.seats := rfl
@[simp] theorem withPending_refusal : (s.withPending x).refusal = s.refusal := rfl
@[simp] theorem withPending_classes : (s.withPending x).classes = s.classes := rfl
@[simp] theorem withPending_branches : (s.withPending x).branches = s.branches := rfl
@[simp] theorem withPending_floorCfg : (s.withPending x).floorCfg = s.floorCfg := rfl
@[simp] theorem withPending_ports : (s.withPending x).ports = s.ports := rfl
@[simp] theorem withPending_uplink : (s.withPending x).uplink = s.uplink := rfl
@[simp] theorem withPending_list : (s.withPending x).list = s.list := rfl
@[simp] theorem withPending_channels : (s.withPending x).channels = s.channels := rfl
@[simp] theorem withPending_grantOrder : (s.withPending x).grantOrder = s.grantOrder := rfl
@[simp] theorem withPending_holders : (s.withPending x).holders = s.holders := rfl
@[simp] theorem withPending_floor : (s.withPending x).floor = s.floor := rfl
@[simp] theorem withPending_mgmt : (s.withPending x).mgmt = s.mgmt := rfl
@[simp] theorem withPending_profile : (s.withPending x).profile = s.profile := rfl
@[simp] theorem withPending_startUp : (s.withPending x).startUp = s.startUp := rfl
@[simp] theorem withPending_free : (s.withPending x).free = s.free := rfl
@[simp] theorem withPending_pending : (s.withPending x).pending = x := rfl
@[simp] theorem withPending_seat (n' : SeatNo) : (s.withPending x).seat n' = s.seat n' := rfl
@[simp] theorem withPending_refusalOf (n' : SeatNo) : (s.withPending x).refusalOf n' = s.refusalOf n' := rfl
@[simp] theorem withPending_chan (c' : ChanNo) : (s.withPending x).chan c' = s.chan c' := rfl
@[simp] theorem withPending_port (b' : BranchId) : (s.withPending x).port b' = s.port b' := rfl

end withPending

/-! ### The same record everywhere -/

@[simp] theorem everySeat_get {α : Type} (x : α) (n : SeatNo) : (everySeat x)[n] = x := by
  simp only [everySeat, seatTable, Fin.getElem_fin, Vector.getElem_mk, List.getElem_toArray, List.getElem_replicate]

@[simp] theorem everyChannel_get {α : Type} (x : α) (c : ChanNo) : (everyChannel x)[c] = x := by
  simp only [everyChannel, Fin.getElem_fin, Vector.getElem_mk, List.getElem_toArray, List.getElem_replicate]

@[simp] theorem reset_seat (n : SeatNo) : State.reset.seat n = ⟨defaultSeatConfig, resetRun 0 1800⟩ := everySeat_get _ n

@[simp] theorem reset_refusalOf (n : SeatNo) : State.reset.refusalOf n = none := everySeat_get _ n

@[simp] theorem reset_chan (c : ChanNo) : State.reset.chan c = resetChannel := everyChannel_get _ c

/-! ### The record that an update replaces -/

theorem seat_setSeat (n n' : SeatNo) (r : SeatRecord) :
    (s.setSeat n r).seat n' = if n = n' then r else s.seat n' := by
  simp only [seat, setSeat, Fin.getElem_fin, Vector.getElem_set, Fin.ext_iff]

@[simp] theorem seat_setSeat_self (n : SeatNo) (r : SeatRecord) : (s.setSeat n r).seat n = r := by
  simp [seat_setSeat]

theorem seat_setSeat_of_ne (n n' : SeatNo) (r : SeatRecord) (h : n ≠ n') : (s.setSeat n r).seat n' = s.seat n' := by
  simp [seat_setSeat, h]

theorem refusalOf_setRefusal (n n' : SeatNo) (x : Option Nat) :
    (s.setRefusal n x).refusalOf n' = if n = n' then x else s.refusalOf n' := by
  simp only [refusalOf, setRefusal, Fin.getElem_fin, Vector.getElem_set, Fin.ext_iff]

@[simp] theorem refusalOf_setRefusal_self (n : SeatNo) (x : Option Nat) : (s.setRefusal n x).refusalOf n = x := by
  simp [refusalOf_setRefusal]

theorem chan_setChan (c c' : ChanNo) (k : Channel) :
    (s.setChan c k).chan c' = if c = c' then k else s.chan c' := by
  simp only [chan, setChan, Fin.getElem_fin, Vector.getElem_set, Fin.ext_iff]

@[simp] theorem chan_setChan_self (c : ChanNo) (k : Channel) : (s.setChan c k).chan c = k := by
  simp [chan_setChan]

theorem chan_setChan_of_ne (c c' : ChanNo) (k : Channel) (h : c ≠ c') : (s.setChan c k).chan c' = s.chan c' := by
  simp [chan_setChan, h]

theorem port_setPort (b b' : BranchId) (p : BranchPort) :
    (s.setPort b p).port b' = if b = b' then p else s.port b' := by
  cases b <;> cases b' <;> rfl

@[simp] theorem port_setPort_self (b : BranchId) (p : BranchPort) : (s.setPort b p).port b = p := by
  simp [port_setPort]

theorem port_setPort_of_ne (b b' : BranchId) (p : BranchPort) (h : b ≠ b') : (s.setPort b p).port b' = s.port b' := by
  simp [port_setPort, h]

/-! ### Changes inside one record -/

section updRun
variable (n : SeatNo) (f : SeatRun → SeatRun)

@[simp] theorem updRun_now : (s.updRun n f).now = s.now := rfl
@[simp] theorem updRun_refusal : (s.updRun n f).refusal = s.refusal := rfl
@[simp] theorem updRun_classes : (s.updRun n f).classes = s.classes := rfl
@[simp] theorem updRun_branches : (s.updRun n f).branches = s.branches := rfl
@[simp] theorem updRun_floorCfg : (s.updRun n f).floorCfg = s.floorCfg := rfl
@[simp] theorem updRun_ports : (s.updRun n f).ports = s.ports := rfl
@[simp] theorem updRun_uplink : (s.updRun n f).uplink = s.uplink := rfl
@[simp] theorem updRun_list : (s.updRun n f).list = s.list := rfl
@[simp] theorem updRun_channels : (s.updRun n f).channels = s.channels := rfl
@[simp] theorem updRun_grantOrder : (s.updRun n f).grantOrder = s.grantOrder := rfl
@[simp] theorem updRun_holders : (s.updRun n f).holders = s.holders := rfl
@[simp] theorem updRun_floor : (s.updRun n f).floor = s.floor := rfl
@[simp] theorem updRun_mgmt : (s.updRun n f).mgmt = s.mgmt := rfl
@[simp] theorem updRun_profile : (s.updRun n f).profile = s.profile := rfl
@[simp] theorem updRun_startUp : (s.updRun n f).startUp = s.startUp := rfl
@[simp] theorem updRun_free : (s.updRun n f).free = s.free := rfl
@[simp] theorem updRun_pending : (s.updRun n f).pending = s.pending := rfl
@[simp] theorem updRun_refusalOf (n' : SeatNo) : (s.updRun n f).refusalOf n' = s.refusalOf n' := rfl
@[simp] theorem updRun_chan (c' : ChanNo) : (s.updRun n f).chan c' = s.chan c' := rfl
@[simp] theorem updRun_port (b' : BranchId) : (s.updRun n f).port b' = s.port b' := rfl

end updRun

section updChan
variable (c : ChanNo) (f : Channel → Channel)

@[simp] theorem updChan_now : (s.updChan c f).now = s.now := rfl
@[simp] theorem updChan_seats : (s.updChan c f).seats = s.seats := rfl
@[simp] theorem updChan_refusal : (s.updChan c f).refusal = s.refusal := rfl
@[simp] theorem updChan_classes : (s.updChan c f).classes = s.classes := rfl
@[simp] theorem updChan_branches : (s.updChan c f).branches = s.branches := rfl
@[simp] theorem updChan_floorCfg : (s.updChan c f).floorCfg = s.floorCfg := rfl
@[simp] theorem updChan_ports : (s.updChan c f).ports = s.ports := rfl
@[simp] theorem updChan_uplink : (s.updChan c f).uplink = s.uplink := rfl
@[simp] theorem updChan_list : (s.updChan c f).list = s.list := rfl
@[simp] theorem updChan_grantOrder : (s.updChan c f).grantOrder = s.grantOrder := rfl
@[simp] theorem updChan_holders : (s.updChan c f).holders = s.holders := rfl
@[simp] theorem updChan_floor : (s.updChan c f).floor = s.floor := rfl
@[simp] theorem updChan_mgmt : (s.updChan c f).mgmt = s.mgmt := rfl
@[simp] theorem updChan_profile : (s.updChan c f).profile = s.profile := rfl
@[simp] theorem updChan_startUp : (s.updChan c f).startUp = s.startUp := rfl
@[simp] theorem updChan_free : (s.updChan c f).free = s.free := rfl
@[simp] theorem updChan_pending : (s.updChan c f).pending = s.pending := rfl
@[simp] theorem updChan_seat (n' : SeatNo) : (s.updChan c f).seat n' = s.seat n' := rfl
@[simp] theorem updChan_refusalOf (n' : SeatNo) : (s.updChan c f).refusalOf n' = s.refusalOf n' := rfl
@[simp] theorem updChan_port (b' : BranchId) : (s.updChan c f).port b' = s.port b' := rfl

end updChan

section updPort
variable (b : BranchId) (f : BranchPort → BranchPort)

@[simp] theorem updPort_now : (s.updPort b f).now = s.now := rfl
@[simp] theorem updPort_seats : (s.updPort b f).seats = s.seats := rfl
@[simp] theorem updPort_refusal : (s.updPort b f).refusal = s.refusal := rfl
@[simp] theorem updPort_classes : (s.updPort b f).classes = s.classes := rfl
@[simp] theorem updPort_branches : (s.updPort b f).branches = s.branches := rfl
@[simp] theorem updPort_floorCfg : (s.updPort b f).floorCfg = s.floorCfg := rfl
@[simp] theorem updPort_uplink : (s.updPort b f).uplink = s.uplink := rfl
@[simp] theorem updPort_list : (s.updPort b f).list = s.list := rfl
@[simp] theorem updPort_channels : (s.updPort b f).channels = s.channels := rfl
@[simp] theorem updPort_grantOrder : (s.updPort b f).grantOrder = s.grantOrder := rfl
@[simp] theorem updPort_holders : (s.updPort b f).holders = s.holders := rfl
@[simp] theorem updPort_floor : (s.updPort b f).floor = s.floor := rfl
@[simp] theorem updPort_mgmt : (s.updPort b f).mgmt = s.mgmt := rfl
@[simp] theorem updPort_profile : (s.updPort b f).profile = s.profile := rfl
@[simp] theorem updPort_startUp : (s.updPort b f).startUp = s.startUp := rfl
@[simp] theorem updPort_free : (s.updPort b f).free = s.free := rfl
@[simp] theorem updPort_pending : (s.updPort b f).pending = s.pending := rfl
@[simp] theorem updPort_seat (n' : SeatNo) : (s.updPort b f).seat n' = s.seat n' := rfl
@[simp] theorem updPort_refusalOf (n' : SeatNo) : (s.updPort b f).refusalOf n' = s.refusalOf n' := rfl
@[simp] theorem updPort_chan (c' : ChanNo) : (s.updPort b f).chan c' = s.chan c' := rfl

end updPort

theorem seat_updRun (n n' : SeatNo) (f : SeatRun → SeatRun) :
    (s.updRun n f).seat n' = if n = n' then ⟨(s.seat n').cfg, f (s.seat n').run⟩ else s.seat n' := by
  unfold updRun
  rw [seat_setSeat]
  split
  · next h => subst h; rfl
  · rfl

@[simp] theorem seat_updRun_self (n : SeatNo) (f : SeatRun → SeatRun) :
    (s.updRun n f).seat n = ⟨(s.seat n).cfg, f (s.seat n).run⟩ := by
  simp [seat_updRun]

theorem seat_updRun_of_ne (n n' : SeatNo) (f : SeatRun → SeatRun) (h : n ≠ n') :
    (s.updRun n f).seat n' = s.seat n' := by
  simp [seat_updRun, h]

@[simp] theorem cfg_updRun (n n' : SeatNo) (f : SeatRun → SeatRun) :
    ((s.updRun n f).seat n').cfg = (s.seat n').cfg := by
  rw [seat_updRun]; split <;> rfl

theorem chan_updChan (c c' : ChanNo) (f : Channel → Channel) :
    (s.updChan c f).chan c' = if c = c' then f (s.chan c') else s.chan c' := by
  unfold updChan
  rw [chan_setChan]
  split
  · next h => subst h; rfl
  · rfl

@[simp] theorem chan_updChan_self (c : ChanNo) (f : Channel → Channel) : (s.updChan c f).chan c = f (s.chan c) := by
  simp [chan_updChan]

theorem chan_updChan_of_ne (c c' : ChanNo) (f : Channel → Channel) (h : c ≠ c') :
    (s.updChan c f).chan c' = s.chan c' := by
  simp [chan_updChan, h]

theorem port_updPort (b b' : BranchId) (f : BranchPort → BranchPort) :
    (s.updPort b f).port b' = if b = b' then f (s.port b') else s.port b' := by
  unfold updPort
  rw [port_setPort]
  split
  · next h => subst h; rfl
  · rfl

@[simp] theorem port_updPort_self (b : BranchId) (f : BranchPort → BranchPort) : (s.updPort b f).port b = f (s.port b) := by
  simp [port_updPort]

theorem port_updPort_of_ne (b b' : BranchId) (f : BranchPort → BranchPort) (h : b ≠ b') :
    (s.updPort b f).port b' = s.port b' := by
  simp [port_updPort, h]

/-! ### Two states with the same records are the same -/

theorem seats_ext {u v : Vector SeatRecord 1024} (h : ∀ n : SeatNo, u[n] = v[n]) : u = v := by
  apply Vector.ext
  intro i hi
  exact h ⟨i, hi⟩

theorem channels_ext {u v : Vector Channel 16} (h : ∀ c : ChanNo, u[c] = v[c]) : u = v := by
  apply Vector.ext
  intro i hi
  exact h ⟨i, hi⟩

theorem ports_ext {s t : State} (h : ∀ b, t.port b = s.port b) : t.ports = s.ports := by
  have ha := h .branchA
  have hb := h .branchB
  have hc := h .branchC
  have hd := h .branchD
  simp only [port] at ha hb hc hd
  cases hs : s.ports
  cases ht : t.ports
  simp_all

end State
end Sys2Proof.Machine
end

