-- ==== Sys2Proof/Laws/Tells.lean ====
section
/-! SUPPORT. Marks and notices: what each can do, and the frame of everything it leaves as it was. -/

namespace Sys2Proof.Machine

namespace State

/-! ### The frame is a preorder -/

theorem TellFrame.refl (s : State) : TellFrame s s := by
  constructor <;> first | rfl | intro b; rfl

theorem TellFrame.trans {s t u : State} (h : TellFrame s t) (g : TellFrame t u) : TellFrame s u where
  now := g.now.trans h.now
  seats := g.seats.trans h.seats
  refusal := g.refusal.trans h.refusal
  classes := g.classes.trans h.classes
  branches := g.branches.trans h.branches
  floorCfg := g.floorCfg.trans h.floorCfg
  port b := by rw [g.port b, h.port b]
  uplink := by rw [g.uplink, h.uplink]
  list := g.list.trans h.list
  channels := g.channels.trans h.channels
  grantOrder := g.grantOrder.trans h.grantOrder
  holders := g.holders.trans h.holders
  floor := g.floor.trans h.floor
  mgmtErr := g.mgmtErr.trans h.mgmtErr
  profile := g.profile.trans h.profile
  startUp := g.startUp.trans h.startUp
  free := g.free.trans h.free
  pending := g.pending.trans h.pending

/-! ### Marks -/

/-- A mark changes nothing, or appends the seat to the set of its UP branch, where it was not (R33). -/
theorem mark_cases (s : State) (n : SeatNo) :
    s.mark n = s ∨ ∃ b, s.branches.branchOf n = some b ∧ (s.port b).up = true ∧ n ∉ (s.port b).cmdSet
      ∧ s.mark n = s.updPort b fun p => { p with cmdSet := p.cmdSet ++ [n] } := by
  unfold mark
  split
  · exact .inl rfl
  · next b hb =>
    split
    · next h =>
      simp only [Bool.and_eq_true, Bool.not_eq_true', List.contains_eq_mem, decide_eq_false_iff_not] at h
      exact .inr ⟨b, hb, h.1, h.2, rfl⟩
    · exact .inl rfl

theorem mark_frame (s : State) (n : SeatNo) : TellFrame s (s.mark n) := by
  obtain h | ⟨b, -, -, -, h⟩ := mark_cases s n <;> rw [h]
  · exact .refl s
  · constructor <;> first | rfl | (intro b'; rw [port_updPort]; split <;> rfl)

@[simp] theorem mark_uplink (s : State) (n : SeatNo) : (s.mark n).uplink = s.uplink := by
  obtain h | ⟨b, -, -, -, h⟩ := mark_cases s n <;> rw [h]; rfl

@[simp] theorem mark_mgmt (s : State) (n : SeatNo) : (s.mark n).mgmt = s.mgmt := by
  obtain h | ⟨b, -, -, -, h⟩ := mark_cases s n <;> rw [h]; rfl

theorem markAll_frame (s : State) (l : List SeatNo) : TellFrame s (s.markAll l) := by
  unfold markAll
  induction l generalizing s with
  | nil => exact .refl s
  | cons n l ih => exact (mark_frame s n).trans (ih _)

@[simp] theorem markAll_uplink (s : State) (l : List SeatNo) : (s.markAll l).uplink = s.uplink := by
  unfold markAll
  induction l generalizing s with
  | nil => rfl
  | cons n l ih => exact (ih _).trans (mark_uplink s n)

@[simp] theorem markAll_mgmt (s : State) (l : List SeatNo) : (s.markAll l).mgmt = s.mgmt := by
  unfold markAll
  induction l generalizing s with
  | nil => rfl
  | cons n l ih => exact (ih _).trans (mark_mgmt s n)

theorem markMoved_frame (s : State) (before : List Entry) : TellFrame s (s.markMoved before) := markAll_frame _ _

@[simp] theorem markMoved_uplink (s : State) (before : List Entry) : (s.markMoved before).uplink = s.uplink :=
  markAll_uplink _ _

@[simp] theorem markMoved_mgmt (s : State) (before : List Entry) : (s.markMoved before).mgmt = s.mgmt := markAll_mgmt _ _

theorem markOpt_frame (s : State) (n : Option SeatNo) : TellFrame s (s.markOpt n) := by
  cases n
  · exact .refl s
  · exact mark_frame _ _

@[simp] theorem markOpt_uplink (s : State) (n : Option SeatNo) : (s.markOpt n).uplink = s.uplink := by
  cases n
  · rfl
  · exact mark_uplink _ _

@[simp] theorem markOpt_mgmt (s : State) (n : Option SeatNo) : (s.markOpt n).mgmt = s.mgmt := by
  cases n
  · rfl
  · exact mark_mgmt _ _

/-! ### Notices -/

/-- A built notice joins the tail of the queue with the gap flag the marker gave, or is dropped and counted (R168). -/
theorem enqueue_cases (s : State) (x : Notice) :
    (s.uplink.up = true ∧ s.uplink.notices.length < 32
      ∧ (s.enqueue x).uplink = { s.uplink with notices := s.uplink.notices ++ [{ x with gap := s.mgmt.gap }] }
      ∧ (s.enqueue x).mgmt = { s.mgmt with gap := false })
    ∨ ((s.uplink.up = false ∨ 32 ≤ s.uplink.notices.length) ∧ (s.enqueue x).uplink = s.uplink
      ∧ (s.enqueue x).mgmt = { s.mgmt with noticeDrop := bump s.mgmt.noticeDrop, gap := true }) := by
  unfold enqueue
  split
  · next h =>
    simp only [Bool.and_eq_true, decide_eq_true_eq] at h
    exact .inl ⟨h.1, h.2, rfl, rfl⟩
  · next h =>
    simp only [Bool.and_eq_true, decide_eq_true_eq, not_and, not_lt] at h
    refine .inr ⟨?_, rfl, rfl⟩
    cases hu : s.uplink.up
    · exact .inl rfl
    · exact .inr (h hu)

theorem enqueue_frame (s : State) (x : Notice) : TellFrame s (s.enqueue x) := by
  unfold enqueue
  split <;> constructor <;> first | rfl | intro b; rfl

@[simp] theorem enqueue_ports (s : State) (x : Notice) : (s.enqueue x).ports = s.ports := by
  unfold enqueue
  split <;> rfl

@[simp] theorem enqueue_replies (s : State) (x : Notice) : (s.enqueue x).uplink.replies = s.uplink.replies := by
  unfold enqueue
  split <;> rfl

theorem enqueue_notices_length (s : State) (x : Notice) (h : s.uplink.notices.length ≤ 32) :
    (s.enqueue x).uplink.notices.length ≤ 32 := by
  unfold enqueue
  split
  · next g =>
    simp only [Bool.and_eq_true, decide_eq_true_eq] at g
    simp only [withMgmt_uplink, withUplink_uplink, List.length_append, List.length_cons, List.length_nil]
    omega
  · exact h

/-- A notice is built and enters or is dropped, or its kind is not enabled and nothing happens (R167). -/
theorem notice_cases (s : State) (k : NoticeKind) (n : Option SeatNo) (c : Option ChanNo) (r : Option Reason) :
    (s.notifies k = true ∧ s.notice k n c r = s.enqueue
        { kind := k, gap := false, seat := n, chan := c, reason := r, fill := s.fill, floor := s.floor })
      ∨ (s.notifies k = false ∧ s.notice k n c r = s) := by
  unfold notice
  cases h : s.notifies k
  · exact .inr ⟨rfl, rfl⟩
  · exact .inl ⟨rfl, rfl⟩

theorem notice_frame (s : State) (k : NoticeKind) (n : Option SeatNo) (c : Option ChanNo) (r : Option Reason) :
    TellFrame s (s.notice k n c r) := by
  obtain ⟨-, h⟩ | ⟨-, h⟩ := notice_cases s k n c r <;> rw [h]
  · exact enqueue_frame _ _
  · exact .refl s

@[simp] theorem notice_ports (s : State) (k : NoticeKind) (n : Option SeatNo) (c : Option ChanNo) (r : Option Reason) :
    (s.notice k n c r).ports = s.ports := by
  obtain ⟨-, h⟩ | ⟨-, h⟩ := notice_cases s k n c r <;> rw [h]
  exact enqueue_ports _ _

@[simp] theorem notice_replies (s : State) (k : NoticeKind) (n : Option SeatNo) (c : Option ChanNo) (r : Option Reason) :
    (s.notice k n c r).uplink.replies = s.uplink.replies := by
  obtain ⟨-, h⟩ | ⟨-, h⟩ := notice_cases s k n c r <;> rw [h]
  exact enqueue_replies _ _

theorem notice_notices_length (s : State) (k : NoticeKind) (n : Option SeatNo) (c : Option ChanNo) (r : Option Reason)
    (h : s.uplink.notices.length ≤ 32) : (s.notice k n c r).uplink.notices.length ≤ 32 := by
  obtain ⟨-, g⟩ | ⟨-, g⟩ := notice_cases s k n c r <;> rw [g]
  · exact enqueue_notices_length _ _ h
  · exact h

/-! ### The fields a mark or a notice leaves -/

section mark
variable (s : State) (n : SeatNo)

@[simp] theorem mark_now : (s.mark n).now = s.now := (mark_frame s n).now
@[simp] theorem mark_seats : (s.mark n).seats = s.seats := (mark_frame s n).seats
@[simp] theorem mark_refusal : (s.mark n).refusal = s.refusal := (mark_frame s n).refusal
@[simp] theorem mark_classes : (s.mark n).classes = s.classes := (mark_frame s n).classes
@[simp] theorem mark_branches : (s.mark n).branches = s.branches := (mark_frame s n).branches
@[simp] theorem mark_floorCfg : (s.mark n).floorCfg = s.floorCfg := (mark_frame s n).floorCfg
@[simp] theorem mark_list : (s.mark n).list = s.list := (mark_frame s n).list
@[simp] theorem mark_channels : (s.mark n).channels = s.channels := (mark_frame s n).channels
@[simp] theorem mark_grantOrder : (s.mark n).grantOrder = s.grantOrder := (mark_frame s n).grantOrder
@[simp] theorem mark_holders : (s.mark n).holders = s.holders := (mark_frame s n).holders
@[simp] theorem mark_floor : (s.mark n).floor = s.floor := (mark_frame s n).floor
@[simp] theorem mark_profile : (s.mark n).profile = s.profile := (mark_frame s n).profile
@[simp] theorem mark_startUp : (s.mark n).startUp = s.startUp := (mark_frame s n).startUp
@[simp] theorem mark_free : (s.mark n).free = s.free := (mark_frame s n).free
@[simp] theorem mark_pending : (s.mark n).pending = s.pending := (mark_frame s n).pending
@[simp] theorem mark_seat (n' : SeatNo) : (s.mark n).seat n' = s.seat n' := by simp only [seat, mark_seats]
@[simp] theorem mark_chan (c' : ChanNo) : (s.mark n).chan c' = s.chan c' := by simp only [chan, mark_channels]
@[simp] theorem mark_refusalOf (n' : SeatNo) : (s.mark n).refusalOf n' = s.refusalOf n' := by simp only [refusalOf, mark_refusal]
@[simp] theorem mark_fill : (s.mark n).fill = s.fill := by simp only [fill, mark_list]
@[simp] theorem mark_entryOf (n' : SeatNo) : (s.mark n).entryOf n' = s.entryOf n' := by simp only [entryOf, mark_list]

end mark

section markAll
variable (s : State) (l : List SeatNo)

@[simp] theorem markAll_now : (s.markAll l).now = s.now := (markAll_frame s l).now
@[simp] theorem markAll_seats : (s.markAll l).seats = s.seats := (markAll_frame s l).seats
@[simp] theorem markAll_refusal : (s.markAll l).refusal = s.refusal := (markAll_frame s l).refusal
@[simp] theorem markAll_classes : (s.markAll l).classes = s.classes := (markAll_frame s l).classes
@[simp] theorem markAll_branches : (s.markAll l).branches = s.branches := (markAll_frame s l).branches
@[simp] theorem markAll_floorCfg : (s.markAll l).floorCfg = s.floorCfg := (markAll_frame s l).floorCfg
@[simp] theorem markAll_list : (s.markAll l).list = s.list := (markAll_frame s l).list
@[simp] theorem markAll_channels : (s.markAll l).channels = s.channels := (markAll_frame s l).channels
@[simp] theorem markAll_grantOrder : (s.markAll l).grantOrder = s.grantOrder := (markAll_frame s l).grantOrder
@[simp] theorem markAll_holders : (s.markAll l).holders = s.holders := (markAll_frame s l).holders
@[simp] theorem markAll_floor : (s.markAll l).floor = s.floor := (markAll_frame s l).floor
@[simp] theorem markAll_profile : (s.markAll l).profile = s.profile := (markAll_frame s l).profile
@[simp] theorem markAll_startUp : (s.markAll l).startUp = s.startUp := (markAll_frame s l).startUp
@[simp] theorem markAll_free : (s.markAll l).free = s.free := (markAll_frame s l).free
@[simp] theorem markAll_pending : (s.markAll l).pending = s.pending := (markAll_frame s l).pending
@[simp] theorem markAll_seat (n' : SeatNo) : (s.markAll l).seat n' = s.seat n' := by simp only [seat, markAll_seats]
@[simp] theorem markAll_chan (c' : ChanNo) : (s.markAll l).chan c' = s.chan c' := by simp only [chan, markAll_channels]
@[simp] theorem markAll_refusalOf (n' : SeatNo) : (s.markAll l).refusalOf n' = s.refusalOf n' := by simp only [refusalOf, markAll_refusal]
@[simp] theorem markAll_fill : (s.markAll l).fill = s.fill := by simp only [fill, markAll_list]
@[simp] theorem markAll_entryOf (n' : SeatNo) : (s.markAll l).entryOf n' = s.entryOf n' := by simp only [entryOf, markAll_list]

end markAll

section markMoved
variable (s : State) (before : List Entry)

@[simp] theorem markMoved_now : (s.markMoved before).now = s.now := (markMoved_frame s before).now
@[simp] theorem markMoved_seats : (s.markMoved before).seats = s.seats := (markMoved_frame s before).seats
@[simp] theorem markMoved_refusal : (s.markMoved before).refusal = s.refusal := (markMoved_frame s before).refusal
@[simp] theorem markMoved_classes : (s.markMoved before).classes = s.classes := (markMoved_frame s before).classes
@[simp] theorem markMoved_branches : (s.markMoved before).branches = s.branches := (markMoved_frame s before).branches
@[simp] theorem markMoved_floorCfg : (s.markMoved before).floorCfg = s.floorCfg := (markMoved_frame s before).floorCfg
@[simp] theorem markMoved_list : (s.markMoved before).list = s.list := (markMoved_frame s before).list
@[simp] theorem markMoved_channels : (s.markMoved before).channels = s.channels := (markMoved_frame s before).channels
@[simp] theorem markMoved_grantOrder : (s.markMoved before).grantOrder = s.grantOrder := (markMoved_frame s before).grantOrder
@[simp] theorem markMoved_holders : (s.markMoved before).holders = s.holders := (markMoved_frame s before).holders
@[simp] theorem markMoved_floor : (s.markMoved before).floor = s.floor := (markMoved_frame s before).floor
@[simp] theorem markMoved_profile : (s.markMoved before).profile = s.profile := (markMoved_frame s before).profile
@[simp] theorem markMoved_startUp : (s.markMoved before).startUp = s.startUp := (markMoved_frame s before).startUp
@[simp] theorem markMoved_free : (s.markMoved before).free = s.free := (markMoved_frame s before).free
@[simp] theorem markMoved_pending : (s.markMoved before).pending = s.pending := (markMoved_frame s before).pending
@[simp] theorem markMoved_seat (n' : SeatNo) : (s.markMoved before).seat n' = s.seat n' := by simp only [seat, markMoved_seats]
@[simp] theorem markMoved_chan (c' : ChanNo) : (s.markMoved before).chan c' = s.chan c' := by simp only [chan, markMoved_channels]
@[simp] theorem markMoved_refusalOf (n' : SeatNo) : (s.markMoved before).refusalOf n' = s.refusalOf n' := by simp only [refusalOf, markMoved_refusal]
@[simp] theorem markMoved_fill : (s.markMoved before).fill = s.fill := by simp only [fill, markMoved_list]
@[simp] theorem markMoved_entryOf (n' : SeatNo) : (s.markMoved before).entryOf n' = s.entryOf n' := by simp only [entryOf, markMoved_list]

end markMoved

section markOpt
variable (s : State) (n : Option SeatNo)

@[simp] theorem markOpt_now : (s.markOpt n).now = s.now := (markOpt_frame s n).now
@[simp] theorem markOpt_seats : (s.markOpt n).seats = s.seats := (markOpt_frame s n).seats
@[simp] theorem markOpt_refusal : (s.markOpt n).refusal = s.refusal := (markOpt_frame s n).refusal
@[simp] theorem markOpt_classes : (s.markOpt n).classes = s.classes := (markOpt_frame s n).classes
@[simp] theorem markOpt_branches : (s.markOpt n).branches = s.branches := (markOpt_frame s n).branches
@[simp] theorem markOpt_floorCfg : (s.markOpt n).floorCfg = s.floorCfg := (markOpt_frame s n).floorCfg
@[simp] theorem markOpt_list : (s.markOpt n).list = s.list := (markOpt_frame s n).list
@[simp] theorem markOpt_channels : (s.markOpt n).channels = s.channels := (markOpt_frame s n).channels
@[simp] theorem markOpt_grantOrder : (s.markOpt n).grantOrder = s.grantOrder := (markOpt_frame s n).grantOrder
@[simp] theorem markOpt_holders : (s.markOpt n).holders = s.holders := (markOpt_frame s n).holders
@[simp] theorem markOpt_floor : (s.markOpt n).floor = s.floor := (markOpt_frame s n).floor
@[simp] theorem markOpt_profile : (s.markOpt n).profile = s.profile := (markOpt_frame s n).profile
@[simp] theorem markOpt_startUp : (s.markOpt n).startUp = s.startUp := (markOpt_frame s n).startUp
@[simp] theorem markOpt_free : (s.markOpt n).free = s.free := (markOpt_frame s n).free
@[simp] theorem markOpt_pending : (s.markOpt n).pending = s.pending := (markOpt_frame s n).pending
@[simp] theorem markOpt_seat (n' : SeatNo) : (s.markOpt n).seat n' = s.seat n' := by simp only [seat, markOpt_seats]
@[simp] theorem markOpt_chan (c' : ChanNo) : (s.markOpt n).chan c' = s.chan c' := by simp only [chan, markOpt_channels]
@[simp] theorem markOpt_refusalOf (n' : SeatNo) : (s.markOpt n).refusalOf n' = s.refusalOf n' := by simp only [refusalOf, markOpt_refusal]
@[simp] theorem markOpt_fill : (s.markOpt n).fill = s.fill := by simp only [fill, markOpt_list]
@[simp] theorem markOpt_entryOf (n' : SeatNo) : (s.markOpt n).entryOf n' = s.entryOf n' := by simp only [entryOf, markOpt_list]

end markOpt

section enqueue
variable (s : State) (x : Notice)

@[simp] theorem enqueue_now : (s.enqueue x).now = s.now := (enqueue_frame s x).now
@[simp] theorem enqueue_seats : (s.enqueue x).seats = s.seats := (enqueue_frame s x).seats
@[simp] theorem enqueue_refusal : (s.enqueue x).refusal = s.refusal := (enqueue_frame s x).refusal
@[simp] theorem enqueue_classes : (s.enqueue x).classes = s.classes := (enqueue_frame s x).classes
@[simp] theorem enqueue_branches : (s.enqueue x).branches = s.branches := (enqueue_frame s x).branches
@[simp] theorem enqueue_floorCfg : (s.enqueue x).floorCfg = s.floorCfg := (enqueue_frame s x).floorCfg
@[simp] theorem enqueue_list : (s.enqueue x).list = s.list := (enqueue_frame s x).list
@[simp] theorem enqueue_channels : (s.enqueue x).channels = s.channels := (enqueue_frame s x).channels
@[simp] theorem enqueue_grantOrder : (s.enqueue x).grantOrder = s.grantOrder := (enqueue_frame s x).grantOrder
@[simp] theorem enqueue_holders : (s.enqueue x).holders = s.holders := (enqueue_frame s x).holders
@[simp] theorem enqueue_floor : (s.enqueue x).floor = s.floor := (enqueue_frame s x).floor
@[simp] theorem enqueue_profile : (s.enqueue x).profile = s.profile := (enqueue_frame s x).profile
@[simp] theorem enqueue_startUp : (s.enqueue x).startUp = s.startUp := (enqueue_frame s x).startUp
@[simp] theorem enqueue_free : (s.enqueue x).free = s.free := (enqueue_frame s x).free
@[simp] theorem enqueue_pending : (s.enqueue x).pending = s.pending := (enqueue_frame s x).pending
@[simp] theorem enqueue_seat (n' : SeatNo) : (s.enqueue x).seat n' = s.seat n' := by simp only [seat, enqueue_seats]
@[simp] theorem enqueue_chan (c' : ChanNo) : (s.enqueue x).chan c' = s.chan c' := by simp only [chan, enqueue_channels]
@[simp] theorem enqueue_refusalOf (n' : SeatNo) : (s.enqueue x).refusalOf n' = s.refusalOf n' := by simp only [refusalOf, enqueue_refusal]
@[simp] theorem enqueue_fill : (s.enqueue x).fill = s.fill := by simp only [fill, enqueue_list]
@[simp] theorem enqueue_entryOf (n' : SeatNo) : (s.enqueue x).entryOf n' = s.entryOf n' := by simp only [entryOf, enqueue_list]
@[simp] theorem enqueue_port (b' : BranchId) : (s.enqueue x).port b' = s.port b' := by cases b' <;> simp only [port, enqueue_ports]
@[simp] theorem enqueue_mgmtErr : (s.enqueue x).mgmt.mgmtErr = s.mgmt.mgmtErr := (enqueue_frame s x).mgmtErr

end enqueue

section notice
variable (s : State) (k : NoticeKind) (n : Option SeatNo) (c : Option ChanNo) (r : Option Reason)

@[simp] theorem notice_now : (s.notice k n c r).now = s.now := (notice_frame s k n c r).now
@[simp] theorem notice_seats : (s.notice k n c r).seats = s.seats := (notice_frame s k n c r).seats
@[simp] theorem notice_refusal : (s.notice k n c r).refusal = s.refusal := (notice_frame s k n c r).refusal
@[simp] theorem notice_classes : (s.notice k n c r).classes = s.classes := (notice_frame s k n c r).classes
@[simp] theorem notice_branches : (s.notice k n c r).branches = s.branches := (notice_frame s k n c r).branches
@[simp] theorem notice_floorCfg : (s.notice k n c r).floorCfg = s.floorCfg := (notice_frame s k n c r).floorCfg
@[simp] theorem notice_list : (s.notice k n c r).list = s.list := (notice_frame s k n c r).list
@[simp] theorem notice_channels : (s.notice k n c r).channels = s.channels := (notice_frame s k n c r).channels
@[simp] theorem notice_grantOrder : (s.notice k n c r).grantOrder = s.grantOrder := (notice_frame s k n c r).grantOrder
@[simp] theorem notice_holders : (s.notice k n c r).holders = s.holders := (notice_frame s k n c r).holders
@[simp] theorem notice_floor : (s.notice k n c r).floor = s.floor := (notice_frame s k n c r).floor
@[simp] theorem notice_profile : (s.notice k n c r).profile = s.profile := (notice_frame s k n c r).profile
@[simp] theorem notice_startUp : (s.notice k n c r).startUp = s.startUp := (notice_frame s k n c r).startUp
@[simp] theorem notice_free : (s.notice k n c r).free = s.free := (notice_frame s k n c r).free
@[simp] theorem notice_pending : (s.notice k n c r).pending = s.pending := (notice_frame s k n c r).pending
@[simp] theorem notice_seat (n' : SeatNo) : (s.notice k n c r).seat n' = s.seat n' := by simp only [seat, notice_seats]
@[simp] theorem notice_chan (c' : ChanNo) : (s.notice k n c r).chan c' = s.chan c' := by simp only [chan, notice_channels]
@[simp] theorem notice_refusalOf (n' : SeatNo) : (s.notice k n c r).refusalOf n' = s.refusalOf n' := by simp only [refusalOf, notice_refusal]
@[simp] theorem notice_fill : (s.notice k n c r).fill = s.fill := by simp only [fill, notice_list]
@[simp] theorem notice_entryOf (n' : SeatNo) : (s.notice k n c r).entryOf n' = s.entryOf n' := by simp only [entryOf, notice_list]
@[simp] theorem notice_port (b' : BranchId) : (s.notice k n c r).port b' = s.port b' := by cases b' <;> simp only [port, notice_ports]
@[simp] theorem notice_mgmtErr : (s.notice k n c r).mgmt.mgmtErr = s.mgmt.mgmtErr := (notice_frame s k n c r).mgmtErr

end notice

/-! ### What a seat and a channel read after a mark or a notice -/

theorem TellFrame.seat {s t : State} (h : TellFrame s t) (n : SeatNo) : t.seat n = s.seat n := by
  simp only [State.seat, h.seats]

theorem TellFrame.chan {s t : State} (h : TellFrame s t) (c : ChanNo) : t.chan c = s.chan c := by
  simp only [State.chan, h.channels]

theorem TellFrame.refusalOf {s t : State} (h : TellFrame s t) (n : SeatNo) : t.refusalOf n = s.refusalOf n := by
  simp only [State.refusalOf, h.refusal]

theorem TellFrame.fill {s t : State} (h : TellFrame s t) : t.fill = s.fill := by
  simp only [State.fill, h.list]

theorem TellFrame.entryOf {s t : State} (h : TellFrame s t) (n : SeatNo) : t.entryOf n = s.entryOf n := by
  simp only [State.entryOf, h.list]

end State
end Sys2Proof.Machine
end

