-- ==== Sys2Proof/Laws/List.lean ====
section
/-! SUPPORT. The request list: where entries are placed, what each list operation leaves in the list and in the seats,
and the frame of an act that touches the list, the channels and the seats' floor fields only. -/

namespace Sys2Proof.Machine

namespace State

/-! ### The frame of a grant, a close or a list change -/

/-- What grants, closes and list changes leave: the floor frame, and besides it the floor record, the holder set, the
floor state and the reply queue. -/
structure GrantFrame (s t : State) : Prop where
  frame : FloorFrame s t
  floorCfg : t.floorCfg = s.floorCfg
  holders : t.holders = s.holders
  floor : t.floor = s.floor
  replies : t.uplink.replies = s.uplink.replies

theorem FloorFrame.refl (s : State) : FloorFrame s s := by
  constructor <;> first | rfl | intro b; rfl

theorem FloorFrame.trans {s t u : State} (h : FloorFrame s t) (g : FloorFrame t u) : FloorFrame s u where
  now := g.now.trans h.now
  seat n := by rw [g.seat n, h.seat n]
  refusal := g.refusal.trans h.refusal
  classes := g.classes.trans h.classes
  branches := g.branches.trans h.branches
  port b := by rw [g.port b, h.port b]
  uplink := by rw [g.uplink, h.uplink]
  mgmtErr := g.mgmtErr.trans h.mgmtErr
  profile := g.profile.trans h.profile
  startUp := g.startUp.trans h.startUp
  free := g.free.trans h.free
  pending := g.pending.trans h.pending

theorem TellFrame.floorFrame {s t : State} (h : TellFrame s t) : FloorFrame s t where
  now := h.now
  seat n := by rw [h.seat n]
  refusal := h.refusal
  classes := h.classes
  branches := h.branches
  port := h.port
  uplink := h.uplink
  mgmtErr := h.mgmtErr
  profile := h.profile
  startUp := h.startUp
  free := h.free
  pending := h.pending

theorem GrantFrame.refl (s : State) : GrantFrame s s := ⟨.refl s, rfl, rfl, rfl, rfl⟩

theorem GrantFrame.trans {s t u : State} (h : GrantFrame s t) (g : GrantFrame t u) : GrantFrame s u :=
  ⟨h.frame.trans g.frame, g.floorCfg.trans h.floorCfg, g.holders.trans h.holders, g.floor.trans h.floor,
    g.replies.trans h.replies⟩

theorem GrantFrame.foldl {α : Type} (f : State → α → State) (h : ∀ s x, GrantFrame s (f s x)) (l : List α) (s : State) :
    GrantFrame s (l.foldl f s) := by
  induction l generalizing s with
  | nil => exact .refl s
  | cons x l ih => exact (h s x).trans (ih _)

theorem mark_grantFrame (s : State) (n : SeatNo) : GrantFrame s (s.mark n) :=
  ⟨(mark_frame s n).floorFrame, mark_floorCfg s n, mark_holders s n, mark_floor s n, by rw [mark_uplink]⟩

theorem markAll_grantFrame (s : State) (l : List SeatNo) : GrantFrame s (s.markAll l) :=
  ⟨(markAll_frame s l).floorFrame, markAll_floorCfg s l, markAll_holders s l, markAll_floor s l, by rw [markAll_uplink]⟩

theorem notice_grantFrame (s : State) (k : NoticeKind) (n : Option SeatNo) (c : Option ChanNo) (r : Option Reason) :
    GrantFrame s (s.notice k n c r) :=
  ⟨(notice_frame s k n c r).floorFrame, notice_floorCfg s k n c r, notice_holders s k n c r, notice_floor s k n c r,
    notice_replies s k n c r⟩

theorem withList_grantFrame (s : State) (l : RequestList) : GrantFrame s (s.withList l) :=
  ⟨by constructor <;> first | rfl | intro b; rfl, rfl, rfl, rfl, rfl⟩

theorem withGrantOrder_grantFrame (s : State) (l : List ChanNo) : GrantFrame s (s.withGrantOrder l) :=
  ⟨by constructor <;> first | rfl | intro b; rfl, rfl, rfl, rfl, rfl⟩

theorem setChan_grantFrame (s : State) (c : ChanNo) (k : Channel) : GrantFrame s (s.setChan c k) :=
  ⟨by constructor <;> first | rfl | intro b; rfl, rfl, rfl, rfl, rfl⟩

theorem updChan_grantFrame (s : State) (c : ChanNo) (f : Channel → Channel) : GrantFrame s (s.updChan c f) :=
  setChan_grantFrame s c _

/-- A change of one seat's floor state, channel and budget is within the frame. -/
theorem updRun_grantFrame (s : State) (n : SeatNo) (f : SeatRun → SeatRun)
    (h : ∀ r, f r = { r with floor := (f r).floor, chan := (f r).chan, budget := (f r).budget }) :
    GrantFrame s (s.updRun n f) := by
  refine ⟨?_, rfl, rfl, rfl, rfl⟩
  constructor <;> try first | rfl | (intro b; rfl)
  intro n'
  rw [seat_updRun]
  split
  · exact congrArg (SeatRecord.mk _) (h _)
  · rfl

theorem seatFloor_grantFrame (s : State) (n : SeatNo) (f : SeatFloor) (c : Option ChanNo) :
    GrantFrame s (s.seatFloor n f c) :=
  updRun_grantFrame s n _ fun _ => rfl

/-! ### Where an entry is placed -/

theorem placeEntry_perm (e : Entry) (l : List Entry) : (placeEntry e l).Perm (e :: l) := by
  induction l with
  | nil => exact .refl _
  | cons x l ih =>
    unfold placeEntry
    split
    · exact (ih.cons x).trans (.swap _ _ _)
    · exact .refl _

theorem placeBefore_perm (e : Entry) (l : List Entry) : (placeBefore e l).Perm (e :: l) := by
  induction l with
  | nil => exact .refl _
  | cons x l ih =>
    unfold placeBefore
    split
    · exact .refl _
    · exact (ih.cons x).trans (.swap _ _ _)

theorem placeRelisted_perm (e : Entry) (l : List Entry) : (placeRelisted e l).Perm (e :: l) := by
  unfold placeRelisted
  split
  · exact placeBefore_perm e l
  · exact placeEntry_perm e l

@[simp] theorem placeEntry_length (e : Entry) (l : List Entry) : (placeEntry e l).length = l.length + 1 :=
  (placeEntry_perm e l).length_eq

@[simp] theorem placeRelisted_length (e : Entry) (l : List Entry) : (placeRelisted e l).length = l.length + 1 :=
  (placeRelisted_perm e l).length_eq

@[simp] theorem mem_placeEntry (e x : Entry) (l : List Entry) : x ∈ placeEntry e l ↔ x = e ∨ x ∈ l := by
  rw [(placeEntry_perm e l).mem_iff, List.mem_cons]

@[simp] theorem mem_placeRelisted (e x : Entry) (l : List Entry) : x ∈ placeRelisted e l ↔ x = e ∨ x ∈ l := by
  rw [(placeRelisted_perm e l).mem_iff, List.mem_cons]

/-! ### What each list operation leaves in the list -/

/-- Restraint takes the value, and its change builds a notice (R78). -/
theorem setRestraint_cases (s : State) (r : Bool) :
    (r = s.list.restraint ∧ s.setRestraint r = s) ∨ (r ≠ s.list.restraint ∧
      s.setRestraint r = (s.withList { s.list with restraint := r }).notice .restraint none none
        (some (if r then .set else .clear))) := by
  unfold setRestraint
  split
  · next h => exact .inl ⟨h, rfl⟩
  · next h => exact .inr ⟨h, rfl⟩

@[simp] theorem setRestraint_list (s : State) (r : Bool) :
    (s.setRestraint r).list = { s.list with restraint := r } := by
  obtain ⟨h, g⟩ | ⟨-, g⟩ := setRestraint_cases s r <;> rw [g]
  · rw [h]
  · simp

theorem setRestraint_grantFrame (s : State) (r : Bool) : GrantFrame s (s.setRestraint r) := by
  obtain ⟨-, g⟩ | ⟨-, g⟩ := setRestraint_cases s r <;> rw [g]
  · exact .refl s
  · exact (withList_grantFrame s _).trans (notice_grantFrame _ _ _ _ _)

@[simp] theorem setRestraint_seats (s : State) (r : Bool) : (s.setRestraint r).seats = s.seats := by
  obtain ⟨-, g⟩ | ⟨-, g⟩ := setRestraint_cases s r <;> rw [g]; simp

@[simp] theorem setRestraint_channels (s : State) (r : Bool) : (s.setRestraint r).channels = s.channels := by
  obtain ⟨-, g⟩ | ⟨-, g⟩ := setRestraint_cases s r <;> rw [g]; simp

@[simp] theorem setRestraint_grantOrder (s : State) (r : Bool) : (s.setRestraint r).grantOrder = s.grantOrder := by
  obtain ⟨-, g⟩ | ⟨-, g⟩ := setRestraint_cases s r <;> rw [g]; simp

@[simp] theorem setRestraint_ports (s : State) (r : Bool) : (s.setRestraint r).ports = s.ports := by
  obtain ⟨-, g⟩ | ⟨-, g⟩ := setRestraint_cases s r <;> rw [g]; simp

@[simp] theorem seatFloor_list (s : State) (n : SeatNo) (f : SeatFloor) (c : Option ChanNo) :
    (s.seatFloor n f c).list = s.list := rfl

@[simp] theorem seatFloor_channels (s : State) (n : SeatNo) (f : SeatFloor) (c : Option ChanNo) :
    (s.seatFloor n f c).channels = s.channels := rfl

@[simp] theorem seatFloor_grantOrder (s : State) (n : SeatNo) (f : SeatFloor) (c : Option ChanNo) :
    (s.seatFloor n f c).grantOrder = s.grantOrder := rfl

@[simp] theorem seatFloor_floorCfg (s : State) (n : SeatNo) (f : SeatFloor) (c : Option ChanNo) :
    (s.seatFloor n f c).floorCfg = s.floorCfg := rfl

@[simp] theorem seatFloor_classes (s : State) (n : SeatNo) (f : SeatFloor) (c : Option ChanNo) :
    (s.seatFloor n f c).classes = s.classes := rfl

theorem seat_seatFloor (s : State) (n n' : SeatNo) (f : SeatFloor) (c : Option ChanNo) :
    (s.seatFloor n f c).seat n' =
      if n = n' then ⟨(s.seat n').cfg, { (s.seat n').run with floor := f, chan := c }⟩ else s.seat n' :=
  seat_updRun s n n' _

/-- An insertion for a listed seat is not made (R62). -/
theorem insertBy_of_listed (s : State) (place : Entry → List Entry → List Entry) (e : Entry)
    (h : (s.entryOf e.seat).isSome = true) : s.insertBy place e = s := by
  unfold insertBy
  exact if_pos h

/-- What an insertion leaves in the list: the entry in its place with the next arrival number and its EXHAUSTED flag,
and restraint evaluated for the new fill (R66). -/
theorem insertBy_list (s : State) (place : Entry → List Entry → List Entry) (e : Entry)
    (h : s.entryOf e.seat = none) :
    (s.insertBy place e).list =
      { entries := place { e with arrival := s.list.arrival + 1, exhausted := s.isExhausted e.seat } s.list.entries
        restraint := restraintAfterInsertion s.floorCfg s.list.restraint
          (place { e with arrival := s.list.arrival + 1, exhausted := s.isExhausted e.seat } s.list.entries).length
        arrival := s.list.arrival + 1 } := by
  unfold insertBy
  rw [if_neg (by rw [h]; simp)]
  simp [markMoved, fill]

/-- What an insertion leaves in the seats: the seat is WAITING, every other seat stands (R66 step 4). -/
theorem insertBy_seat (s : State) (place : Entry → List Entry → List Entry) (e : Entry)
    (h : s.entryOf e.seat = none) (n : SeatNo) :
    (s.insertBy place e).seat n =
      if e.seat = n then ⟨(s.seat n).cfg, { (s.seat n).run with floor := .waiting, chan := none }⟩ else s.seat n := by
  unfold insertBy
  rw [if_neg (by rw [h]; simp)]
  simp only [markMoved, markAll_seat]
  simp only [State.seat, setRestraint_seats]
  exact seat_seatFloor _ _ _ _ _

theorem insertBy_grantFrame (s : State) (place : Entry → List Entry → List Entry) (e : Entry) :
    GrantFrame s (s.insertBy place e) := by
  unfold insertBy
  split
  · exact .refl s
  · exact (((withList_grantFrame s _).trans (seatFloor_grantFrame _ _ _ _)).trans (setRestraint_grantFrame _ _)).trans
      (markAll_grantFrame _ _)

@[simp] theorem insertBy_channels (s : State) (place : Entry → List Entry → List Entry) (e : Entry) :
    (s.insertBy place e).channels = s.channels := by
  unfold insertBy
  split <;> simp

@[simp] theorem insertBy_grantOrder (s : State) (place : Entry → List Entry → List Entry) (e : Entry) :
    (s.insertBy place e).grantOrder = s.grantOrder := by
  unfold insertBy
  split <;> simp

theorem insertEntry_grantFrame (s : State) (e : Entry) : GrantFrame s (s.insertEntry e) := insertBy_grantFrame _ _ _

@[simp] theorem insertEntry_channels (s : State) (e : Entry) : (s.insertEntry e).channels = s.channels :=
  insertBy_channels _ _ _

@[simp] theorem insertEntry_grantOrder (s : State) (e : Entry) : (s.insertEntry e).grantOrder = s.grantOrder :=
  insertBy_grantOrder _ _ _

/-- A relisting is not made, or is one insertion and its LISTED notice (R67). -/
theorem relist_cases (s : State) (n : SeatNo) (l : Level) :
    ((64 ≤ s.fill ∨ (s.entryOf n).isSome = true) ∧ s.relist n l = s)
      ∨ (s.fill < 64 ∧ s.entryOf n = none ∧ s.relist n l =
        (s.insertBy placeRelisted
          { seat := n, kind := .speak, claimed := l, effective := effectiveLevel l (s.seat n).cfg.speak, arrival := 0
            clamped := isClamped l (s.seat n).cfg.speak, exhausted := false, relisted := true
            upgraded := false }).notice .listed (some n) none (some .displaced)) := by
  unfold relist
  split
  · next h =>
    simp only [Bool.or_eq_true, decide_eq_true_eq] at h
    exact .inl ⟨h, rfl⟩
  · next h =>
    simp only [Bool.or_eq_true, decide_eq_true_eq, not_or, Option.isSome_iff_ne_none, ne_eq, not_not, not_le] at h
    exact .inr ⟨h.1, h.2, rfl⟩

theorem relist_grantFrame (s : State) (n : SeatNo) (l : Level) : GrantFrame s (s.relist n l) := by
  obtain ⟨-, h⟩ | ⟨-, -, h⟩ := relist_cases s n l <;> rw [h]
  · exact .refl s
  · exact (insertBy_grantFrame _ _ _).trans (notice_grantFrame _ _ _ _ _)

@[simp] theorem relist_channels (s : State) (n : SeatNo) (l : Level) : (s.relist n l).channels = s.channels := by
  obtain ⟨-, h⟩ | ⟨-, -, h⟩ := relist_cases s n l <;> rw [h]; simp

@[simp] theorem relist_grantOrder (s : State) (n : SeatNo) (l : Level) : (s.relist n l).grantOrder = s.grantOrder := by
  obtain ⟨-, h⟩ | ⟨-, -, h⟩ := relist_cases s n l <;> rw [h]; simp

/-- What a removal leaves in the list: the other entries in their order, restraint evaluated for the new fill, the
arrival sequence as it was (R64, R70). -/
@[simp] theorem takeOut_list (s : State) (n : SeatNo) (r : Reason) :
    (s.takeOut n r).list = { s.list with
      entries := without s.list.entries n
      restraint := restraintAfterRemoval s.floorCfg s.list.restraint (without s.list.entries n).length } := by
  unfold takeOut
  simp [markMoved, fill]

@[simp] theorem takeOut_seats (s : State) (n : SeatNo) (r : Reason) : (s.takeOut n r).seats = s.seats := by
  unfold takeOut
  simp

@[simp] theorem takeOut_channels (s : State) (n : SeatNo) (r : Reason) : (s.takeOut n r).channels = s.channels := by
  unfold takeOut
  simp

@[simp] theorem takeOut_grantOrder (s : State) (n : SeatNo) (r : Reason) :
    (s.takeOut n r).grantOrder = s.grantOrder := by
  unfold takeOut
  simp

theorem takeOut_grantFrame (s : State) (n : SeatNo) (r : Reason) : GrantFrame s (s.takeOut n r) :=
  ((((withList_grantFrame s _).trans (notice_grantFrame _ _ _ _ _)).trans (setRestraint_grantFrame _ _)).trans
    (mark_grantFrame _ _)).trans (markAll_grantFrame _ _)

/-- A removal of a seat without an entry changes nothing; otherwise the seat is IDLE and its entry leaves (R70, R73). -/
theorem removeEntry_cases (s : State) (n : SeatNo) (r : Reason) :
    (s.entryOf n = none ∧ s.removeEntry n r = s)
      ∨ ((s.entryOf n).isSome = true ∧ s.removeEntry n r = (s.seatFloor n .idle none).takeOut n r) := by
  unfold removeEntry
  split
  · next h => exact .inr ⟨h, rfl⟩
  · next h => exact .inl ⟨by simpa using h, rfl⟩

theorem removeEntry_grantFrame (s : State) (n : SeatNo) (r : Reason) : GrantFrame s (s.removeEntry n r) := by
  obtain ⟨-, h⟩ | ⟨-, h⟩ := removeEntry_cases s n r <;> rw [h]
  · exact .refl s
  · exact (seatFloor_grantFrame _ _ _ _).trans (takeOut_grantFrame _ _ _)

@[simp] theorem removeEntry_channels (s : State) (n : SeatNo) (r : Reason) :
    (s.removeEntry n r).channels = s.channels := by
  obtain ⟨-, h⟩ | ⟨-, h⟩ := removeEntry_cases s n r <;> rw [h]; simp

@[simp] theorem removeEntry_grantOrder (s : State) (n : SeatNo) (r : Reason) :
    (s.removeEntry n r).grantOrder = s.grantOrder := by
  obtain ⟨-, h⟩ | ⟨-, h⟩ := removeEntry_cases s n r <;> rw [h]; simp

theorem without_of_unlisted (l : List Entry) (n : SeatNo) (h : l.find? (fun e => e.seat == n) = none) :
    without l n = l := by
  unfold without
  rw [List.filter_eq_self]
  intro e he
  have := List.find?_eq_none.mp h e he
  simpa using this

/-- What a removal leaves of the entries, whether or not the seat was listed. -/
@[simp] theorem removeEntry_entries (s : State) (n : SeatNo) (r : Reason) :
    (s.removeEntry n r).list.entries = without s.list.entries n := by
  obtain ⟨g, h⟩ | ⟨-, h⟩ := removeEntry_cases s n r <;> rw [h]
  · exact (without_of_unlisted _ _ g).symm
  · simp

@[simp] theorem removeEntry_arrival (s : State) (n : SeatNo) (r : Reason) :
    (s.removeEntry n r).list.arrival = s.list.arrival := by
  obtain ⟨-, h⟩ | ⟨-, h⟩ := removeEntry_cases s n r <;> rw [h]; simp

theorem removeEntry_seat (s : State) (n : SeatNo) (r : Reason) (n' : SeatNo) :
    (s.removeEntry n r).seat n' = if (s.entryOf n).isSome = true ∧ n = n' then
      ⟨(s.seat n').cfg, { (s.seat n').run with floor := .idle, chan := none }⟩ else s.seat n' := by
  obtain ⟨g, h⟩ | ⟨g, h⟩ := removeEntry_cases s n r <;> rw [h]
  · simp [g]
  · simp only [State.seat, takeOut_seats, g, true_and]
    exact seat_seatFloor _ _ _ _ _

theorem bulkRemove_grantFrame (s : State) (r : Reason) : GrantFrame s (s.bulkRemove r) :=
  GrantFrame.foldl _ (fun _ _ => removeEntry_grantFrame _ _ _) _ _

theorem foldl_removeEntry_entries (r : Reason) (l : List SeatNo) (s : State) :
    (l.foldl (fun s n => s.removeEntry n r) s).list.entries = s.list.entries.filter fun e => !l.contains e.seat := by
  induction l generalizing s with
  | nil => simp
  | cons n l ih =>
    rw [List.foldl_cons, ih, removeEntry_entries, without, List.filter_filter]
    apply List.filter_congr
    intro e _
    rw [Bool.eq_iff_iff]
    simp only [List.contains_eq_mem, Bool.and_eq_true, Bool.not_eq_true', decide_eq_false_iff_not, bne_iff_ne, ne_eq,
      List.mem_cons, not_or]
    exact and_comm

/-- A bulk removal leaves no entry (R72). -/
@[simp] theorem bulkRemove_entries (s : State) (r : Reason) : (s.bulkRemove r).list.entries = [] := by
  unfold bulkRemove
  rw [foldl_removeEntry_entries, List.filter_eq_nil_iff]
  intro e he
  simp only [List.contains_eq_mem, Bool.not_eq_true', decide_eq_false_iff_not, not_not]
  exact List.mem_reverse.mpr (List.mem_map_of_mem he)

@[simp] theorem bulkRemove_channels (s : State) (r : Reason) : (s.bulkRemove r).channels = s.channels := by
  unfold bulkRemove
  generalize (s.list.entries.map Entry.seat).reverse = l
  induction l generalizing s with
  | nil => rfl
  | cons n l ih => exact (ih _).trans (removeEntry_channels _ _ _)

@[simp] theorem bulkRemove_grantOrder (s : State) (r : Reason) : (s.bulkRemove r).grantOrder = s.grantOrder := by
  unfold bulkRemove
  generalize (s.list.entries.map Entry.seat).reverse = l
  induction l generalizing s with
  | nil => rfl
  | cons n l ih => exact (ih _).trans (removeEntry_grantOrder _ _ _)

/-- A repositioning moves one entry to the place R65 gives it and marks (R68). -/
theorem reposition_cases (s : State) (n : SeatNo) :
    (s.entryOf n = none ∧ s.reposition n = s) ∨ ∃ e, s.entryOf n = some e ∧ s.reposition n =
      (s.withList { s.list with entries := placeEntry e (without s.list.entries n) }).markMoved s.list.entries := by
  unfold reposition
  cases h : s.entryOf n
  · exact .inl ⟨rfl, rfl⟩
  · exact .inr ⟨_, rfl, rfl⟩

theorem reposition_grantFrame (s : State) (n : SeatNo) : GrantFrame s (s.reposition n) := by
  obtain ⟨-, h⟩ | ⟨e, -, h⟩ := reposition_cases s n <;> rw [h]
  · exact .refl s
  · exact (withList_grantFrame s _).trans (markAll_grantFrame _ _)

@[simp] theorem reposition_seats (s : State) (n : SeatNo) : (s.reposition n).seats = s.seats := by
  obtain ⟨-, h⟩ | ⟨e, -, h⟩ := reposition_cases s n <;> rw [h]; simp

@[simp] theorem reposition_channels (s : State) (n : SeatNo) : (s.reposition n).channels = s.channels := by
  obtain ⟨-, h⟩ | ⟨e, -, h⟩ := reposition_cases s n <;> rw [h]; simp

@[simp] theorem reposition_grantOrder (s : State) (n : SeatNo) : (s.reposition n).grantOrder = s.grantOrder := by
  obtain ⟨-, h⟩ | ⟨e, -, h⟩ := reposition_cases s n <;> rw [h]; simp

@[simp] theorem reposition_uplink (s : State) (n : SeatNo) : (s.reposition n).uplink = s.uplink := by
  obtain ⟨-, h⟩ | ⟨e, -, h⟩ := reposition_cases s n <;> rw [h]; simp

@[simp] theorem reposition_restraint (s : State) (n : SeatNo) : (s.reposition n).list.restraint = s.list.restraint := by
  obtain ⟨-, h⟩ | ⟨e, -, h⟩ := reposition_cases s n <;> rw [h]; simp

@[simp] theorem reposition_arrival (s : State) (n : SeatNo) : (s.reposition n).list.arrival = s.list.arrival := by
  obtain ⟨-, h⟩ | ⟨e, -, h⟩ := reposition_cases s n <;> rw [h]; simp

theorem refreshExhausted_grantFrame (s : State) (n : SeatNo) : GrantFrame s (s.refreshExhausted n) :=
  withList_grantFrame s _

@[simp] theorem refreshExhausted_list (s : State) (n : SeatNo) : (s.refreshExhausted n).list = { s.list with
    entries := replaceEntry s.list.entries n fun e => { e with exhausted := s.isExhausted n } } := rfl

@[simp] theorem refreshExhausted_seats (s : State) (n : SeatNo) : (s.refreshExhausted n).seats = s.seats := rfl

@[simp] theorem refreshExhausted_channels (s : State) (n : SeatNo) : (s.refreshExhausted n).channels = s.channels := rfl

@[simp] theorem refreshExhausted_grantOrder (s : State) (n : SeatNo) :
    (s.refreshExhausted n).grantOrder = s.grantOrder := rfl

@[simp] theorem replaceEntry_length (l : List Entry) (n : SeatNo) (f : Entry → Entry) :
    (replaceEntry l n f).length = l.length := by
  simp [replaceEntry]

theorem reclamp_grantFrame (s : State) (n : SeatNo) : GrantFrame s (s.reclamp n) := by
  unfold reclamp
  split
  · exact .refl s
  · dsimp only
    split
    · exact (withList_grantFrame s _).trans (refreshExhausted_grantFrame _ _)
    · exact ((withList_grantFrame s _).trans (reposition_grantFrame _ _)).trans (refreshExhausted_grantFrame _ _)

@[simp] theorem reclamp_seats (s : State) (n : SeatNo) : (s.reclamp n).seats = s.seats := by
  unfold reclamp
  split
  · rfl
  · dsimp only
    split <;> simp

@[simp] theorem reclamp_channels (s : State) (n : SeatNo) : (s.reclamp n).channels = s.channels := by
  unfold reclamp
  split
  · rfl
  · dsimp only
    split <;> simp

@[simp] theorem reclamp_grantOrder (s : State) (n : SeatNo) : (s.reclamp n).grantOrder = s.grantOrder := by
  unfold reclamp
  split
  · rfl
  · dsimp only
    split <;> simp

end State
end Sys2Proof.Machine
end

