-- ==== Sys2Proof/Laws/Channels.lean ====
section
/-! SUPPORT. The channel table: what a grant, a close, a hold cause and a change of the holder set leave behind. -/

namespace Sys2Proof.Machine

namespace State

/-! ### The choice of channel -/

/-- The channel a grant takes is FREE, and every channel of a smaller number is busy (R85). -/
theorem lowestFree_eq_some (s : State) (c : ChanNo) (h : s.lowestFree = some c) :
    (s.chan c).state = .free ∧ ∀ c' : ChanNo, c' < c → (s.chan c').busy = true := by
  unfold lowestFree at h
  rw [List.find?_eq_some_iff_append] at h
  obtain ⟨h1, l, r, h2, h3⟩ := h
  refine ⟨by simpa using h1, fun c' hc => ?_⟩
  have hs : (allChannels).Pairwise (· < ·) := List.pairwise_lt_finRange 16
  have hm : c' ∈ allChannels := List.mem_finRange c'
  rw [h2] at hs hm
  rw [List.pairwise_append] at hs
  rcases List.mem_append.mp hm with hl | hr
  · have := h3 c' hl
    simpa [Channel.busy] using this
  · rcases List.mem_cons.mp hr with rfl | hr
    · exact absurd hc (lt_irrefl _)
    · exact absurd (lt_trans hc ((List.pairwise_cons.mp hs.2.1).1 c' hr)) (lt_irrefl _)

/-- No channel is FREE exactly when every channel is busy (R88). -/
theorem lowestFree_eq_none (s : State) : s.lowestFree = none ↔ ∀ c : ChanNo, (s.chan c).busy = true := by
  unfold lowestFree
  rw [List.find?_eq_none]
  constructor
  · intro h c
    simpa [Channel.busy] using h c (List.mem_finRange c)
  · intro h c _
    simpa [Channel.busy] using h c

/-! ### A grant -/

@[simp] theorem takeGranted_seats (s : State) (n : SeatNo) : (s.takeGranted n).seats = s.seats := by
  unfold takeGranted
  split <;> simp

@[simp] theorem takeGranted_channels (s : State) (n : SeatNo) : (s.takeGranted n).channels = s.channels := by
  unfold takeGranted
  split <;> simp

@[simp] theorem takeGranted_grantOrder (s : State) (n : SeatNo) : (s.takeGranted n).grantOrder = s.grantOrder := by
  unfold takeGranted
  split <;> simp

theorem takeGranted_grantFrame (s : State) (n : SeatNo) : GrantFrame s (s.takeGranted n) := by
  unfold takeGranted
  split
  · exact takeOut_grantFrame _ _ _
  · exact .refl s

@[simp] theorem takeGranted_entries (s : State) (n : SeatNo) :
    (s.takeGranted n).list.entries = without s.list.entries n := by
  unfold takeGranted
  split
  · simp
  · next h => exact (without_of_unlisted _ _ (by simpa [entryOf] using h)).symm

/-- The record a grant sets is read from the seats, the holder set, the floor state and the class table alone. -/
theorem grantedChannel_congr {s t : State} (hs : t.seats = s.seats) (hh : t.holders = s.holders)
    (hf : t.floor = s.floor) (hc : t.classes = s.classes) (n : SeatNo) (k : TurnKind) (l : Level) (b : Bool) :
    t.grantedChannel n k l b = s.grantedChannel n k l b := by
  cases s
  cases t
  cases hs
  cases hh
  cases hf
  cases hc
  rfl

/-- The record a grant sets does not depend on the removal of the entry before it. -/
@[simp] theorem takeGranted_grantedChannel (s : State) (n n' : SeatNo) (k : TurnKind) (l : Level) (b : Bool) :
    (s.takeGranted n').grantedChannel n k l b = s.grantedChannel n k l b := by
  have h := takeGranted_grantFrame s n'
  exact grantedChannel_congr (takeGranted_seats s n') h.holders h.floor h.frame.classes n k l b

/-- A grant that R88 rules out changes nothing. -/
theorem grant_of_not_canGrant (s : State) (n : SeatNo) (k : TurnKind) (l : Level) (b : Bool) (h : s.canGrant n = false) :
    s.grant n k l b = s := by
  unfold grant
  rw [h]
  rfl

theorem canGrant_iff (s : State) (n : SeatNo) : s.canGrant n = true ↔
    (s.seat n).run.present = true ∧ (s.seat n).run.floor ≠ .speaking ∧ ∃ c, s.lowestFree = some c := by
  simp only [canGrant, Bool.and_eq_true, bne_iff_ne, ne_eq, Option.isSome_iff_exists, and_assoc]

theorem grant_grantFrame (s : State) (n : SeatNo) (k : TurnKind) (l : Level) (b : Bool) :
    GrantFrame s (s.grant n k l b) := by
  unfold grant
  split
  · split
    · exact .refl s
    · dsimp only
      have h (c : ChanNo) (ch : Channel) (f : State → State) (hf : ∀ t, GrantFrame t (f t)) : GrantFrame s
          (f ((((((s.takeGranted n).setChan c ch).withGrantOrder
            (((s.takeGranted n).setChan c ch).grantOrder ++ [c])).seatFloor n .speaking (some c)).mark n).notice
              .granted (some n) (some c) none)) :=
        ((((((takeGranted_grantFrame s n).trans (setChan_grantFrame _ _ _)).trans
          (withGrantOrder_grantFrame _ _)).trans (seatFloor_grantFrame _ _ _ _)).trans (mark_grantFrame _ _)).trans
            (notice_grantFrame _ _ _ _ _)).trans (hf _)
      split
      · exact h _ _ (fun t => t.notice _ _ _ _) fun t => notice_grantFrame t _ _ _ _
      · exact h _ _ id fun t => .refl t
  · exact .refl s

/-- What a grant that is made leaves: the lowest FREE channel carries the turn, stands at the tail of the grant order,
its seat is SPEAKING on it, and the seat's entry has left the list (R87). -/
theorem grant_made (s : State) (n : SeatNo) (k : TurnKind) (l : Level) (b : Bool) (c : ChanNo)
    (h : s.canGrant n = true) (hc : s.lowestFree = some c) :
    (∀ c' : ChanNo, (s.grant n k l b).chan c' = if c = c' then s.grantedChannel n k l b else s.chan c')
      ∧ (s.grant n k l b).grantOrder = s.grantOrder ++ [c]
      ∧ (∀ n' : SeatNo, (s.grant n k l b).seat n' = if n = n' then
          ⟨(s.seat n').cfg, { (s.seat n').run with floor := .speaking, chan := some c }⟩ else s.seat n')
      ∧ (s.grant n k l b).list = (s.takeGranted n).list := by
  have aux (f : State → State) (hf : ∀ t, TellFrame t (f t)) : ∀ t, t = f (((((((s.takeGranted n).setChan c
        (s.grantedChannel n k l b)).withGrantOrder (s.grantOrder ++ [c])).seatFloor n .speaking (some c)).mark n).notice
          .granted (some n) (some c) none)) →
      (∀ c' : ChanNo, t.chan c' = if c = c' then s.grantedChannel n k l b else s.chan c')
      ∧ t.grantOrder = s.grantOrder ++ [c]
      ∧ (∀ n' : SeatNo, t.seat n' = if n = n' then
          ⟨(s.seat n').cfg, { (s.seat n').run with floor := .speaking, chan := some c }⟩ else s.seat n')
      ∧ t.list = (s.takeGranted n).list := by
    intro t ht
    subst ht
    refine ⟨fun c' => ?_, ?_, fun n' => ?_, ?_⟩
    · rw [(hf _).chan]
      simp only [notice_chan, mark_chan]
      simp only [State.chan, seatFloor_channels, withGrantOrder_channels]
      refine (chan_setChan _ _ _ _).trans ?_
      simp only [State.chan, takeGranted_channels]
    · rw [(hf _).grantOrder]
      simp
    · rw [(hf _).seat]
      simp only [notice_seat, mark_seat]
      rw [seat_seatFloor]
      simp only [State.seat, withGrantOrder_seats, setChan_seats, takeGranted_seats]
    · rw [(hf _).list]
      simp
  unfold grant
  rw [if_pos h, hc]
  dsimp only
  simp only [takeGranted_grantedChannel, setChan_grantOrder, takeGranted_grantOrder]
  split
  · exact aux (fun t => t.notice _ _ _ _) (fun t => notice_frame t _ _ _ _) _ rfl
  · exact aux id (fun t => .refl t) _ rfl

/-! ### A close -/

theorem deduct_grantFrame (s : State) (n : SeatNo) (used : Nat) : GrantFrame s (s.deduct n used) := by
  unfold deduct
  split
  · exact updRun_grantFrame s n _ fun _ => rfl
  · exact .refl s

@[simp] theorem deduct_list (s : State) (n : SeatNo) (used : Nat) : (s.deduct n used).list = s.list := by
  unfold deduct
  split <;> rfl

@[simp] theorem deduct_channels (s : State) (n : SeatNo) (used : Nat) : (s.deduct n used).channels = s.channels := by
  unfold deduct
  split <;> rfl

@[simp] theorem deduct_grantOrder (s : State) (n : SeatNo) (used : Nat) :
    (s.deduct n used).grantOrder = s.grantOrder := by
  unfold deduct
  split <;> rfl

/-- The deduction takes the used seconds from the budget where a budget applies (R140). -/
theorem seat_deduct (s : State) (n n' : SeatNo) (used : Nat) : (s.deduct n used).seat n' =
    if n = n' ∧ s.applies n = true then
      ⟨(s.seat n').cfg, { (s.seat n').run with budget := (s.seat n').run.budget - used }⟩ else s.seat n' := by
  unfold deduct
  split
  · next h => simp [seat_updRun, h]
  · next h => simp [h]

theorem closeChannel_of_not_canClose (s : State) (c : ChanNo) (n : SeatNo) (r : Reason) (h : s.canClose c n = false) :
    s.closeChannel c n r = s := by
  unfold closeChannel
  rw [h]
  rfl

theorem closeChannel_grantFrame (s : State) (c : ChanNo) (n : SeatNo) (r : Reason) :
    GrantFrame s (s.closeChannel c n r) := by
  unfold closeChannel
  split
  · exact (((((deduct_grantFrame s _ _).trans (updChan_grantFrame _ _ _)).trans (withGrantOrder_grantFrame _ _)).trans
      (seatFloor_grantFrame _ _ _ _)).trans (mark_grantFrame _ _)).trans (notice_grantFrame _ _ _ _ _)
  · exact .refl s

@[simp] theorem closeChannel_list (s : State) (c : ChanNo) (n : SeatNo) (r : Reason) :
    (s.closeChannel c n r).list = s.list := by
  unfold closeChannel
  split <;> simp

/-- What a close that is taken leaves: the channel is FREE with its timer and detector as they were, it has left the
grant order, and its seat is IDLE with the used seconds deducted (R89). -/
theorem closeChannel_taken (s : State) (c : ChanNo) (n : SeatNo) (r : Reason) (h : s.canClose c n = true) :
    (∀ c' : ChanNo, (s.closeChannel c n r).chan c' = if c = c' then
        ⟨.free, none, none, none, false, false, (s.chan c').timer, (s.chan c').detector⟩ else s.chan c')
      ∧ (s.closeChannel c n r).grantOrder = s.grantOrder.erase c
      ∧ ∀ n' : SeatNo, (s.closeChannel c n r).seat n' = if n = n' then
          ⟨(s.seat n').cfg, { (s.seat n').run with floor := .idle, chan := none
                                                   budget := if s.applies n = true then
                                                     (s.seat n').run.budget - (s.chan c).timer.used
                                                   else (s.seat n').run.budget }⟩ else s.seat n' := by
  unfold closeChannel
  rw [if_pos h]
  refine ⟨fun c' => ?_, ?_, fun n' => ?_⟩
  · simp only [notice_chan, mark_chan]
    simp only [State.chan, seatFloor_channels, withGrantOrder_channels]
    refine (chan_updChan _ _ _ _).trans ?_
    simp only [State.chan, deduct_channels]
  · simp
  · simp only [notice_seat, mark_seat]
    rw [seat_seatFloor]
    simp only [withGrantOrder_seat, updChan_seat, seat_deduct]
    by_cases e : n = n' <;> by_cases a : s.applies n = true <;> simp [e, a]
    · subst e
      simp [a]
    · subst e
      simp [a]

/-! ### Hold causes -/

/-- Adding a cause changes nothing, or sets it in a HELD channel, with a notice and a mark where the channel was OPEN
(R96). -/
theorem addCause_cases (s : State) (c : ChanNo) (x : Cause) :
    (((s.chan c).busy = false ∨ carries (s.chan c) x = true) ∧ s.addCause c x = s)
      ∨ ((s.chan c).busy = true ∧ carries (s.chan c) x = false ∧
        TellFrame (s.setChan c { causeSet (s.chan c) x true with state := .held }) (s.addCause c x)) := by
  unfold addCause
  dsimp only
  split
  · next h =>
    simp only [Bool.or_eq_true, Bool.not_eq_true'] at h
    exact .inl ⟨h, rfl⟩
  · next h =>
    simp only [Bool.or_eq_true, Bool.not_eq_true', not_or, Bool.not_eq_false, Bool.not_eq_true] at h
    refine .inr ⟨h.1, h.2, ?_⟩
    split
    · exact .refl _
    · exact (notice_frame _ _ _ _ _).trans (markOpt_frame _ _)

/-- Removing a cause changes nothing, or clears it, and a channel left without a cause is OPEN (R96). -/
theorem removeCause_cases (s : State) (c : ChanNo) (x : Cause) :
    (((s.chan c).busy = false ∨ carries (s.chan c) x = false) ∧ s.removeCause c x = s)
      ∨ ((s.chan c).busy = true ∧ carries (s.chan c) x = true ∧
        TellFrame (s.setChan c { causeSet (s.chan c) x false with
          state := if (causeSet (s.chan c) x false).hasCause then (s.chan c).state else .opened }) (s.removeCause c x)) := by
  unfold removeCause
  dsimp only
  split
  · next h =>
    simp only [Bool.or_eq_true, Bool.not_eq_true'] at h
    exact .inl ⟨h, rfl⟩
  · next h =>
    simp only [Bool.or_eq_true, Bool.not_eq_true', not_or, Bool.not_eq_false] at h
    refine .inr ⟨h.1, h.2, ?_⟩
    split
    · next g =>
      cases x <;> exact .refl _
    · next g =>
      exact (notice_frame _ _ _ _ _).trans (markOpt_frame _ _)

theorem markOpt_grantFrame (s : State) (n : Option SeatNo) : GrantFrame s (s.markOpt n) := by
  cases n
  · exact .refl s
  · exact mark_grantFrame _ _

theorem addCause_grantFrame (s : State) (c : ChanNo) (x : Cause) : GrantFrame s (s.addCause c x) := by
  unfold addCause
  dsimp only
  split
  · exact .refl s
  · split
    · exact setChan_grantFrame s _ _
    · exact ((setChan_grantFrame s _ _).trans (notice_grantFrame _ _ _ _ _)).trans (markOpt_grantFrame _ _)

theorem removeCause_grantFrame (s : State) (c : ChanNo) (x : Cause) : GrantFrame s (s.removeCause c x) := by
  unfold removeCause
  dsimp only
  split
  · exact .refl s
  · split
    · exact setChan_grantFrame s _ _
    · exact ((setChan_grantFrame s _ _).trans (notice_grantFrame _ _ _ _ _)).trans (markOpt_grantFrame _ _)

/-- A hold cause changes no list, no seat and no grant order. -/
theorem addCause_stands (s : State) (c : ChanNo) (x : Cause) :
    (s.addCause c x).list = s.list ∧ (s.addCause c x).seats = s.seats ∧ (s.addCause c x).grantOrder = s.grantOrder := by
  obtain ⟨-, h⟩ | ⟨-, -, h⟩ := addCause_cases s c x
  · rw [h]; exact ⟨rfl, rfl, rfl⟩
  · exact ⟨h.list, h.seats, h.grantOrder⟩

theorem removeCause_stands (s : State) (c : ChanNo) (x : Cause) :
    (s.removeCause c x).list = s.list ∧ (s.removeCause c x).seats = s.seats
      ∧ (s.removeCause c x).grantOrder = s.grantOrder := by
  obtain ⟨-, h⟩ | ⟨-, -, h⟩ := removeCause_cases s c x
  · rw [h]; exact ⟨rfl, rfl, rfl⟩
  · exact ⟨h.list, h.seats, h.grantOrder⟩

@[simp] theorem mem_insertAsc (n m : SeatNo) (l : List SeatNo) : m ∈ insertAsc n l ↔ m = n ∨ (m ∈ l ∧ m ≠ n) := by
  simp only [insertAsc, List.mem_append, List.mem_filter, List.mem_cons, decide_eq_true_eq]
  constructor
  · rintro (⟨h, g⟩ | h | ⟨h, g⟩)
    · exact .inr ⟨h, ne_of_lt g⟩
    · exact .inl h
    · exact .inr ⟨h, (ne_of_lt g).symm⟩
  · rintro (h | ⟨h, g⟩)
    · exact .inr (.inl h)
    · rcases lt_or_gt_of_ne g with g | g
      · exact .inl ⟨h, g⟩
      · exact .inr (.inr ⟨h, g⟩)

theorem insertAsc_sorted (n : SeatNo) (l : List SeatNo) (h : l.Pairwise (· < ·)) : (insertAsc n l).Pairwise (· < ·) := by
  unfold insertAsc
  rw [List.pairwise_append]
  refine ⟨h.filter _, ?_, ?_⟩
  · rw [List.pairwise_cons]
    exact ⟨fun a ha => by simpa using (List.mem_filter.mp ha).2, h.filter _⟩
  · intro a ha b hb
    have ha := (List.mem_filter.mp ha).2
    simp only [decide_eq_true_eq] at ha
    rcases List.mem_cons.mp hb with rfl | hb
    · exact ha
    · exact ha.trans (by simpa using (List.mem_filter.mp hb).2)

/-- The holder set a joining leaves (R94). -/
theorem joinHolders_holders (s : State) (n : SeatNo) :
    (s.joinHolders n).holders = if s.holders.contains n then s.holders else insertAsc n s.holders := by
  have fold (l : List ChanNo) (t : State) :
      (l.foldl (fun s c => if (s.chan c).seat = some n then s else s.addCause c .priority) t).holders = t.holders := by
    refine (GrantFrame.foldl _ (fun t c => ?_) l t).holders
    split
    · exact .refl t
    · exact addCause_grantFrame _ _ _
  unfold joinHolders
  split
  · rfl
  · dsimp only
    split
    · rw [fold]; rfl
    · split
      · rw [(removeCause_grantFrame _ _ _).holders]; rfl
      · rfl

/-- The holder set a leaving leaves (R94). -/
theorem leaveHolders_holders (s : State) (n : SeatNo) :
    (s.leaveHolders n).holders = if s.holders.contains n then s.holders.erase n else s.holders := by
  have fold (l : List ChanNo) (t : State) :
      (l.foldl (fun s c => s.removeCause c .priority) t).holders = t.holders :=
    (GrantFrame.foldl _ (fun t c => removeCause_grantFrame t c _) l t).holders
  unfold leaveHolders
  split
  · dsimp only
    split
    · rw [fold]; rfl
    · split
      · rw [(addCause_grantFrame _ _ _).holders]; rfl
      · rfl
  · rfl

end State
end Sys2Proof.Machine
end

