-- ==== Sys2Proof/Laws/Arbiter.lean ====
section
/-! SUPPORT. The floor arbiter: the frame of the fill rule, of the closes with it, of displacement, chair grants and
NEXT, of the priority holder set, and of the absence cascade, and what each of them can do. -/

namespace Sys2Proof.Machine

namespace State

/-! ### The fill rule and the closes -/

theorem fillLoop_grantFrame (k : Nat) (s : State) : GrantFrame s (s.fillLoop k) := by
  induction k generalizing s with
  | zero => exact .refl s
  | succ k ih =>
    unfold fillLoop
    split
    · exact .refl s
    · split
      · exact .refl s
      · exact (grant_grantFrame _ _ _ _ _).trans (ih _)

theorem fillRule_grantFrame (s : State) : GrantFrame s s.fillRule := by
  unfold fillRule
  split
  · exact fillLoop_grantFrame _ _
  · exact .refl s

/-- The fill rule changes nothing unless the floor is OPEN in AUTO or OVERRIDE (R105). -/
theorem fillRule_of_closed (s : State) (h : s.floor ≠ .opened ∨ s.floorCfg.mode = .directed) : s.fillRule = s := by
  unfold fillRule
  rw [if_neg]
  simp only [Bool.and_eq_true, decide_eq_true_eq, bne_iff_ne, ne_eq, not_and, not_not]
  exact fun g => h.resolve_left fun f => f g

/-- One pass of the fill rule: it stops without a place, a FREE channel or an eligible entry, and otherwise grants the
first eligible entry and goes on (R105). -/
theorem fillLoop_succ (k : Nat) (s : State) :
    s.fillLoop (k + 1) = s ∧ (s.floorCfg.limit ≤ s.nonChairCount ∨ s.lowestFree = none ∨ s.firstEligible = none)
      ∨ ∃ e, s.nonChairCount < s.floorCfg.limit ∧ s.lowestFree.isSome = true ∧ s.firstEligible = some e
        ∧ s.fillLoop (k + 1) = (s.grant e.seat e.kind.turn e.effective false).fillLoop k := by
  conv => enter [1, 1, 1]; unfold fillLoop
  conv => enter [2, 1, e, 2, 2, 2, 1]; unfold fillLoop
  split
  · next h =>
    simp only [Bool.or_eq_true, decide_eq_true_eq, Option.isNone_iff_eq_none] at h
    exact .inl ⟨rfl, h.imp_right .inl⟩
  · next h =>
    simp only [Bool.or_eq_true, decide_eq_true_eq, not_or, not_le, Option.isNone_iff_eq_none] at h
    cases g : s.firstEligible with
    | none => exact .inl ⟨rfl, .inr (.inr rfl)⟩
    | some e => exact .inr ⟨e, h.1, Option.isSome_iff_ne_none.mpr h.2, rfl, rfl⟩

theorem closeAndFill_grantFrame (s : State) (c : ChanNo) (n : SeatNo) (r : Reason) :
    GrantFrame s (s.closeAndFill c n r) := by
  unfold closeAndFill
  split
  · exact (closeChannel_grantFrame _ _ _ _).trans (fillRule_grantFrame _)
  · exact .refl s

theorem closeBusy_grantFrame (s : State) (c : ChanNo) (r : Reason) : GrantFrame s (s.closeBusy c r) := by
  unfold closeBusy
  split
  · exact closeChannel_grantFrame _ _ _ _
  · exact .refl s

theorem closeSeat_grantFrame (s : State) (n : SeatNo) (r : Reason) : GrantFrame s (s.closeSeat n r) := by
  unfold closeSeat
  split
  · exact closeAndFill_grantFrame _ _ _ _
  · exact .refl s

/-! ### Displacement, chair grants and NEXT -/

theorem displace_grantFrame (s : State) (c : ChanNo) : GrantFrame s (s.displace c) := by
  unfold displace
  split
  · dsimp only
    split
    · exact (closeChannel_grantFrame _ _ _ _).trans (relist_grantFrame _ _ _)
    · exact closeChannel_grantFrame _ _ _ _
  · exact .refl s

theorem handOn_grantFrame (s : State) (n : SeatNo) : GrantFrame s (s.handOn n) := by
  unfold handOn
  split
  · exact fillRule_grantFrame s
  · split
    · exact fillRule_grantFrame s
    · exact ((displace_grantFrame _ _).trans (grant_grantFrame _ _ _ _ _)).trans (fillRule_grantFrame _)

theorem chairGrant_grantFrame (s : State) (n : SeatNo) (b : Bool) : GrantFrame s (s.chairGrant n b) := by
  unfold chairGrant
  split
  · exact grant_grantFrame _ _ _ _ _
  · split
    · exact .refl s
    · exact ((displace_grantFrame _ _).trans (grant_grantFrame _ _ _ _ _)).trans (fillRule_grantFrame _)

theorem closeDown_grantFrame (k : Nat) (s : State) : GrantFrame s (s.closeDown k) := by
  induction k generalizing s with
  | zero => exact .refl s
  | succ k ih =>
    unfold closeDown
    split
    · split
      · exact (closeBusy_grantFrame _ _ _).trans (ih _)
      · exact .refl s
    · exact .refl s

theorem grantNext_grantFrame (s : State) : GrantFrame s s.grantNext := by
  unfold grantNext
  split
  · exact (grant_grantFrame _ _ _ _ _).trans (fillRule_grantFrame _)
  · exact .refl s

/-- NEXT that is not carried out changes nothing; carried out it is answered DONE (R110). -/
theorem next_cases (s : State) :
    (s.next.1 = s ∧ (s.next.2 = .refusedState ∨ s.next.2 = .nothing ∨ s.next.2 = .refusedLimit))
      ∨ (s.floor = .opened ∧ (s.firstEligible).isSome = true ∧ s.next.2 = .done ∧ ∃ t, GrantFrame s t
        ∧ s.next.1 = t.grantNext) := by
  unfold next
  split
  · exact .inl ⟨rfl, .inl rfl⟩
  · next h =>
    rw [not_not] at h
    split
    · exact .inl ⟨rfl, .inr (.inl rfl)⟩
    · next g =>
      have g : s.firstEligible.isSome = true := by simpa [Option.isSome_iff_ne_none] using g
      split
      · exact .inr ⟨h, g, rfl, _, closeDown_grantFrame _ _, rfl⟩
      · split
        · exact .inr ⟨h, g, rfl, _, .refl s, rfl⟩
        · split
          · exact .inr ⟨h, g, rfl, _, closeBusy_grantFrame _ _ _, rfl⟩
          · exact .inl ⟨rfl, .inr (.inr rfl)⟩

theorem next_grantFrame (s : State) : GrantFrame s s.next.1 := by
  obtain ⟨h, -⟩ | ⟨-, -, -, t, ht, h⟩ := next_cases s <;> rw [h]
  · exact .refl s
  · exact ht.trans (grantNext_grantFrame _)

/-! ### The priority holder set -/

/-- What a change of the holder set leaves: the floor frame, the floor record, the floor state, the replies, the list,
the seats and the grant order. -/
structure HoldFrame (s t : State) : Prop where
  frame : FloorFrame s t
  floorCfg : t.floorCfg = s.floorCfg
  floor : t.floor = s.floor
  replies : t.uplink.replies = s.uplink.replies
  list : t.list = s.list
  seats : t.seats = s.seats
  grantOrder : t.grantOrder = s.grantOrder

theorem HoldFrame.refl (s : State) : HoldFrame s s := ⟨.refl s, rfl, rfl, rfl, rfl, rfl, rfl⟩

theorem HoldFrame.trans {s t u : State} (h : HoldFrame s t) (g : HoldFrame t u) : HoldFrame s u :=
  ⟨h.frame.trans g.frame, g.floorCfg.trans h.floorCfg, g.floor.trans h.floor, g.replies.trans h.replies,
    g.list.trans h.list, g.seats.trans h.seats, g.grantOrder.trans h.grantOrder⟩

theorem HoldFrame.foldl {α : Type} (f : State → α → State) (h : ∀ s x, HoldFrame s (f s x)) (l : List α) (s : State) :
    HoldFrame s (l.foldl f s) := by
  induction l generalizing s with
  | nil => exact .refl s
  | cons x l ih => exact (h s x).trans (ih _)

theorem addCause_holdFrame (s : State) (c : ChanNo) (x : Cause) : HoldFrame s (s.addCause c x) :=
  let h := addCause_grantFrame s c x
  let g := addCause_stands s c x
  ⟨h.frame, h.floorCfg, h.floor, h.replies, g.1, g.2.1, g.2.2⟩

theorem removeCause_holdFrame (s : State) (c : ChanNo) (x : Cause) : HoldFrame s (s.removeCause c x) :=
  let h := removeCause_grantFrame s c x
  let g := removeCause_stands s c x
  ⟨h.frame, h.floorCfg, h.floor, h.replies, g.1, g.2.1, g.2.2⟩

theorem withHolders_holdFrame (s : State) (l : List SeatNo) : HoldFrame s (s.withHolders l) :=
  ⟨by constructor <;> first | rfl | intro b; rfl, rfl, rfl, rfl, rfl, rfl, rfl⟩

theorem joinHolders_holdFrame (s : State) (n : SeatNo) : HoldFrame s (s.joinHolders n) := by
  unfold joinHolders
  split
  · exact .refl s
  · dsimp only
    split
    · refine (withHolders_holdFrame s _).trans (HoldFrame.foldl _ (fun t c => ?_) _ _)
      split
      · exact .refl t
      · exact addCause_holdFrame _ _ _
    · split
      · exact (withHolders_holdFrame s _).trans (removeCause_holdFrame _ _ _)
      · exact withHolders_holdFrame s _

theorem leaveHolders_holdFrame (s : State) (n : SeatNo) : HoldFrame s (s.leaveHolders n) := by
  unfold leaveHolders
  split
  · dsimp only
    split
    · exact (withHolders_holdFrame s _).trans (HoldFrame.foldl _ (fun t c => removeCause_holdFrame t c _) _ _)
    · split
      · exact (withHolders_holdFrame s _).trans (addCause_holdFrame _ _ _)
      · exact withHolders_holdFrame s _
  · exact .refl s

/-! ### The absence cascade -/

/-- What the first pass leaves of the seats: the seat is ABSENT and shows nothing of its unit, and an entry it had has
left it IDLE; every other seat stands (R17). -/
theorem goAbsent_seat (s : State) (n n' : SeatNo) : (s.goAbsent n).seat n' =
    if n = n' then
      ⟨(s.seat n').cfg, { (s.seat n').run with
        present := false, unitKind := none, mismatch := false, down1 := false, down2 := false, down3 := false
        refusalShown := false
        floor := if (s.entryOf n).isSome = true then .idle else (s.seat n').run.floor
        chan := if (s.entryOf n).isSome = true then none else (s.seat n').run.chan }⟩
    else s.seat n' := by
  unfold goAbsent
  generalize hu : (s.updRun n fun r => { r with present := false, unitKind := none, mismatch := false, down1 := false
                                                down2 := false, down3 := false, refusalShown := false }) = u
  dsimp only
  rw [removeEntry_seat]
  have hs (m : SeatNo) : ((u.setRefusal n none).leaveHolders n).seat m = u.seat m := by
    simp only [State.seat, (leaveHolders_holdFrame _ n).seats, setRefusal_seats]
  have he : ((u.setRefusal n none).leaveHolders n).entryOf n = s.entryOf n := by
    simp only [entryOf, (leaveHolders_holdFrame _ n).list, setRefusal_list, ← hu, updRun_list]
  rw [he, hs, ← hu, seat_updRun]
  by_cases e : n = n' <;> by_cases a : (s.entryOf n).isSome = true <;> simp [e, a]
  · subst e
    simp [a]
  · subst e
    simp [a]

/-- Everything the first pass may not touch. -/
theorem goAbsent_floorCfg (s : State) (n : SeatNo) : (s.goAbsent n).floorCfg = s.floorCfg := by
  unfold goAbsent
  rw [(removeEntry_grantFrame _ _ _).floorCfg, (leaveHolders_holdFrame _ _).floorCfg]
  rfl

theorem goAbsent_floor (s : State) (n : SeatNo) : (s.goAbsent n).floor = s.floor := by
  unfold goAbsent
  rw [(removeEntry_grantFrame _ _ _).floor, (leaveHolders_holdFrame _ _).floor]
  rfl

/-- A grant, a close or a list change makes no seat PRESENT or ABSENT. -/
theorem GrantFrame.present {s t : State} (h : GrantFrame s t) (n : SeatNo) :
    (t.seat n).run.present = (s.seat n).run.present := by rw [h.frame.seat n]

theorem foldl_goAbsent_present (l : List SeatNo) (s : State) (n : SeatNo) :
    ((l.foldl (fun s n => s.goAbsent n) s).seat n).run.present = ((s.seat n).run.present && !l.contains n) := by
  induction l generalizing s with
  | nil => simp
  | cons m l ih =>
    rw [List.foldl_cons, ih, goAbsent_seat]
    by_cases e : m = n
    · simp [e]
    · simp [e, Ne.symm e]

/-- The cascade makes every seat of its group ABSENT and no other seat (R17). -/
theorem cascade_present (s : State) (group : List SeatNo) (n : SeatNo) :
    ((s.cascade group).seat n).run.present = ((s.seat n).run.present && !group.contains n) := by
  unfold cascade
  dsimp only
  rw [markAll_seat, (GrantFrame.foldl _ (fun t m => notice_grantFrame t _ _ _ _) _ _).present,
    (GrantFrame.foldl _ (fun t m => closeSeat_grantFrame t m _) _ _).present]
  exact foldl_goAbsent_present group s n

end State
end Sys2Proof.Machine
end

