-- ==== Sys2Proof/Laws/Management.lean ====
section
/-! SUPPORT. The Management Unit: what the arrival of a management frame can do, what a hold-off does, and what an
answer leaves. -/

namespace Sys2Proof.Machine

/-! ### The frame of a management row -/

@[simp] theorem frameKind_mgmtFrame (m : MgmtHead) (o : Op) (fields : List Byte) :
    frameKind (mgmtFrame m o fields) = some kindManagement := rfl

@[simp] theorem payload_mgmtFrame (m : MgmtHead) (o : Op) (fields : List Byte) :
    payload (mgmtFrame m o fields) = m.tag :: o.code :: fields := by
  have h : (mgmtFrame m o fields).length - 4 = (m.tag :: o.code :: fields).length := by
    simp [mgmtFrame, bytesOf]
  unfold payload
  rw [h]
  have e : (mgmtFrame m o fields).drop 2 = (m.tag :: o.code :: fields) ++ bytesOf m.check := rfl
  rw [e, List.take_left]

namespace State

/-! ### The reply queue -/

theorem answer_frame (s : State) (tag : Byte) (a : Answer) : TellFrame s (s.answer tag a) := by
  unfold answer pushReply pushPlace
  split <;> (try split) <;> constructor <;> first | rfl | intro b; rfl

@[simp] theorem answer_ports (s : State) (tag : Byte) (a : Answer) : (s.answer tag a).ports = s.ports := by
  unfold answer pushReply pushPlace
  split <;> (try split) <;> rfl

@[simp] theorem answer_mgmt (s : State) (tag : Byte) (a : Answer) : (s.answer tag a).mgmt = s.mgmt := by
  unfold answer pushReply pushPlace
  split <;> (try split) <;> rfl

@[simp] theorem answer_notices (s : State) (tag : Byte) (a : Answer) :
    (s.answer tag a).uplink.notices = s.uplink.notices := by
  unfold answer pushReply pushPlace
  split <;> (try split) <;> rfl

/-- What an answer leaves in the reply queue of an UP uplink: one place more, at the tail (R39, R154). -/
theorem answer_replies (s : State) (tag : Byte) (a : Answer) (h : s.uplink.up = true) :
    (s.answer tag a).uplink.replies = s.uplink.replies ++ [match a with
      | .reply st data => .built ⟨tag, st, data, false⟩
      | .later => .profileOp tag
      | .resetting => .built ⟨tag, .done, [], true⟩] := by
  unfold answer pushReply pushPlace
  cases a <;> simp [h]

/-! ### The arrival of a frame -/

/-- A management frame is lost on a DOWN link, counted if it is not taken, left unanswered after RESET, or carried out
and answered (R22, R39, R154, R174). -/
theorem receive_cases (s : State) (f : Frame) (body : Body) :
    (s.uplink.up = false ∧ s.receive f body = s)
      ∨ (s.uplink.up = true ∧ s.takesFrame f = false ∧ s.receive f body = s.countMgmtErr)
      ∨ (s.uplink.up = true ∧ s.takesFrame f = true ∧ s.startUp.reset ≠ .none
        ∧ s.receive f body = s.pushPlace .unanswered)
      ∨ (s.Takes f ∧ s.receive f body = (body s).1.answer ((payload f).headD 0) (body s).2) := by
  unfold receive manage Takes
  by_cases hu : s.uplink.up = true
  · cases ht : s.takesFrame f
    · exact .inr (.inl (by simp [hu]))
    · by_cases hr : s.startUp.reset = .none
      · exact .inr (.inr (.inr (by simp [hu, hr])))
      · exact .inr (.inr (.inl (by simp [hu, hr])))
  · exact .inl (by simp [hu])

theorem receive_of_takes (s : State) (f : Frame) (body : Body) (h : s.Takes f) :
    s.receive f body = (body s).1.answer ((payload f).headD 0) (body s).2 := by
  unfold receive manage
  simp [h.1, h.2.1, h.2.2]

/-! ### Hold-off -/

/-- The floor operations are carried out in READY, whatever the Profile Store is doing (R156). -/
theorem heldOff_floor (s : State) (h : s.startUp.state = .ready) : s.heldOff .floor = none := by
  unfold heldOff
  rw [h]

/-- The other operations are held off neither in ROLL_CALL nor in READY while no profile operation is in flight
(R156). -/
theorem heldOff_none (s : State) (k : HoldClass) (h : s.startUp.state = .ready) (g : s.profile.op = none) :
    s.heldOff k = none := by
  unfold heldOff
  rw [h, g]
  cases k <;> rfl

end State

/-! ### A command row -/

theorem held_of_none (k : HoldClass) (body : Body) (s : State) (h : s.heldOff k = none) : held k body s = body s := by
  unfold held
  rw [h]

theorem held_of_some (k : HoldClass) (body : Body) (s : State) (st : Status) (h : s.heldOff k = some st) :
    held k body s = (s, only st) := by
  unfold held
  rw [h]

/-- A management row whose frame is taken: its operation is carried out and answered with the frame's tag (R154). -/
theorem operate_of_takes (m : MgmtHead) (o : Op) (fields : List Byte) (body : Body) (s : State)
    (h : s.Takes (mgmtFrame m o fields)) :
    operate m o fields body s = .next ((body s).1.answer m.tag (body s).2) := by
  unfold operate
  rw [State.receive_of_takes s _ _ h, payload_mgmtFrame]
  rfl

end Sys2Proof.Machine
end

