-- ==== Sys2Proof/Laws/Timers.lean ====
section
/-! SUPPORT. The timed events: when each has come, as the manual counts it, and the frame of the initial budgets. -/

namespace Sys2Proof.Machine

namespace State

variable (s : State) (n : SeatNo) (c : ChanNo)

/-- R16. -/
theorem presenceExpired_iff : s.presenceExpired n = true ↔
    (s.seat n).run.present = true ∧ s.floorCfg.presenceMs ≤ s.now - (s.seat n).run.lastHeard := by
  simp [presenceExpired]

/-- R45. -/
theorem refusalExpired_iff : s.refusalExpired n = true ↔ ∃ k, s.refusalOf n = some k ∧ k + 2000 ≤ s.now := by
  unfold refusalExpired
  cases s.refusalOf n with
  | none => simp
  | some k => exact ⟨fun h => ⟨k, rfl, of_decide_eq_true h⟩, fun ⟨_, e, h⟩ => by cases e; exact decide_eq_true h⟩

/-- R34. -/
theorem refreshPassed_iff : s.refreshPassed n = true ↔
    (s.seat n).run.present = true ∧ 5000 ≤ s.now - (s.seat n).run.lastCommand := by
  simp only [refreshPassed, Bool.and_eq_true, decide_eq_true_eq]
  rfl

/-- R130. -/
theorem secondPassed_iff : s.secondPassed c = true ↔ (s.chan c).state = .opened ∧ 999 ≤ (s.chan c).timer.phase := by
  simp [secondPassed]

/-- R174. -/
theorem rollCallOver_iff : s.rollCallOver = true ↔ s.startUp.state = .rollCall ∧ s.startUp.since + 2000 ≤ s.now := by
  simp only [rollCallOver, Bool.and_eq_true, decide_eq_true_eq, beq_iff_eq]
  rfl

theorem markBudget_frame : TellFrame s (s.markBudget n) := by
  unfold markBudget
  split
  · exact mark_frame s n
  · exact TellFrame.refl s

/-- The marks of R9 after the initial budgets change nothing but command sets. -/
theorem initialBudgets_frame : TellFrame ((s.mapSeats (initialBudget s.classes)).refreshAll) s.initialBudgets := by
  have h (l : List SeatNo) (t : State) : TellFrame t (l.foldl (fun s n => s.markBudget n) t) := by
    induction l generalizing t with
    | nil => exact TellFrame.refl t
    | cons n l ih => exact (markBudget_frame t n).trans (ih _)
  exact h _ _

end State
end Sys2Proof.Machine
end

