-- ==== Sys2Proof/Tests/Slice0.lean ====
section
/-! SUPPORT. Tests of the model on small states: ill-formed commands refused, one or two steps of each command with
results taken from the manual, and, for each obligation with hypotheses, a state and operands that meet them. -/

namespace Sys2Proof.Tests

set_option Elab.async false
set_option maxRecDepth 100000

open Machine

/-! ### States for the tests -/

/-- READY with an OPEN floor, the uplink and branch A UP, every seat ABSENT. -/
def quiet : State :=
  { State.reset with
    uplink := { resetUplink true with up := true }
    ports := { State.reset.ports with a := { resetPort true with up := true } }
    startUp := ⟨.ready, 0, .power, .none, false⟩
    floor := .opened }

/-- The runtime part of a PRESENT seat of a delegate unit. -/
def heard : SeatRun := { resetRun 0 1800 with present := true, unitKind := some .delegateUnit }

/-- The entry of seat 5: a SPEAK request at level 3. -/
def entry5 : Entry :=
  { seat := 5, kind := .speak, claimed := 3, effective := 3, arrival := 1, clamped := false, exhausted := false
    relisted := false, upgraded := false }

/-- Seat 5 is WAITING. -/
def waiter : SeatRecord := ⟨defaultSeatConfig, { heard with floor := .waiting }⟩

/-- Seat 7 is SPEAKING on channel 0. -/
def speaker : SeatRecord := ⟨defaultSeatConfig, { heard with floor := .speaking, chan := some 0 }⟩

/-- Seat 9 is an IDLE CHAIR seat. -/
def chairman : SeatRecord :=
  ⟨{ defaultSeatConfig with cls := .chair, speak := 0, order := none }, { heard with unitKind := some .chairUnit }⟩

/-- Channel 0 in its first second: a SPEAK turn of seat 7 with five minutes before it. -/
def turn7 : Channel :=
  { state := .opened, seat := some 7, kind := some .speak, level := some 3, priority := false, suspend := false
    timer := ⟨.countdown, ⟨0, 5, 0, 0⟩, 300, 0, 999, false⟩, detector := quietDetector }

/-- One seat waits, one speaks and a chair sits by; the open limit is as given. -/
def busy (f : FloorConfig) : State :=
  ((((((quiet.setSeat 5 waiter).setSeat 7 speaker).setSeat 9 chairman).setChan 0 turn7).withGrantOrder [0]).withList
    ⟨[entry5], false, 1⟩).withFloorCfg f

theorem quiet_seat (n : SeatNo) : quiet.seat n = ⟨defaultSeatConfig, resetRun 0 1800⟩ :=
  State.everySeat_get _ n

theorem quiet_refusalOf (n : SeatNo) : quiet.refusalOf n = none := State.everySeat_get _ n

theorem quiet_chan (c : ChanNo) : quiet.chan c = resetChannel := State.everyChannel_get _ c

theorem busy_seat (f : FloorConfig) (n : SeatNo) :
    (busy f).seat n = if n = 5 then waiter else if n = 7 then speaker else if n = 9 then chairman
      else ⟨defaultSeatConfig, resetRun 0 1800⟩ := by
  simp only [busy, State.withFloorCfg_seat, State.withList_seat, State.withGrantOrder_seat, State.setChan_seat,
    State.seat_setSeat, quiet_seat, eq_comm (a := n)]
  by_cases h9 : 9 = n
  · subst h9; rfl
  · by_cases h7 : 7 = n
    · subst h7; rfl
    · simp only [if_neg h9, if_neg h7]

theorem busy_chan (f : FloorConfig) (c : ChanNo) : (busy f).chan c = if c = 0 then turn7 else resetChannel := by
  simp only [busy, State.withFloorCfg_chan, State.withList_chan, State.withGrantOrder_chan, State.chan_setChan,
    State.setSeat_chan, quiet_chan, eq_comm (a := c)]

theorem busy_refusalOf (f : FloorConfig) (n : SeatNo) : (busy f).refusalOf n = none := by
  simp only [busy, State.withFloorCfg_refusalOf, State.withList_refusalOf, State.withGrantOrder_refusalOf,
    State.setChan_refusalOf, State.setSeat_refusalOf, quiet_refusalOf]

/-- A state in which nothing has begun meets the floor invariant, whatever the floor state and the start-up state. -/
theorem still_floorOk (s : State) (h : ∀ n, s.seat n = ⟨defaultSeatConfig, resetRun 0 1800⟩)
    (hr : ∀ n, s.refusalOf n = none) (hc : ∀ c, s.chan c = resetChannel) (hl : s.list = resetList)
    (hg : s.grantOrder = []) (hh : s.holders = []) (hs : s.startUp.state ≠ .ready → s.floor = .closed) :
    s.FloorOk := by
  refine ⟨?_, ?_, ?_, ?_, ?_, ?_, ?_, ?_, ?_, ?_⟩
  · simp [State.ListOk, hl, resetList]
  · simp [State.EntriesOk, hl, resetList]
  · simp [State.SeatsOk, h, hc, hl, resetList, resetRun, resetChannel, Channel.busy]
  · simp [State.ChannelsOk, hc, resetChannel, Channel.busy, Channel.hasCause]
  · simp [State.GrantOrderOk, hg, hc, resetChannel, Channel.busy]
  · simp [State.PresenceOk, h, hr, hh, resetRun]
  · simp [State.HoldersOk, hh]
  · simp [State.CausesOk, hc, resetChannel, Channel.busy]
  · simp [State.ClosedOk, hl, hc, resetList, resetChannel, Channel.busy]
  · refine ⟨fun g => ⟨hs g, ?_, hh, ?_⟩, fun _ n => ?_⟩
    · simp [hl, resetList]
    · simp [hc, resetChannel, Channel.busy]
    · simp [h, resetRun]

theorem quiet_floorOk : quiet.FloorOk :=
  still_floorOk quiet quiet_seat quiet_refusalOf quiet_chan rfl rfl rfl (by decide)

theorem busy_floorOk (f : FloorConfig) : (busy f).FloorOk := by
  refine ⟨?_, ?_, ?_, ?_, ?_, ?_, ?_, ?_, ?_, ?_⟩
  · simp [State.ListOk, busy]
  · intro e he
    have he : e = entry5 := by simpa [busy] using he
    subst he
    have h : (busy f).seat entry5.seat = waiter := by rw [busy_seat]; rfl
    rw [State.isExhausted, State.applies, h]
    exact ⟨rfl, rfl, rfl⟩
  · intro n
    have hl : (busy f).list.entries.map Entry.seat = [5] := rfl
    simp only [busy_seat, busy_chan, hl, List.mem_singleton]
    by_cases h5 : n = 5
    · subst h5; decide
    by_cases h7 : n = 7
    · subst h7; decide
    by_cases h9 : n = 9
    · subst h9; decide
    have h7' : (7 : SeatNo) ≠ n := fun h => h7 h.symm
    simp only [h5, h7, h9, if_false]
    refine ⟨by simp [resetRun], fun c => ?_, by simp [resetRun]⟩
    by_cases hc : c = 0 <;> simp [hc, resetRun, turn7, resetChannel, Channel.busy, h7']
  · intro c
    rw [busy_chan]
    split_ifs <;> decide
  · refine ⟨by simp [busy], fun c => ?_⟩
    rw [busy_chan]
    have : (busy f).grantOrder = [0] := rfl
    rw [this, List.mem_singleton]
    by_cases h : c = 0 <;> simp [h, turn7, resetChannel, Channel.busy]
  · intro n
    have hh : (busy f).holders = [] := rfl
    rw [busy_refusalOf, busy_seat, hh]
    split_ifs <;> simp [waiter, speaker, chairman, heard, resetRun]
  · have hh : (busy f).holders = [] := rfl
    simp [State.HoldersOk, hh]
  · intro c
    have hh : (busy f).holders = [] := rfl
    have hf : (busy f).floor = .opened := rfl
    rw [busy_chan, hh, hf]
    split_ifs <;> simp [turn7, resetChannel, Channel.busy]
  · intro h; cases h
  · exact ⟨fun h => absurd rfl h, fun h => by cases h⟩


/-! ### Ill-formed commands are refused by the check -/

/-- A management head for operands whose head does not matter. -/
def anyHead : MgmtHead := ⟨1, 2, 0⟩

/-- A SEAT REPORT frame of a seat: the flags and claimed level, and the three key bytes. -/
def reportFrame (n : Nat) (x k1 k2 k3 : Byte) : Frame := mkFrame kindSeatReport (two n ++ [x, k1, k2, k3])

/-- A SEAT AUDIO frame of a seat on a channel, every sample the same. -/
def blockFrame (n : Nat) (c : Byte) (x : Half) : Frame :=
  mkFrame kindSeatAudio (two n ++ c :: (List.replicate 48 x).flatMap bytesOf)

theorem test_wf_report_too_long : (Instr.seatReport .branchA (List.replicate 260 0)).wf = false := by decide +kernel
theorem test_wf_report_of_audio : (Instr.seatReport .branchA (blockFrame 7 0 0)).wf = false := by decide +kernel
theorem test_wf_audio_too_long : (Instr.seatAudio .branchA (List.replicate 260 0)).wf = false := by decide +kernel
theorem test_wf_audio_of_report : (Instr.seatAudio .branchA (reportFrame 7 0 0 0 0)).wf = false := by decide +kernel
theorem test_wf_programme_too_long : (Instr.programme (0x50 :: List.replicate 259 0)).wf = false := by decide +kernel
theorem test_wf_programme_of_other_kind : (Instr.programme [0x60, 0, 0, 0]).wf = false := by decide +kernel
theorem test_wf_seat_row_short : (Instr.writeTableSeat anyHead 0 [1, 2]).wf = false := by decide +kernel
theorem test_wf_class_row_long : (Instr.writeTableClass anyHead 0 (List.replicate 11 0)).wf = false := by decide +kernel
theorem test_wf_branch_row_short : (Instr.writeTableBranch anyHead 0 [1, 0, 0, 0]).wf = false := by decide +kernel
theorem test_wf_floor_row_short : (Instr.writeTableFloor anyHead 0 (List.replicate 16 0)).wf = false := by
  decide +kernel
theorem test_wf_read_back_past_the_words : (Instr.storeComplete ⟨[(1065, 0)], .written⟩).wf = false := by
  decide +kernel
theorem test_wf_unknown_too_long : (Instr.unknownOperation (0x60 :: List.replicate 259 0)).wf = false := by
  decide +kernel
theorem test_wf_unknown_of_other_kind : (Instr.unknownOperation (mkFrame 0x50 [1, 2])).wf = false := by decide +kernel
theorem test_wf_unknown_of_listed_operation :
    (Instr.unknownOperation (mgmtFrame (soundHead 1 .suspend []) .suspend [])).wf = false := by decide +kernel

/-! ### Worked figures of the manual -/

/-- R43: the check sequence over the ASCII digits 1 to 9 is 0x29B1. -/
theorem test_check_sequence :
    checkSequence [0x31, 0x32, 0x33, 0x34, 0x35, 0x36, 0x37, 0x38, 0x39] = 0x29B1 := by decide +kernel

/-- The table of R126. -/
theorem test_display : [0, 59, 250, 3725, 5999, 6000, 7000, 65535].map display =
    [⟨0, 0, 0, 0⟩, ⟨0, 0, 5, 9⟩, ⟨0, 4, 1, 0⟩, ⟨6, 2, 0, 5⟩, ⟨9, 9, 5, 9⟩, ⟨9, 9, 5, 9⟩, ⟨9, 9, 5, 9⟩, ⟨9, 9, 5, 9⟩] := by
  decide +kernel

/-- The table of R133. -/
theorem test_decrement : [(⟨0, 4, 1, 0⟩ : Mmss), ⟨0, 2, 3, 0⟩, ⟨0, 1, 0, 0⟩, ⟨1, 0, 0, 0⟩, ⟨0, 0, 0, 1⟩].map Mmss.pred =
    [⟨0, 4, 0, 9⟩, ⟨0, 2, 2, 9⟩, ⟨0, 0, 5, 9⟩, ⟨0, 9, 5, 9⟩, ⟨0, 0, 0, 0⟩] := by decide +kernel

/-- The table of R134. -/
theorem test_increment : [(⟨0, 0, 0, 9⟩ : Mmss), ⟨0, 0, 5, 9⟩, ⟨0, 9, 5, 9⟩, ⟨9, 9, 5, 8⟩, ⟨9, 9, 5, 9⟩].map Mmss.succ =
    [⟨0, 0, 1, 0⟩, ⟨0, 1, 0, 0⟩, ⟨1, 0, 0, 0⟩, ⟨9, 9, 5, 9⟩, ⟨9, 9, 5, 9⟩] := by decide +kernel

/-- The table of R145. -/
theorem test_level : [blockLevel [0, 0], blockLevel [1450, 65226], blockLevel [64085, 1450], blockLevel [0x8000]]
    = [0, 1450, 1451, 32767] := by decide +kernel

/-- The table of R52. -/
theorem test_clamp : [((3 : Level), (3 : Level)), (0, 3), (2, 1), (1, 2)].map
      (fun x => (effectiveLevel x.1 x.2, isClamped x.1 x.2)) =
    [(3, false), (3, true), (2, false), (2, true)] := by decide +kernel

/-! ### One step of each command -/

/-- The state after a command. -/
def after (i : Instr) (s : State) : State :=
  match exec i s with
  | .next t => t
  | _ => s

/-- The floor of the tests: AUTO, open limit 4. -/
def chamber : State := busy defaultFloorConfig

/-- `chamber` as many milliseconds later: nothing else has moved. -/
def later (k : Nat) : State := chamber.withNow k

/-- The same with the floor CLOSED and no one waiting or speaking. -/
def closed : State := quiet.withFloor .closed

/-- Just after a power-up reset, the links of `quiet` UP. -/
def recalling : State := closed.withStartUp ⟨.recalling, 0, .power, .none, false⟩

/-- A start-up recall has just loaded a configuration in which two seats of branch A show a budget of 3,600 s. -/
def shown : State :=
  ((((recalling.setSeat 0 ⟨{ defaultSeatConfig with cls := .official }, resetRun 0 1800⟩).setSeat 255
    ⟨{ defaultSeatConfig with cls := .official }, resetRun 0 1800⟩).withClasses
      { defaultClasses with official := { defaultClasses.official with enforced := true } })).withFloorCfg
        { defaultFloorConfig with showBudget := true }

/-- In the roll call. -/
def rollCall : State := closed.withStartUp ⟨.rollCall, 0, .power, .none, false⟩

/-- A report of a seat with the three press counts and the KEY2 level, claiming level 3. -/
def pressed (n : Nat) (k1 k2 k3 : BitVec 4) (d2 : Bool) : Report :=
  ⟨n, false, .delegateUnit, 3, k1, k2, k3, false, d2, false⟩

/-- The frame of `pressed`. -/
def pressFrame (n : Nat) (k1 k2 k3 : BitVec 4) (d2 : Bool) : Frame :=
  reportFrame n 3 (k1.setWidth 8) (k2.setWidth 8 ||| if d2 then 16 else 0) (k3.setWidth 8)

/-- `chamber` with seat 6 PRESENT and IDLE under a configuration. -/
def withSix (c : SeatConfig) : State := chamber.setSeat 6 ⟨c, heard⟩

/-- A management head that is right for an operation and its fields. -/
def tagged (o : Op) (fields : List Byte) : MgmtHead := soundHead 0x11 o fields

/-- The status and data of the last reply built. -/
def lastReply (s : State) : Option (Status × List Byte) :=
  match s.uplink.replies.getLast? with
  | some (.built r) => some (r.status, r.data)
  | _ => none

theorem test_report_makes_present :
    ((after (.seatReport .branchA (reportFrame 6 3 0 0 0)) chamber).seat 6).run.present = true := by decide +kernel
theorem test_report_key1_withdraws :
    (after (.seatReport .branchA (reportFrame 5 3 0x11 0 0)) chamber).list.entries = [] := by decide +kernel
theorem test_audio_forwarded :
    ((after (.seatAudio .branchA (blockFrame 7 0 1450)) chamber).uplink.audio.map fun x => (x.chan, x.seat, x.held))
      = [(0, 7, false)] := by decide +kernel
theorem test_audio_stray :
    ((after (.seatAudio .branchA (blockFrame 7 16 1450)) chamber).port .branchA).audioStray = 1 := by decide +kernel
theorem test_programme_copied :
    ((after (.programme (mkFrame 0x50 [1, 2])) chamber).port .branchA).programme = [mkFrame 0x50 [1, 2]] := by
  decide +kernel
theorem test_programme_damaged : ((after (.programme [0x50, 0, 0, 0]) chamber).port .branchA).programme = [] := by
  decide +kernel
theorem test_branch_up : ((after (.branchLinkUp .branchB) chamber).port .branchB).up = true := by decide +kernel
theorem test_branch_down_closes : ((after (.branchLinkDown .branchA) chamber).chan 0).state = .free := by
  decide +kernel
theorem test_uplink_up : (after .uplinkUp State.reset).uplink.notices.map Notice.reason
    = [some (.linkUp .uplink)] := by decide +kernel
theorem test_uplink_down : (after .uplinkDown chamber).mgmt = ⟨0, 1, true⟩ := by decide +kernel
theorem test_seat_command_sent :
    ((after (.seatCommand .branchA) (after (.commandRefresh 5) (later 5000))).port .branchA).cmdSet = [] := by decide +kernel
theorem test_programme_transmit :
    ((after (.programmeTransmit .branchA) (after (.programme (mkFrame 0x50 [])) chamber)).port .branchA).tx
      = some (mkFrame 0x50 []) := by decide +kernel
theorem test_branch_transmit_complete :
    ((after (.branchTransmitComplete .branchA) (after (.seatCommand .branchA) (after (.commandRefresh 5) (later 5000)))).port
      .branchA).tx = none := by decide +kernel
theorem test_channel_audio_transmit :
    (after .channelAudioTransmit (after (.seatAudio .branchA (blockFrame 7 0 0)) chamber)).uplink.audio = [] := by
  decide +kernel
theorem test_reply_transmit : (after .replyTransmit (after (.identify (tagged .identify [])) chamber)).uplink.replies
    = [] := by decide +kernel
theorem test_notice_transmit : (after .noticeTransmit (after (.branchLinkUp .branchB) chamber)).uplink.notices = [] := by
  decide +kernel
theorem test_uplink_transmit_complete :
    (after .uplinkTransmitComplete (after .replyTransmit (after (.reset (tagged .reset [])) chamber))).startUp.reset
      = .due := by decide +kernel
/-- R61, last row: the press is taken and its seat speaks; the expiry that follows applies the cascade to what it made. -/
theorem test_presence_timeout :
    (let s := after (.seatReport .branchA (pressFrame 6 1 0 0 false)) (withSix defaultSeatConfig)
     let t := after (.presenceTimeout 6) (s.withNow 1000)
     ((s.seat 6).run.floor, (t.seat 6).run.floor, (t.seat 6).run.present)) = (.speaking, .idle, false) := by
  decide +kernel
/-- R16: a report taken first restarts the timeout, and an expiry due with it does not happen. -/
theorem test_report_before_presence_timeout :
    ((after (.presenceTimeout 5) (after (.seatReport .branchA (reportFrame 5 3 0 0 0)) (later 1000))).seat
      5).run.present = true := by decide +kernel
theorem test_refusal_expiry :
    ((after (.refusalTimerExpiry 6) ((later 2000).setRefusal 6 (some 0))).refusalOf 6) = none := by decide +kernel
/-- R45, R58: a refusal started again 1 ms ago still shows. -/
theorem test_refusal_started_again :
    ((after (.refusalTimerExpiry 6) ((later 2000).setRefusal 6 (some 1))).refusalOf 6) = some 1 := by decide +kernel
theorem test_refresh_marks : ((after (.commandRefresh 5) (later 5000)).port .branchA).cmdSet = [5] := by decide +kernel
theorem test_second_elapsed : ((after (.secondElapsed 0) chamber).chan 0).timer =
    ⟨.countdown, ⟨0, 4, 5, 9⟩, 300, 1, 0, false⟩ := by decide +kernel
/-- R91, R141: END taken first closes the turn; the channel, granted again at once, counts from its own start. -/
theorem test_end_before_second_elapsed :
    (let s := after (.secondElapsed 0) (after (.endTurn (tagged .endTurn [0, 0, 7]) 0 7) chamber)
     ((s.chan 0).seat, (s.chan 0).timer)) = (some 5, ⟨.countdown, ⟨0, 5, 0, 0⟩, 300, 0, 0, false⟩) := by decide +kernel
theorem test_power_up_reset : (after .powerUpReset chamber).startUp = ⟨.recalling, 0, .power, .none, false⟩ := by decide +kernel
theorem test_command_reset :
    (after .commandReset (chamber.withStartUp ⟨.ready, 0, .power, .due, false⟩)).startUp.cause = .command := by decide +kernel
theorem test_start_up_recall : (after .startUpRecallComplete recalling).startUp.state = .rollCall := by decide +kernel
/-- R9, R10: the initial budgets of a reset mark the seats whose shown budget they change. -/
theorem test_start_up_budgets_mark : (shown.initialBudgets.port .branchA).cmdSet = [0, 255] := by decide +kernel
/-- R165 step 6, R175: open at start goes by the recall of start-up; one written in ROLL_CALL is read at the next. -/
theorem test_start_up_ready :
    (let row : List Byte := [0, 4, 3, 56, 40, 3, 0xE8, 0, 4, 0xB0, 2, 0x58, 1, 0, 1, 0x1F, 0xFF]
     let s := after (.writeTableFloor (tagged .writeTable ([3, 0, 0] ++ row)) 0 row) rollCall
     let t := after .startUpReady (s.withNow 2000)
     let u := after .startUpReady ((rollCall.withStartUp { rollCall.startUp with opens := true }).withNow 2000)
     (t.startUp.state, t.floorCfg.openAtStart, t.floor, u.floor)) = (.ready, true, .closed, .opened) := by decide +kernel
/-- R174: the roll call runs its full 2,000 ms. -/
theorem test_start_up_ready_too_soon : (after .startUpReady (rollCall.withNow 1999)).startUp.state = .rollCall := by
  decide +kernel
theorem test_identify : lastReply (after (.identify (tagged .identify [])) chamber) =
    some (.done, [0x43, 0x57, 0x04, 0x80, 1, 4, 0, 16, 64, 0, 2, 2]) := by decide +kernel
theorem test_read_table_branch : lastReply (after (.readTable (tagged .readTable [2, 0, 3, 4]) 2 3 4) chamber) =
    some (.adjusted, [2, 0, 3, 1, 1, 3, 0, 3, 255]) := by decide +kernel
theorem test_write_seat_barred :
    (after (.writeTableSeat (tagged .writeTable ([0, 0, 5] ++ [0x35, 0x40, 0, 0, 0, 0, 7, 8, 0, 0, 0, 0])) 5
      [0x35, 0x40, 0, 0, 0, 0, 7, 8, 0, 0, 0, 0]) chamber).list.entries = [] := by decide +kernel
theorem test_write_class :
    (after (.writeTableClass (tagged .writeTable ([1, 0, 0] ++ [0xFF, 0xFF, 0x02, 0, 0, 0x30, 9, 0, 0, 60])) 0
      [0xFF, 0xFF, 0x02, 0, 0, 0x30, 9, 0, 0, 60]) chamber).classes.delegate =
    ⟨⟨9, 9, 5, 9⟩, ⟨0, 2, 0, 0⟩, ⟨0, 0, 3, 0⟩, .overrun, false, 60⟩ := by decide +kernel
theorem test_write_branch_overlap :
    lastReply (after (.writeTableBranch (tagged .writeTable ([2, 0, 1] ++ [1, 0, 255, 1, 0])) 1 [1, 0, 255, 1, 0])
      chamber) = some (.refusedRange, []) := by decide +kernel
theorem test_write_floor_clamps :
    (after (.writeTableFloor (tagged .writeTable
      ([3, 0, 0] ++ [0, 0, 9, 10, 20, 0, 0, 200, 0, 0, 0, 0, 0, 0, 0, 0, 0])) 0
      [0, 0, 9, 10, 20, 0, 0, 200, 0, 0, 0, 0, 0, 0, 0, 0, 0]) chamber).floorCfg =
    { mode := .auto, limit := 1, gate := 3, high := 10, low := 9, presenceMs := 200, silenceS := 120, onThreshold := 1
      offThreshold := 0, openAtStart := false, showBudget := false, relist := false, enables := 0 } := by decide +kernel
theorem test_flags_test : lastReply (after (.seatFlagsTest (tagged .seatFlags [0, 5, 2, 2, 0]) 5 2 2) chamber) =
    some (.done, [2, 1, 1]) := by decide +kernel
theorem test_flags_set_bars :
    (after (.seatFlagsSet (tagged .seatFlags [0, 7, 1, 0, 1]) 7 1 0) chamber).uplink.notices.map Notice.reason
      = [some .barred, some .granted, none] := by decide +kernel
theorem test_flags_clear :
    ((after (.seatFlagsClear (tagged .seatFlags [0, 7, 1, 2, 2]) 7 1 2) chamber).seat 7).cfg.keyClose = false := by
  decide +kernel
theorem test_flags_toggle :
    ((after (.seatFlagsToggle (tagged .seatFlags [0, 7, 1, 1, 3]) 7 1 1) chamber).seat 7).cfg.exempt = true := by
  decide +kernel
theorem test_read_list : lastReply (after (.readList (tagged .readList [1]) 1) chamber) =
    some (.done, [1, 0, 1, 1] ++ entryBytes entry5) := by decide +kernel
theorem test_read_floor_clears_peak :
    ((after (.readFloor (tagged .readFloor [0]) 0) (chamber.updChan 0 fun k =>
      { k with detector := { k.detector with peak := 9 } })).chan 0).detector.peak = 0 := by decide +kernel
theorem test_read_counters_clears :
    ((after (.readCounters (tagged .readCounters [1]) 1) (after (.seatReport .branchA []) chamber)).port
      .branchA).checkErr = 0 := by decide +kernel
theorem test_store_profile : (after (.storeProfile (tagged .storeProfile [])) chamber).uplink.replies
    = [.profileOp 0x11] := by decide +kernel
theorem test_store_complete :
    (after (.storeComplete .good) (after (.storeProfile (tagged .storeProfile [])) chamber)).profile.status
      = .valid := by decide +kernel
theorem test_recall_profile_refused : lastReply (after (.recallProfile (tagged .recallProfile [])) chamber) =
    some (.refusedState, []) := by decide +kernel
theorem test_recall_complete :
    lastReply (after .recallComplete (after (.recallProfile (tagged .recallProfile [])) closed)) = some (.done, []) := by
  decide +kernel
theorem test_reset : (after (.reset (tagged .reset [])) chamber).startUp.reset = .requested := by decide +kernel
theorem test_open_floor : (after (.openFloor (tagged .openFloor [0]) 0) closed).floor = .opened := by decide +kernel
theorem test_close_floor : (after (.closeFloor (tagged .closeFloor [])) chamber).grantOrder = [] := by decide +kernel
theorem test_suspend : ((after (.suspend (tagged .suspend [])) chamber).chan 0).state = .held := by decide +kernel
theorem test_resume :
    ((after (.resume (tagged .resume [])) (after (.suspend (tagged .suspend [])) chamber)).chan 0).state = .opened := by
  decide +kernel
theorem test_set_mode : (after (.setMode (tagged .setMode [2]) 2) chamber).floorCfg.mode = .directed := by
  decide +kernel
theorem test_set_limit : lastReply (after (.setLimit (tagged .setLimit [0]) 0) chamber) = some (.adjusted, []) := by
  decide +kernel
theorem test_set_gate_keeps_waiting : (after (.setGate (tagged .setGate [2]) 2) chamber).list.entries = [entry5] := by
  decide +kernel
theorem test_grant : lastReply (after (.grant (tagged .grant [0, 5, 0]) 5 0) chamber) = some (.done, [1]) := by
  decide +kernel
theorem test_end_turn : ((after (.endTurn (tagged .endTurn [0, 0, 7]) 0 7) chamber).seat 7).run.floor = .idle := by
  decide +kernel
theorem test_withdraw : ((after (.withdraw (tagged .withdraw [0, 5]) 5) chamber).uplink.notices.map Notice.reason)
    = [some .operator] := by decide +kernel
theorem test_clear_list : (after (.clearList (tagged .clearList [])) chamber).list.entries = [] := by decide +kernel
theorem test_reload_budgets :
    ((after (.reloadBudgets (tagged .reloadBudgets [])) (chamber.updRun 5 fun r => { r with budget := 3 })).seat
      5).run.budget = 1800 := by decide +kernel
theorem test_next : (after (.nextSpeaker (tagged .next [])) chamber).grantOrder = [0, 1] := by decide +kernel
theorem test_unknown_operation :
    lastReply (after (.unknownOperation (mkFrame 0x60 [7, 0x7F])) chamber) = some (.unknown, []) := by decide +kernel
theorem test_step_idles_one_millisecond :
    step chamber = .next (chamber.tick) ∧ chamber.tick.pending = [.secondElapsed 0] := by
  exact ⟨rfl, by decide +kernel⟩
theorem test_no_word_spells_a_command : decodeTableWord 16 0x1234 = none := rfl

/-! ### States and operands that meet the hypotheses of the obligations -/

/-- The management frame of an operation and its fields, undamaged. -/
def sound (o : Op) (fields : List Byte) : Frame := mgmtFrame (tagged o fields) o fields

/-- `Takes` as one evaluation. -/
theorem takes (s : State) (f : Frame)
    (h : (s.uplink.up && s.takesFrame f && decide (s.startUp.reset = .none)) = true) : s.Takes f := by
  simp only [Bool.and_eq_true, decide_eq_true_eq] at h
  exact ⟨h.1.1, h.1.2, h.2⟩

/-- `Hears` as one evaluation. -/
theorem hears (s : State) (b : BranchId) (f : Frame) (n : SeatNo) (r : Report)
    (h : ((s.port b).up && (s.branches.record b).enabled && frameOk f && decide (frameKind f = some kindSeatReport)
      && decide ((payload f).length = 6) && decide (readReport (payload f) = some r) && decide (r.seat = n.val)
      && (s.branches.record b).holds n.val) = true) : s.Hears b f n r := by
  simp only [Bool.and_eq_true, decide_eq_true_eq] at h
  obtain ⟨⟨⟨⟨⟨⟨⟨h1, h2⟩, h3⟩, h4⟩, h5⟩, h6⟩, h7⟩, h8⟩ := h
  exact ⟨h1, h2, h3, h4, h5, h6, h7, h8⟩

/-- `HearsOrdinary` as one evaluation. -/
theorem hearsOrdinary (s : State) (b : BranchId) (f : Frame) (n : SeatNo) (r : Report)
    (h : ((s.port b).up && (s.branches.record b).enabled && frameOk f && decide (frameKind f = some kindSeatReport)
      && decide ((payload f).length = 6) && decide (readReport (payload f) = some r) && decide (r.seat = n.val)
      && (s.branches.record b).holds n.val) = true)
    (g : (decide (s.startUp.state = .ready) && (s.seat n).run.present && !r.attach) = true) :
    s.HearsOrdinary b f n r := by
  simp only [Bool.and_eq_true, decide_eq_true_eq, Bool.not_eq_true'] at g
  exact ⟨hears s b f n r h, g.1.1, g.1.2, g.2⟩

/-- `HearsBlock` as one evaluation. -/
theorem hearsBlock (s : State) (b : BranchId) (f : Frame) (n : SeatNo) (x : Block)
    (h : ((s.port b).up && (s.branches.record b).enabled && frameOk f && decide (frameKind f = some kindSeatAudio)
      && decide ((payload f).length = 99) && decide (readBlock (payload f) = some x) && decide (x.seat = n.val)
      && (s.branches.record b).holds n.val) = true) : s.HearsBlock b f n x := by
  simp only [Bool.and_eq_true, decide_eq_true_eq] at h
  obtain ⟨⟨⟨⟨⟨⟨⟨h1, h2⟩, h3⟩, h4⟩, h5⟩, h6⟩, h7⟩, h8⟩ := h
  exact ⟨h1, h2, h3, h4, h5, h6, h7, h8⟩

/-- Every channel busy with the same turn, and the grant order in channel order. -/
def full (k : Channel) : State := (quiet.withChannels (everyChannel k)).withGrantOrder allChannels

/-- Restraint exactly at the high mark, every other mark and limit at an end of its range. -/
def brim : State :=
  (busy { defaultFloorConfig with limit := 16, high := 1, low := 0, presenceMs := 5000, silenceS := 120
                                  onThreshold := 32767, offThreshold := 32766 }).withList ⟨[entry5], true, 1⟩

/-- OVERRIDE at an open limit of 1. -/
def override : State := busy { defaultFloorConfig with mode := .override, limit := 1 }

theorem chamber_floorOk : chamber.FloorOk := busy_floorOk _

theorem closed_floorOk : closed.FloorOk :=
  still_floorOk closed quiet_seat quiet_refusalOf quiet_chan rfl rfl rfl fun _ => rfl

theorem recalling_floorOk : recalling.FloorOk :=
  still_floorOk recalling quiet_seat quiet_refusalOf quiet_chan rfl rfl rfl fun _ => rfl

theorem rollCall_floorOk : rollCall.FloorOk :=
  still_floorOk rollCall quiet_seat quiet_refusalOf quiet_chan rfl rfl rfl fun _ => rfl

theorem witness_idle : chamber.pending = [] ∧ chamber.startUp.reset ≠ .due := ⟨rfl, by decide⟩

theorem witness_idle_reset_due :
    (chamber.withStartUp ⟨.ready, 0, .power, .due, false⟩).pending = []
      ∧ (chamber.withStartUp ⟨.ready, 0, .power, .due, false⟩).startUp.reset = .due := ⟨rfl, rfl⟩

theorem witness_restraint :
    brim.ListOk ∧ brim.FloorCfgOk ∧ brim.RestraintOk ∧ ∃ t, exec (.withdraw (tagged .withdraw [0, 5]) 5) brim = .next t := by
  refine ⟨?_, ?_, ?_, _, rfl⟩
  · simp [State.ListOk, brim]
  · simp [State.FloorCfgOk, brim, busy]
  · simp [State.RestraintOk, brim, busy, State.fill]

theorem defaultClasses_valid (c : SeatClass) : (defaultClasses.record c).Valid := by
  cases c <;> simp [ClassTable.record, defaultClasses, ClassRecord.Valid, Mmss.Valid, Mmss.seconds, mmss, zeroTime, maxCount]

theorem defaultBranches_valid : defaultBranches.Valid := by
  refine ⟨fun b => ?_, fun a b => ?_⟩
  · cases b <;> decide
  · cases a <;> cases b <;> decide

theorem witness_timers_and_counters :
    chamber.ClassesOk ∧ chamber.TimersOk ∧ chamber.CountsOk ∧ chamber.DetectorsOk
      ∧ ∃ t, exec (.secondElapsed 0) chamber = .next t := by
  refine ⟨defaultClasses_valid, fun c => ?_, ⟨?_, fun n => ?_, fun c => (defaultClasses_valid c).2.2.2.2⟩, fun c => ?_, _,
    rfl⟩
  · rw [chamber, busy_chan]
    split_ifs
    · simp [turn7, Mmss.Valid, maxCount, Timer.Running, Mmss.seconds]
    · simp [resetChannel, resetTimer, zeroTime, Mmss.Valid, maxCount, Channel.busy]
  · decide +kernel
  · rw [chamber, busy_seat]
    split_ifs <;> simp [waiter, speaker, chairman, heard, resetRun, maxCount]
  · rw [chamber, busy_chan]
    split_ifs <;> decide

/-- Branch A with two seats to command, two programme frames waiting and one being sent. -/
def loaded : State :=
  (chamber.updPort .branchA fun p => { p with cmdSet := [5, 255], programme := [[], []], tx := some [] }).withUplink
    { chamber.uplink with replies := List.replicate 16 .unanswered }

theorem witness_ports_and_queues :
    loaded.PortsOk ∧ loaded.UplinkOk ∧ loaded.ProfilePlaceOk ∧ ∃ t, exec .uplinkDown loaded = .next t := by
  refine ⟨fun b => ?_, ?_, ?_, _, rfl⟩
  · cases b <;> decide +kernel
  · unfold State.UplinkOk; decide +kernel
  · unfold State.ProfilePlaceOk; decide +kernel

theorem witness_floor_coherent : chamber.FloorOk ∧ ∃ t, exec (.presenceTimeout 7) chamber = .next t :=
  ⟨chamber_floorOk, _, rfl⟩

theorem witness_ranges_and_chairs :
    chamber.branches.Valid ∧ chairCount chamber ≤ 8 ∧ chamber.profile.recalled.branches.Valid
      ∧ (chamber.profile.recalled.seats.toList.filter fun c => c.cls == .chair).length ≤ 8
      ∧ ∃ t, exec .recallComplete chamber = .next t := by
  have h : chamber.profile.recalled = defaultConfiguration := by
    show (if blankProfile.good then _ else _) = _
    rw [if_neg (by decide)]
  refine ⟨defaultBranches_valid, by unfold chairCount; decide +kernel, ?_, ?_, _, rfl⟩
  · rw [h]; exact defaultBranches_valid
  · rw [h]; decide +kernel

theorem witness_only_by :
    Instr.movesFloor (.setMode anyHead 2) = false ∧ Instr.configures (.suspend anyHead) = false
      ∧ Instr.raisesBudget 5 (.writeTableSeat anyHead 6 []) = false
      ∧ (∃ t, exec (.setMode anyHead 2) chamber = .next t) ∧ (∃ t, exec (.suspend anyHead) chamber = .next t)
      ∧ ∃ t, exec (.writeTableSeat anyHead 6 []) chamber = .next t :=
  ⟨rfl, rfl, by decide, ⟨_, rfl⟩, ⟨_, rfl⟩, _, rfl⟩

theorem witness_refused_frame :
    Instr.managementFrame (.resume (tagged .resume [])) = some (sound .resume []) ∧ chamber.Takes (sound .resume [])
      ∧ ∃ t, exec (.resume (tagged .resume [])) chamber = .next t
        ∧ t.uplink.replies = chamber.uplink.replies ++ [.built ⟨0x11, .refusedState, [], false⟩] :=
  ⟨rfl, takes _ _ (by decide +kernel), _, rfl, by decide +kernel⟩

theorem witness_profile_words :
    (∀ c : SeatClass, (defaultConfiguration.classes.record c).Valid) ∧ defaultConfiguration.branches.Valid
      ∧ 1 ≤ defaultConfiguration.floorCfg.limit ∧ defaultConfiguration.floorCfg.limit ≤ 16
      ∧ 1 ≤ defaultConfiguration.floorCfg.high ∧ defaultConfiguration.floorCfg.high ≤ 64
      ∧ defaultConfiguration.floorCfg.low < defaultConfiguration.floorCfg.high
      ∧ 200 ≤ defaultConfiguration.floorCfg.presenceMs ∧ defaultConfiguration.floorCfg.presenceMs ≤ 5000
      ∧ defaultConfiguration.floorCfg.presenceMs % 100 = 0 ∧ defaultConfiguration.floorCfg.silenceS ≤ 120
      ∧ 1 ≤ defaultConfiguration.floorCfg.onThreshold ∧ defaultConfiguration.floorCfg.onThreshold ≤ 32767
      ∧ defaultConfiguration.floorCfg.offThreshold < defaultConfiguration.floorCfg.onThreshold :=
  ⟨defaultClasses_valid, defaultBranches_valid, by decide, by decide, by decide, by decide, by decide, by decide,
    by decide, by decide, by decide, by decide, by decide, by decide⟩

theorem witness_layouts :
    (chamber.seatShow 7).time.Valid ∧ (defaultClasses.record .chair).Valid ∧ turn7.timer.value.Valid ∧ chamber.HoldersOk
      ∧ chairCount chamber ≤ 8 ∧ chamber.GrantOrderOk :=
  ⟨by unfold Mmss.Valid; decide +kernel, defaultClasses_valid _, by unfold Mmss.Valid; decide +kernel,
    chamber_floorOk.2.2.2.2.2.2.1, by unfold chairCount; decide +kernel, chamber_floorOk.2.2.2.2.1⟩

theorem witness_built_frames : (List.replicate 255 (0xFF : Byte)).length ≤ 255 := by simp

theorem witness_rows_and_frames :
    Instr.managementFrame (.setGate anyHead 3) = some (mgmtFrame anyHead .setGate [3])
      ∧ Instr.managementFrame (.programme [0x60]) = some [0x60] := ⟨rfl, by decide⟩

/-- `quiet` with as many notices waiting as given. -/
def noticed (k : Nat) : State :=
  quiet.withUplink { quiet.uplink with notices := List.replicate k ⟨.link, false, none, none, none, 0, .opened⟩ }

theorem witness_notices :
    (quiet.withFloorCfg { defaultFloorConfig with enables := 0 }).floorCfg.enables.getLsbD (NoticeKind.code .link - 1)
        = false
      ∧ (noticed 31).floorCfg.enables.getLsbD (NoticeKind.code .restraint - 1) = true ∧ (noticed 31).uplink.up = true
      ∧ (noticed 31).uplink.notices.length < 32 ∧ 32 ≤ (noticed 32).uplink.notices.length
      ∧ State.reset.uplink.up = false := by decide +kernel

theorem witness_places :
    [entry5].Pairwise (fun x y => x.effective ≤ y.effective) ∧ (6 : SeatNo) ∉ [entry5].map Entry.seat := by
  decide

theorem witness_insertions_and_removals :
    chamber.ListOk ∧ (6 : SeatNo) ∉ chamber.list.entries.map Entry.seat
      ∧ chamber.list.entries = [] ++ entry5 :: [] ∧ entry5.seat = 5 := ⟨chamber_floorOk.1, by decide, rfl, rfl⟩

/-- The seats 100 on, one entry each, as many as given. -/
def listed (k : Nat) : State :=
  chamber.withList ⟨(List.range k).map fun i => { entry5 with seat := Fin.ofNat 1024 (100 + i) }, false, 0⟩

theorem witness_relisting :
    (listed 63).ListOk ∧ (listed 63).list.entries.length < 64 ∧ (7 : SeatNo) ∉ (listed 63).list.entries.map Entry.seat
      ∧ (listed 64).ListOk ∧ 64 ≤ (listed 64).list.entries.length := by
  unfold State.ListOk
  decide +kernel

theorem witness_grant :
    (quiet.seat 5).run.present = false ∧ (chamber.seat 7).run.floor = .speaking
      ∧ (∀ c : ChanNo, ((full turn7).chan c).state ≠ .free) ∧ (chamber.seat 5).run.present = true
      ∧ (chamber.seat 5).run.floor ≠ .speaking ∧ (chamber.chan 1).state = .free
      ∧ ∀ c : ChanNo, c < 1 → (chamber.chan c).state ≠ .free := by decide +kernel

theorem witness_close :
    (chamber.chan 1).state = .free ∧ (chamber.chan 0).seat ≠ some 5 ∧ (chamber.chan 0).state ≠ .free
      ∧ (chamber.chan 0).seat = some 7 := by decide +kernel

theorem witness_holders : chamber.FloorOk := chamber_floorOk

theorem witness_fill_rule :
    closed.FloorOk ∧ closed.floor ≠ .opened ∧ override.FloorOk ∧ override.floor = .opened
      ∧ override.floorCfg.mode ≠ .directed ∧ override.floorCfg.limit ≤ override.nonChairCount
      ∧ chamber.FloorOk ∧ chamber.floor = .opened ∧ chamber.floorCfg.mode ≠ .directed
      ∧ chamber.list.entries = [] ++ entry5 :: [] ∧ entry5.effective ≤ chamber.floorCfg.gate
      ∧ entry5.exhausted = false ∧ chamber.nonChairCount < chamber.floorCfg.limit
      ∧ ∃ c : ChanNo, (chamber.chan c).state = .free := by
  refine ⟨closed_floorOk, by decide, busy_floorOk _, rfl, by decide, by decide +kernel, chamber_floorOk, rfl, by decide,
    rfl, by decide, rfl, by decide +kernel, 1, by decide +kernel⟩

theorem witness_displacement :
    override.FloorOk ∧ entry5 ∈ override.list.entries ∧ chamber.FloorOk ∧ entry5 ∈ chamber.list.entries
      ∧ chamber.floorCfg.mode ≠ .override ∧ override.floor = .opened ∧ override.floorCfg.mode = .override
      ∧ override.firstEligible = some entry5 ∧ override.floorCfg.limit ≤ override.nonChairCount
      ∧ override.grantOrder = [] ++ 0 :: [] ∧ (override.chan 0).kind ≠ some .chair
      ∧ (override.chan 0).seat = some 7 ∧ (override.chan 0).level = some 3 ∧ entry5.effective ≤ 3 := by
  refine ⟨busy_floorOk _, by decide, chamber_floorOk, by decide, by decide, rfl, rfl, by decide +kernel,
    by decide +kernel, rfl, by decide +kernel, by decide +kernel, by decide +kernel, by decide⟩

theorem witness_cascade :
    chamber.FloorOk ∧ ([5, 7] : List SeatNo).Pairwise (· < ·) ∧ chamber.uplink.up = true
      ∧ chamber.floorCfg.enables = BitVec.allOnes 13 ∧ (chamber.cascade [5, 7]).uplink.notices.length < 32
      ∧ (chamber.seat 5).run.floor = .waiting ∧ (chamber.seat 7).run.floor = .speaking :=
  ⟨chamber_floorOk, by decide, rfl, rfl, by decide +kernel, by decide +kernel, by decide +kernel⟩

theorem witness_chair_grant :
    (∃ c : ChanNo, (chamber.chan c).state = .free)
      ∧ (∀ c : ChanNo, ((full { turn7 with kind := some .chair }).chan c).state ≠ .free
        ∧ ((full { turn7 with kind := some .chair }).chan c).kind = some .chair)
      ∧ (∀ c : ChanNo, ((full turn7).chan c).state ≠ .free) ∧ (full turn7).grantOrder = [] ++ 0 :: allChannels.tail
      ∧ ((full turn7).chan 0).kind ≠ some .chair ∧ ((full turn7).chan 0).seat = some 7
      ∧ ((full turn7).chan 0).level = some 3 := by decide +kernel

theorem witness_reload : chamber.Takes (sound .reloadBudgets []) ∧ chamber.startUp.state = .ready :=
  ⟨takes _ _ (by decide +kernel), rfl⟩

theorem witness_allowance :
    ({ defaultSeatConfig with cls := .observer } : SeatConfig).cls = .observer
      ∧ (defaultClasses.record .chair).speakLimit.seconds = 0 ∧ defaultSeatConfig.cls ≠ .observer
      ∧ 1 ≤ (defaultClasses.record .delegate).orderLimit.seconds := by decide

theorem witness_displayed_time :
    Mmss.Valid ⟨0, 0, 0, 1⟩ ∧ 1 ≤ Mmss.seconds ⟨0, 0, 0, 1⟩ ∧ Mmss.Valid ⟨9, 9, 5, 8⟩
      ∧ Mmss.seconds ⟨9, 9, 5, 8⟩ < 5999 ∧ Mmss.Valid ⟨9, 9, 5, 9⟩ ∧ Mmss.seconds ⟨9, 9, 5, 9⟩ = 5999 := by
  simp [Mmss.Valid, Mmss.seconds]

theorem witness_blocks : ([0x8000] : List Half) ≠ [] := by decide

theorem witness_port_checks :
    (chamber.port .branchB).up = false ∧ (chamber.port .branchA).up = true
      ∧ (chamber.branches.record .branchA).enabled = true ∧ ([] : Frame).length < 4
      ∧ frameOk (mkFrame 0x41 []) = true ∧ (mkFrame 0x41 []).head? ≠ some 0x21 ∧ (mkFrame 0x41 []).head? ≠ some 0x30
      ∧ frameOk (reportFrame 256 0 0 0 0) = true ∧ (reportFrame 256 0 0 0 0).head? = some 0x21
      ∧ (reportFrame 256 0 0 0 0).getD 1 0 = 6 ∧ (chamber.branches.record .branchA).last < 256
      ∧ ((reportFrame 256 0 0 0 0).getD 2 0 ++ (reportFrame 256 0 0 0 0).getD 3 0).toNat = 256 := by decide +kernel

theorem witness_report_of_absent_seat :
    chamber.Hears .branchA (pressFrame 255 0 0 0 false) 255 (pressed 255 0 0 0 false)
      ∧ chamber.startUp.state ≠ .recalling ∧ (chamber.seat 255).run.present = false :=
  ⟨hears _ _ _ _ _ (by decide +kernel), by decide, by decide +kernel⟩

theorem witness_report_attaching :
    chamber.Hears .branchA (reportFrame 7 0x83 0 0 0) 7 { pressed 7 0 0 0 false with attach := true } :=
  hears _ _ _ _ _ (by decide +kernel)

theorem witness_report_recalling :
    recalling.Hears .branchA (pressFrame 0 0 0 0 false) 0 (pressed 0 0 0 0 false) ∧ recalling.startUp.state = .recalling :=
  ⟨hears _ _ _ _ _ (by decide +kernel), rfl⟩

theorem witness_report_in_roll_call :
    (rollCall.setSeat 6 ⟨defaultSeatConfig, heard⟩).Hears .branchA (pressFrame 6 1 0 0 false) 6 (pressed 6 1 0 0 false)
      ∧ ((rollCall.setSeat 6 ⟨defaultSeatConfig, heard⟩).seat 6).run.present = true :=
  ⟨hears _ _ _ _ _ (by decide +kernel), by decide +kernel⟩

/-- A report with KEY1 and KEY2 pressed, one with a cancelled KEY1 beside a KEY2 press, and one of a chair with KEY1, the
KEY2 level and KEY3. -/
theorem witness_report_with_several_keys :
    chamber.HearsOrdinary .branchA (pressFrame 5 1 1 0 false) 5 (pressed 5 1 1 0 false)
      ∧ chamber.HearsOrdinary .branchA (pressFrame 5 2 1 0 false) 5 (pressed 5 2 1 0 false)
      ∧ chamber.HearsOrdinary .branchA (pressFrame 9 1 1 1 true) 9 (pressed 9 1 1 1 true) :=
  ⟨hearsOrdinary _ _ _ _ _ (by decide +kernel) (by decide +kernel),
    hearsOrdinary _ _ _ _ _ (by decide +kernel) (by decide +kernel),
    hearsOrdinary _ _ _ _ _ (by decide +kernel) (by decide +kernel)⟩

theorem witness_report_without_press :
    chamber.Hears .branchA (pressFrame 5 2 0 0 false) 5 (pressed 5 2 0 0 false) ∧ chamber.startUp.state = .ready
      ∧ (chamber.seat 5).run.present = true ∧ (chamber.seat 5).cfg.cls ≠ .chair
      ∧ ((2 : BitVec 4) - (chamber.seat 5).run.ref1).getLsbD 0 = false
      ∧ ((0 : BitVec 4) - (chamber.seat 5).run.ref2).getLsbD 0 = false :=
  ⟨hears _ _ _ _ _ (by decide +kernel), rfl, by decide +kernel, by decide +kernel, by decide +kernel, by decide +kernel⟩

theorem witness_admission :
    closed.floor = .closed ∧ chamber.floor ≠ .closed
      ∧ ((withSix { defaultSeatConfig with cls := .observer }).seat 6).cfg.cls = .observer
      ∧ ((withSix { defaultSeatConfig with barred := true }).seat 6).cfg.barred = true
      ∧ 64 ≤ (chamber.withList ⟨List.replicate 64 entry5, true, 0⟩).list.entries.length
      ∧ (chamber.withList ⟨List.replicate 63 entry5, true, 0⟩).list.entries.length < 64
      ∧ (chamber.withList ⟨List.replicate 63 entry5, true, 0⟩).list.restraint = true
      ∧ (chamber.seat 6).cfg.speak = 3 ∧ (chamber.seat 6).cfg.order = some 2 ∧ (2 : Level) ≠ 3 := by decide +kernel

theorem witness_key1_idle :
    (withSix defaultSeatConfig).HearsOrdinary .branchA (pressFrame 6 1 0 0 false) 6 (pressed 6 1 0 0 false)
      ∧ ((withSix defaultSeatConfig).seat 6).run.floor = .idle ∧ ((withSix defaultSeatConfig).seat 6).cfg.cls ≠ .chair
      ∧ (withSix defaultSeatConfig).admissionRefusal 6 (max 3 3) = none
      ∧ ((1 : BitVec 4) - ((withSix defaultSeatConfig).seat 6).run.ref1).getLsbD 0 = true
      ∧ (withSix { defaultSeatConfig with barred := true }).HearsOrdinary .branchA (pressFrame 6 1 0 0 false) 6
        (pressed 6 1 0 0 false)
      ∧ (withSix { defaultSeatConfig with barred := true }).admissionRefusal 6 (max 3 3) = some .barred :=
  ⟨hearsOrdinary _ _ _ _ _ (by decide +kernel) (by decide +kernel), by decide +kernel, by decide +kernel,
    by decide +kernel, by decide +kernel, hearsOrdinary _ _ _ _ _ (by decide +kernel) (by decide +kernel),
    by decide +kernel⟩

theorem witness_key1_as_key2 :
    (withSix { defaultSeatConfig with order := none }).HearsOrdinary .branchA (pressFrame 6 0 15 0 false) 6
        (pressed 6 0 15 0 false)
      ∧ ((withSix { defaultSeatConfig with order := none }).seat 6).cfg.order = none
      ∧ ((15 : BitVec 4) - ((withSix { defaultSeatConfig with order := none }).seat 6).run.ref2).getLsbD 0 = true :=
  ⟨hearsOrdinary _ _ _ _ _ (by decide +kernel) (by decide +kernel), by decide +kernel, by decide +kernel⟩

theorem witness_key1_chair :
    chamber.HearsOrdinary .branchA (pressFrame 9 1 0 0 false) 9 (pressed 9 1 0 0 false)
      ∧ (chamber.seat 9).cfg.cls = .chair ∧ (chamber.seat 9).run.floor = .idle
      ∧ (pressed 9 1 0 0 false).down2 = decide ((9 : SeatNo) ∈ chamber.holders) :=
  ⟨hearsOrdinary _ _ _ _ _ (by decide +kernel) (by decide +kernel), by decide +kernel, by decide +kernel, by decide⟩

theorem witness_key1_on_the_floor :
    chamber.HearsOrdinary .branchA (pressFrame 5 1 0 0 false) 5 (pressed 5 1 0 0 false)
      ∧ (chamber.seat 5).run.floor = .waiting
      ∧ chamber.HearsOrdinary .branchA (pressFrame 7 1 0 0 false) 7 (pressed 7 1 0 0 false)
      ∧ (chamber.seat 7).run.floor = .speaking ∧ (chamber.seat 7).run.chan = some 0 :=
  ⟨hearsOrdinary _ _ _ _ _ (by decide +kernel) (by decide +kernel), by decide +kernel,
    hearsOrdinary _ _ _ _ _ (by decide +kernel) (by decide +kernel), by decide +kernel, by decide +kernel⟩

theorem witness_key2 :
    (withSix defaultSeatConfig).HearsOrdinary .branchA (pressFrame 6 0 1 0 false) 6 (pressed 6 0 1 0 false)
      ∧ (withSix defaultSeatConfig).ListOk ∧ ((withSix defaultSeatConfig).seat 6).cfg.order = some 2
      ∧ ((withSix defaultSeatConfig).seat 6).run.floor = .idle
      ∧ (withSix defaultSeatConfig).admissionRefusal 6 (max 3 2) = none
      ∧ ((1 : BitVec 4) - ((withSix defaultSeatConfig).seat 6).run.ref2).getLsbD 0 = true
      ∧ (withSix { defaultSeatConfig with barred := true }).HearsOrdinary .branchA (pressFrame 6 0 1 0 false) 6
        (pressed 6 0 1 0 false)
      ∧ (withSix { defaultSeatConfig with barred := true }).admissionRefusal 6 (max 3 2) = some .barred :=
  ⟨hearsOrdinary _ _ _ _ _ (by decide +kernel) (by decide +kernel), chamber_floorOk.1, by decide +kernel,
    by decide +kernel, by decide +kernel, by decide +kernel,
    hearsOrdinary _ _ _ _ _ (by decide +kernel) (by decide +kernel), by decide +kernel⟩

/-- `chamber` with the seat that waits BARRED, or with its entry of kind ORDER. -/
def waiting (barred : Bool) (k : RequestKind) : State :=
  (chamber.setSeat 5 ⟨{ defaultSeatConfig with barred := barred }, waiter.run⟩).withList
    ⟨[{ entry5 with kind := k }], false, 1⟩

theorem witness_key2_waiting :
    (waiting false .order).HearsOrdinary .branchA (pressFrame 5 0 1 0 false) 5 (pressed 5 0 1 0 false)
      ∧ (waiting true .speak).HearsOrdinary .branchA (pressFrame 5 0 1 0 false) 5 (pressed 5 0 1 0 false)
      ∧ (waiting false .speak).HearsOrdinary .branchA (pressFrame 5 0 1 0 false) 5 (pressed 5 0 1 0 false)
      ∧ { entry5 with kind := .order } ∈ (waiting false .order).list.entries
      ∧ { entry5 with kind := .speak } ∈ (waiting true .speak).list.entries
      ∧ ((waiting true .speak).seat 5).cfg.barred = true ∧ ((waiting false .speak).seat 5).cfg.barred = false
      ∧ ((waiting false .speak).seat 5).run.floor = .waiting
      ∧ chamber.HearsOrdinary .branchA (pressFrame 7 0 1 0 false) 7 (pressed 7 0 1 0 false) :=
  ⟨hearsOrdinary _ _ _ _ _ (by decide +kernel) (by decide +kernel),
    hearsOrdinary _ _ _ _ _ (by decide +kernel) (by decide +kernel),
    hearsOrdinary _ _ _ _ _ (by decide +kernel) (by decide +kernel), by decide, by decide, by decide +kernel,
    by decide +kernel, by decide +kernel, hearsOrdinary _ _ _ _ _ (by decide +kernel) (by decide +kernel)⟩

theorem witness_chair_keys :
    chamber.HearsOrdinary .branchA (pressFrame 9 0 1 0 true) 9 (pressed 9 0 1 0 true) ∧ (9 : SeatNo) ∉ chamber.holders
      ∧ (chamber.seat 9).cfg.cls = .chair ∧ (chamber.seat 9).cfg.barred = false
      ∧ (chamber.setSeat 9 { chairman with cfg.barred := true }).HearsOrdinary .branchA (pressFrame 9 0 1 0 true) 9
        (pressed 9 0 1 0 true)
      ∧ ((chamber.setSeat 9 { chairman with cfg.barred := true }).seat 9).cfg.barred = true
      ∧ (chamber.withHolders [9]).HearsOrdinary .branchA (pressFrame 9 0 0 0 true) 9 (pressed 9 0 0 0 true)
      ∧ (9 : SeatNo) ∈ (chamber.withHolders [9]).holders
      ∧ (chamber.withHolders [9]).HearsOrdinary .branchA (pressFrame 9 0 0 0 false) 9 (pressed 9 0 0 0 false)
      ∧ chamber.HearsOrdinary .branchA (pressFrame 9 0 0 1 false) 9 (pressed 9 0 0 1 false)
      ∧ ((1 : BitVec 4) - (chamber.seat 9).run.ref3).getLsbD 0 = true :=
  ⟨hearsOrdinary _ _ _ _ _ (by decide +kernel) (by decide +kernel), by decide, by decide +kernel, by decide +kernel,
    hearsOrdinary _ _ _ _ _ (by decide +kernel) (by decide +kernel), by decide +kernel,
    hearsOrdinary _ _ _ _ _ (by decide +kernel) (by decide +kernel), by decide,
    hearsOrdinary _ _ _ _ _ (by decide +kernel) (by decide +kernel),
    hearsOrdinary _ _ _ _ _ (by decide +kernel) (by decide +kernel), by decide +kernel⟩

theorem witness_audio :
    chamber.HearsBlock .branchA (blockFrame 7 16 0) 7 ⟨7, 16, List.replicate 48 0⟩
      ∧ chamber.HearsBlock .branchA (blockFrame 5 0 0) 5 ⟨5, 0, List.replicate 48 0⟩
      ∧ (chamber.chan 0).seat ≠ some 5
      ∧ chamber.HearsBlock .branchA (blockFrame 7 0 1) 7 ⟨7, 0, List.replicate 48 1⟩
      ∧ (chamber.chan 0).seat = some 7 ∧ (chamber.chan 0).state = .opened
      ∧ (chamber.setChan 0 { turn7 with state := .held, priority := true }).HearsBlock .branchA (blockFrame 7 0 1) 7
        ⟨7, 0, List.replicate 48 1⟩
      ∧ ((chamber.setChan 0 { turn7 with state := .held, priority := true }).chan 0).state = .held :=
  ⟨hearsBlock _ _ _ _ _ (by decide +kernel), hearsBlock _ _ _ _ _ (by decide +kernel), by decide +kernel,
    hearsBlock _ _ _ _ _ (by decide +kernel), by decide +kernel, by decide +kernel,
    hearsBlock _ _ _ _ _ (by decide +kernel), by decide +kernel⟩

theorem witness_programme :
    chamber.uplink.up = true ∧ frameKind (mkFrame 0x50 []) = some 0x50 ∧ frameOk (mkFrame 0x50 []) = true
      ∧ State.reset.uplink.up = false ∧ frameKind [0x50] = some 0x50 ∧ frameOk [0x50] = false
      ∧ frameKind [0x51] ≠ some 0x50 ∧ frameKind [0x51] ≠ some 0x60 := by decide +kernel

/-- `chamber` with the RESET reply waiting. -/
def resetting : State := after (.reset (tagged .reset [])) chamber

theorem witness_links :
    (chamber.port .branchB).up = false ∧ (chamber.port .branchA).up = true ∧ State.reset.uplink.up = false
      ∧ chamber.uplink.up = true
      ∧ ReplyPlace.built ⟨0x11, .done, [], true⟩ ∈ resetting.uplink.replies ∧ resetting.uplink.up = true
      ∧ (after .replyTransmit resetting).uplink.tx.map UplinkTx.resets = some true
      ∧ chamber.uplink.replies = [] ∧ chamber.uplink.tx = none := by decide +kernel

theorem witness_branch_transmitter :
    ((chamber.updPort .branchA fun p => { p with programme := [[]], cmdSet := [5] }).port .branchA).up = true
      ∧ ((chamber.updPort .branchA fun p => { p with programme := [[]], cmdSet := [5] }).port .branchA).tx = none
      ∧ ((chamber.updPort .branchA fun p => { p with programme := [[]], cmdSet := [5] }).port .branchA).programme
        = [] :: []
      ∧ ((chamber.updPort .branchA fun p => { p with cmdSet := [5] }).port .branchA).programme = []
      ∧ ((chamber.updPort .branchA fun p => { p with cmdSet := [5] }).port .branchA).cmdSet = 5 :: []
      ∧ (chamber.port .branchB).up = false ∧ (loaded.port .branchA).tx ≠ none := by decide +kernel

/-- `quiet` with one of each kind of frame for the uplink, or fewer. -/
def outgoing (audio : List AudioFrame) (replies : List ReplyPlace) : State :=
  quiet.withUplink { (noticed 1).uplink with audio := audio, replies := replies }

theorem witness_uplink_transmitter :
    (outgoing [⟨0, 7, false, []⟩] []).uplink.up = true ∧ (outgoing [⟨0, 7, false, []⟩] []).uplink.tx = none
      ∧ (outgoing [⟨0, 7, false, []⟩] []).startUp.reset ≠ .due
      ∧ (outgoing [⟨0, 7, false, []⟩] []).uplink.audio = ⟨0, 7, false, []⟩ :: []
      ∧ (outgoing [] [.built ⟨1, .done, [], false⟩]).uplink.replies = .built ⟨1, .done, [], false⟩ :: []
      ∧ (outgoing [] [.profileOp 1]).uplink.notices = ⟨.link, false, none, none, none, 0, .opened⟩ :: []
      ∧ (outgoing [] [.profileOp 1]).uplink.replies.head? = some (.profileOp 1)
      ∧ ((after .noticeTransmit (outgoing [] [])).uplink.tx.map UplinkTx.resets) = some false := by decide +kernel

theorem witness_seat_command :
    (chamber.seat 7).run.floor = .speaking ∧ (chamber.seat 7).run.chan = some 0
      ∧ (chamber.seat 5).run.floor ≠ .speaking := by decide +kernel

theorem witness_timed_events :
    (chamber.seat 5).run.present = true ∧ (chamber.seat 6).run.present = false
      ∧ (later 1000).floorCfg.presenceMs = (later 1000).now - ((later 1000).seat 5).run.lastHeard
      ∧ (later 999).now - ((later 999).seat 5).run.lastHeard < (later 999).floorCfg.presenceMs
      ∧ (later 5000).now - ((later 5000).seat 5).run.lastCommand = 5000
      ∧ (later 4999).now - ((later 4999).seat 5).run.lastCommand < 5000
      ∧ ((later 2000).setRefusal 6 (some 0)).refusalOf 6 = some 0 ∧ (later 2000).now = 0 + 2000
      ∧ ((later 2000).setRefusal 6 (some 1)).refusalOf 6 = some 1 ∧ (later 2000).now < 1 + 2000
      ∧ chamber.refusalOf 6 = none := by decide +kernel

theorem witness_press_before_timeout :
    (later 1000).HearsOrdinary .branchA (pressFrame 5 1 0 0 false) 5 (pressed 5 1 0 0 false) ∧ (later 1000).now ≤ 2000
      ∧ (later 1000).floorCfg.presenceMs = 2000 - (later 1000).now
      ∧ 1999 - (later 1000).now < (later 1000).floorCfg.presenceMs :=
  ⟨hearsOrdinary _ _ _ _ _ (by decide +kernel) (by decide +kernel), by decide +kernel, by decide +kernel,
    by decide +kernel⟩

/-- `chamber` with seat 7 of another class and its timer as given. -/
def running (x : SeatClass) (t : Timer) : State :=
  (chamber.setSeat 7 ⟨{ defaultSeatConfig with cls := x }, speaker.run⟩).setChan 0 { turn7 with timer := t }

/-- A countdown in its last second. -/
def lastSecond : Timer := ⟨.countdown, ⟨0, 0, 0, 1⟩, 1, 0, 999, true⟩

theorem witness_elapsed_second :
    (chamber.chan 0).seat = some 7 ∧ (chamber.chan 0).kind = some .speak ∧ (chamber.chan 0).state = .opened
      ∧ (chamber.chan 0).timer.phase = 999 ∧ (chamber.chan 0).timer.mode = .countdown ∧ (chamber.chan 0).timer.value.pred ≠ ⟨0, 0, 0, 0⟩
      ∧ ((running .delegate lastSecond).chan 0).timer.value.pred = ⟨0, 0, 0, 0⟩
      ∧ (defaultClasses.record .delegate).expiry = .cut ∧ ((running .official lastSecond).seat 7).cfg.cls = .official
      ∧ (defaultClasses.record .official).expiry = .overrun
      ∧ ((running .delegate { resetTimer with phase := 999 }).chan 0).timer.mode ≠ .countdown
      ∧ ((running .delegate { resetTimer with phase := 999 }).chan 0).state = .opened
      ∧ ((running .delegate { resetTimer with phase := 998 }).chan 0).timer.phase < 999
      ∧ ((chamber.setChan 0 { turn7 with state := .held, priority := true }).chan 0).state ≠ .opened := by
  decide +kernel

theorem witness_resets :
    (chamber.withStartUp ⟨.ready, 0, .power, .due, false⟩).startUp.reset = .due ∧ chamber.startUp.reset ≠ .due
      ∧ chamber.uplink.tx = none := by decide +kernel

theorem witness_start_up :
    recalling.FloorOk ∧ recalling.startUp.state = .recalling ∧ rollCall.FloorOk ∧ rollCall.startUp.state = .rollCall
      ∧ (rollCall.withNow 2000).FloorOk ∧ (rollCall.withNow 2000).startUp.since + 2000 = (rollCall.withNow 2000).now
      ∧ (rollCall.withNow 1999).now < (rollCall.withNow 1999).startUp.since + 2000 ∧ chamber.FloorOk
      ∧ chamber.startUp.state = .ready :=
  ⟨recalling_floorOk, rfl, rollCall_floorOk, rfl,
    still_floorOk _ quiet_seat quiet_refusalOf quiet_chan rfl rfl rfl fun _ => rfl, rfl, by decide, chamber_floorOk, rfl⟩

theorem witness_untaken :
    Instr.managementFrame (.clearList anyHead) = some (mgmtFrame anyHead .clearList []) ∧ State.reset.uplink.up = false
      ∧ chamber.uplink.up = true ∧ frameOk (mgmtFrame anyHead .clearList []) = false
      ∧ frameOk (sound .clearList []) = true ∧ 2 ≤ (payload (sound .clearList [])).length
      ∧ resetting.uplink.up = true ∧ resetting.uplink.replies.length < 16 ∧ resetting.startUp.reset ≠ .none := by
  decide +kernel

theorem witness_unrecognised :
    chamber.Takes (mkFrame 0x60 [7, 0x7F]) ∧ payload (mkFrame 0x60 [7, 0x7F]) = 7 :: 0x7F :: []
      ∧ Op.ofCode 0x7F = none ∧ chamber.Takes (mkFrame 0x60 [7, 0x12, 1]) ∧ Op.ofCode 0x12 = some .suspend
      ∧ fieldsFit .suspend [1] = false ∧ chamber.Takes (mkFrame 0x60 [7, 3, 4])
      ∧ chamber.Takes (mkFrame 0x60 [7, 4, 0, 0, 1, 0, 4]) ∧ frameKind (mkFrame 0x60 [7, 3, 4]) = some 0x60 :=
  ⟨takes _ _ (by decide +kernel), by decide +kernel, by decide +kernel, takes _ _ (by decide +kernel),
    by decide +kernel, by decide, takes _ _ (by decide +kernel), takes _ _ (by decide +kernel), by decide +kernel⟩

/-- `chamber` with a STORE in flight. -/
def storing : State := after (.storeProfile (tagged .storeProfile [])) chamber

/-- `closed` with a RECALL in flight. -/
def recalls : State := after (.recallProfile (tagged .recallProfile [])) closed

theorem witness_held_off :
    Instr.holdClass (.storeProfile (tagged .storeProfile [])) = some .profile
      ∧ Instr.managementFrame (.storeProfile (tagged .storeProfile [])) = some (sound .storeProfile [])
      ∧ recalling.Takes (sound .storeProfile []) ∧ storing.Takes (sound .storeProfile []) ∧ storing.profile.op ≠ none
      ∧ Instr.holdClass (.clearList (tagged .clearList [])) = some .floor
      ∧ recalling.Takes (sound .clearList []) ∧ rollCall.Takes (sound .clearList [])
      ∧ Instr.wf (.clearList (tagged .clearList [])) = true :=
  ⟨rfl, rfl, takes _ _ (by decide +kernel), takes _ _ (by decide +kernel), by decide +kernel, rfl,
    takes _ _ (by decide +kernel), takes _ _ (by decide +kernel), rfl⟩

theorem witness_readouts :
    chamber.Takes (sound .identify []) ∧ chamber.Takes (sound .readTable [0, 3, 255, 1])
      ∧ chamber.Takes (sound .readTable [3, 0, 1, 1]) ∧ chamber.Takes (sound .readTable [4, 0, 0, 1])
      ∧ chamber.Takes (sound .readList [64]) ∧ chamber.Takes (sound .readList [65]) ∧ chamber.Takes (sound .readList [0])
      ∧ chamber.Takes (sound .readFloor [1]) ∧ chamber.Takes (sound .readFloor [2])
      ∧ chamber.Takes (sound .readCounters [0]) ∧ chamber.Takes (sound .readCounters [1])
      ∧ chamber.Takes (sound .readCounters [2]) :=
  ⟨takes _ _ (by decide +kernel), takes _ _ (by decide +kernel), takes _ _ (by decide +kernel),
    takes _ _ (by decide +kernel), takes _ _ (by decide +kernel), takes _ _ (by decide +kernel),
    takes _ _ (by decide +kernel), takes _ _ (by decide +kernel), takes _ _ (by decide +kernel),
    takes _ _ (by decide +kernel), takes _ _ (by decide +kernel), takes _ _ (by decide +kernel)⟩

theorem witness_clamped_rows :
    readClassRow (classRow defaultClasses.delegate) = some (defaultClasses.delegate, false)
      ∧ readFloorRow (floorRow defaultFloorConfig) = some (defaultFloorConfig, false) := by decide +kernel

/-- A SEAT row of a CHAIR seat. -/
def chairRow : List Byte := [0x80, 0, 0, 0, 0, 0, 7, 8, 0, 0, 0, 0]

/-- `chamber` with eight CHAIR seats beside seat 5. -/
def chairs : State := [100, 101, 102, 103, 104, 105, 106].foldl (fun s n => s.setSeat n chairman) chamber

theorem witness_seat_row :
    chamber.Takes (sound .writeTable (0 :: bytesOf 1024 ++ chairRow))
      ∧ chamber.Takes (sound .writeTable (0 :: bytesOf 1023 ++ chairRow))
      ∧ chamber.startUp.state ≠ .recalling ∧ chamber.profile.op = none ∧ chamber.FloorOk
      ∧ chairs.Takes (sound .writeTable (0 :: bytesOf 5 ++ chairRow)) ∧ (chairs.seat 5).cfg.cls ≠ .chair
      ∧ (configOfWord 0x8000).cls = .chair
      ∧ 8 ≤ (chairs.seatsWhere fun k r => k != 5 && r.cfg.cls == .chair).length
      ∧ (chamber.seatsWhere fun k r => k != 5 && r.cfg.cls == .chair).length < 8 :=
  ⟨takes _ _ (by decide +kernel), takes _ _ (by decide +kernel), by decide, rfl, chamber_floorOk,
    takes _ _ (by decide +kernel), by decide +kernel, by decide +kernel, by decide +kernel, by decide +kernel⟩

/-- A row for the seat that waits that brings its entitlement to level 1, and one that makes a speaker OFFICIAL. -/
theorem witness_seat_row_of_entry :
    chamber.Takes (sound .writeTable (0 :: bytesOf 5 ++ [0x14, 0x40, 0, 0, 0, 0, 7, 8, 0, 0, 0, 0]))
      ∧ entry5 ∈ chamber.list.entries ∧ entry5.seat = 5 ∧ (configOfWord 0x1440).cls = (chamber.seat 5).cfg.cls
      ∧ (configOfWord 0x1440).speak ≠ (chamber.seat 5).cfg.speak ∧ (configOfWord 0x1440).barred = false
      ∧ chamber.Takes (sound .writeTable (0 :: bytesOf 7 ++ [0x74, 0x40, 0, 0, 0, 0, 7, 8, 0, 0, 0, 0]))
      ∧ (chamber.seat 7).run.floor ≠ .waiting ∧ (configOfWord 0x7440).cls = .official
      ∧ (chamber.seat 7).cfg.cls = .delegate :=
  ⟨takes _ _ (by decide +kernel), by decide, rfl, by decide +kernel, by decide +kernel, by decide +kernel,
    takes _ _ (by decide +kernel), by decide +kernel, by decide +kernel, by decide +kernel⟩

theorem witness_class_row :
    chamber.Takes (sound .writeTable (1 :: bytesOf 3 ++ classRow defaultClasses.observer))
      ∧ chamber.Takes (sound .writeTable (1 :: bytesOf 4 ++ classRow defaultClasses.observer))
      ∧ readClassRow (classRow defaultClasses.observer) = some (defaultClasses.observer, false)
      ∧ readClassRow (classRow { defaultClasses.delegate with enforced := true })
        = some ({ defaultClasses.delegate with enforced := true }, false)
      ∧ chamber.Takes (sound .writeTable (1 :: bytesOf 0 ++ classRow { defaultClasses.delegate with enforced := true }))
      ∧ chamber.FloorOk :=
  ⟨takes _ _ (by decide +kernel), takes _ _ (by decide +kernel), by decide +kernel, by decide +kernel,
    takes _ _ (by decide +kernel), chamber_floorOk⟩

theorem witness_branch_row :
    chamber.Takes (sound .writeTable (2 :: bytesOf 4 ++ [1, 0, 0, 0, 255]))
      ∧ chamber.Takes (sound .writeTable (2 :: bytesOf 3 ++ [1, 3, 0, 4, 0]))
      ∧ chamber.Takes (sound .writeTable (2 :: bytesOf 3 ++ [1, 3, 0, 3, 255])) ∧ branchOfIndex 3 = some .branchD
      ∧ chamber.Takes (sound .writeTable (2 :: bytesOf 0 ++ [1, 0, 6, 0, 255])) ∧ branchOfIndex 0 = some .branchA
      ∧ chamber.startUp.state ≠ .recalling ∧ chamber.profile.op = none :=
  ⟨takes _ _ (by decide +kernel), takes _ _ (by decide +kernel), takes _ _ (by decide +kernel), rfl,
    takes _ _ (by decide +kernel), rfl, by decide, rfl⟩

theorem witness_branch_row_without_moves :
    ∀ n : SeatNo, (State.reset.seat n).run.present = true →
      BranchTable.branchOf { defaultBranches with d := ⟨true, 769, 1023⟩ } n = State.reset.branches.branchOf n := by
  intro n h
  simp [resetRun] at h

theorem witness_floor_row :
    chamber.Takes (sound .writeTable (3 :: bytesOf 0 ++ floorRow defaultFloorConfig))
      ∧ chamber.Takes (sound .writeTable (3 :: bytesOf 1 ++ floorRow defaultFloorConfig))
      ∧ readFloorRow (floorRow defaultFloorConfig) = some (chamber.floorCfg, false) ∧ chamber.RestraintOk := by
  refine ⟨takes _ _ (by decide +kernel), takes _ _ (by decide +kernel), by decide +kernel, ?_⟩
  unfold State.RestraintOk
  decide +kernel

/-- A floor record that differs from the default in every field. -/
def otherFloor : FloorConfig :=
  { mode := .override, limit := 5, gate := 2, high := 1, low := 0, presenceMs := 200, silenceS := 3, onThreshold := 900
    offThreshold := 300, openAtStart := true, showBudget := true, relist := false, enables := 0x0FFF }

/-- Seat 5 was heard 201 ms ago, seat 7 exactly the new presence timeout ago. -/
theorem witness_floor_row_changed :
    (let s := (later 201).updRun 7 fun r => { r with lastHeard := 1 }
     s.Takes (sound .writeTable (3 :: bytesOf 0 ++ floorRow otherFloor))
      ∧ readFloorRow (floorRow otherFloor) = some (otherFloor, false) ∧ otherFloor.presenceMs < s.floorCfg.presenceMs
      ∧ otherFloor.presenceMs + 1 = s.now - (s.seat 5).run.lastHeard
      ∧ otherFloor.presenceMs = s.now - (s.seat 7).run.lastHeard ∧ s.floorCfg.limit < otherFloor.limit) :=
  ⟨takes _ _ (by decide +kernel), by decide +kernel, by decide, by decide +kernel, by decide +kernel, by decide⟩

/-- SEAT FLAGS TEST while RECALLING and while a store is in flight (R156). -/
theorem witness_seat_flags_test :
    recalling.Takes (sound .seatFlags (bytesOf 5 ++ [1, 0, 0])) ∧ recalling.startUp.state = .recalling
      ∧ storing.Takes (sound .seatFlags (bytesOf 5 ++ [1, 0, 0])) ∧ storing.profile.op = some (.store 0) :=
  ⟨takes _ _ (by decide +kernel), rfl, takes _ _ (by decide +kernel), by decide +kernel⟩

theorem witness_seat_flags :
    chamber.Takes (sound .seatFlags (bytesOf 960 ++ [64, 2, 0])) ∧ flagOfCode 2 = some .keyClose
      ∧ chamber.Takes (sound .seatFlags (bytesOf 961 ++ [64, 0, 1])) ∧ chamber.Takes (sound .seatFlags (bytesOf 0 ++ [65, 0, 2]))
      ∧ chamber.Takes (sound .seatFlags (bytesOf 5 ++ [3, 0, 3])) ∧ (960 : Half).toNat + (64 : Byte).toNat = 1024
      ∧ chamber.FloorOk :=
  ⟨takes _ _ (by decide +kernel), rfl, takes _ _ (by decide +kernel), takes _ _ (by decide +kernel),
    takes _ _ (by decide +kernel), by decide, chamber_floorOk⟩

theorem witness_store :
    chamber.Takes (sound .storeProfile []) ∧ chamber.startUp.state ≠ .recalling ∧ chamber.profile.op = none
      ∧ storing.profile.op = some (.store 0) ∧ storing.uplink.up = true
      ∧ (after .uplinkDown storing).profile.op = some (.store 0) ∧ (after .uplinkDown storing).uplink.up = false :=
  ⟨takes _ _ (by decide +kernel), by decide, rfl, by decide +kernel, by decide +kernel, by decide +kernel,
    by decide +kernel⟩

theorem witness_recall :
    closed.Takes (sound .recallProfile []) ∧ closed.floor = .closed ∧ (∀ c : ChanNo, (closed.chan c).state = .free)
      ∧ chamber.Takes (sound .recallProfile []) ∧ chamber.floor ≠ .closed ∧ recalls.profile.op = some (.recall 0)
      ∧ recalls.uplink.up = true ∧ (after .uplinkDown recalls).uplink.up = false
      ∧ (after .uplinkDown recalls).profile.op = some (.recall 0) ∧ (recalls.withFloor .opened).floor ≠ .closed :=
  ⟨takes _ _ (by decide +kernel), rfl, by decide +kernel, takes _ _ (by decide +kernel), by decide, by decide +kernel,
    by decide +kernel, by decide +kernel, by decide +kernel, by decide⟩

theorem witness_recall_floorOk :
    ((closed.withProfile { closed.profile with op := some (.recall 0) }).withUplink
      { closed.uplink with replies := [.profileOp 1] }).FloorOk :=
  still_floorOk _ quiet_seat quiet_refusalOf quiet_chan rfl rfl rfl fun _ => rfl

theorem witness_reset : storing.Takes (sound .reset []) ∧ recalls.Takes (sound .reset []) ∧ chamber.Takes (sound .reset []) :=
  ⟨takes _ _ (by decide +kernel), takes _ _ (by decide +kernel), takes _ _ (by decide +kernel)⟩

theorem witness_open_and_close :
    closed.Takes (sound .openFloor [0]) ∧ closed.Takes (sound .openFloor [1]) ∧ closed.Takes (sound .openFloor [2])
      ∧ closed.startUp.state = .ready ∧ closed.floor = .closed ∧ closed.list.entries = []
      ∧ chamber.Takes (sound .openFloor [1]) ∧ chamber.floor ≠ .closed ∧ chamber.Takes (sound .closeFloor [])
      ∧ chamber.startUp.state = .ready ∧ chamber.FloorOk :=
  ⟨takes _ _ (by decide +kernel), takes _ _ (by decide +kernel), takes _ _ (by decide +kernel), rfl, rfl, rfl,
    takes _ _ (by decide +kernel), by decide, takes _ _ (by decide +kernel), rfl, chamber_floorOk⟩

theorem witness_suspend_and_resume :
    chamber.ChannelsOk ∧ chamber.GrantOrderOk ∧ chamber.Takes (sound .suspend []) ∧ chamber.floor = .opened
      ∧ chamber.Takes (sound .resume []) ∧ (chamber.withFloor .suspended).Takes (sound .suspend [])
      ∧ (chamber.withFloor .suspended).ChannelsOk ∧ (chamber.withFloor .suspended).GrantOrderOk
      ∧ (chamber.withFloor .suspended).Takes (sound .resume []) ∧ (chamber.withFloor .suspended).floor = .suspended :=
  ⟨chamber_floorOk.2.2.2.1, chamber_floorOk.2.2.2.2.1, takes _ _ (by decide +kernel), rfl,
    takes _ _ (by decide +kernel), takes _ _ (by decide +kernel), chamber_floorOk.2.2.2.1, chamber_floorOk.2.2.2.2.1,
    takes _ _ (by decide +kernel), rfl⟩

theorem witness_floor_settings :
    chamber.Takes (sound .setMode [3]) ∧ chamber.Takes (sound .setMode [2]) ∧ Mode.code .directed = 2
      ∧ chamber.Takes (sound .setLimit [0]) ∧ chamber.Takes (sound .setLimit [17])
      ∧ chamber.Takes (sound .setGate [4]) ∧ ((3 : Level).val = min 3 (4 : Byte).toNat) ∧ chamber.startUp.state = .ready
      ∧ chamber.floorCfg.limit < 16 ∧ 1 ≤ chamber.floorCfg.limit :=
  ⟨takes _ _ (by decide +kernel), takes _ _ (by decide +kernel), rfl, takes _ _ (by decide +kernel),
    takes _ _ (by decide +kernel), takes _ _ (by decide +kernel), by decide, rfl, by decide, by decide⟩

theorem witness_grant_command :
    chamber.Takes (sound .grant (bytesOf 1024 ++ [0])) ∧ chamber.Takes (sound .grant (bytesOf 5 ++ [0]))
      ∧ chamber.ChannelsOk ∧ (chamber.seat 5).run.present = true ∧ (chamber.seat 5).cfg.cls ≠ .observer
      ∧ (chamber.seat 5).cfg.barred = false ∧ (chamber.seat 5).run.floor ≠ .speaking ∧ chamber.floor ≠ .closed
      ∧ (chamber.chan 1).state = .free ∧ chamber.nonChairCount < chamber.floorCfg.limit
      ∧ chamber.Takes (sound .grant (bytesOf 6 ++ [0])) ∧ (chamber.seat 6).run.present = false
      ∧ override.Takes (sound .grant (bytesOf 5 ++ [0])) ∧ override.Takes (sound .grant (bytesOf 5 ++ [1]))
      ∧ override.ChannelsOk ∧ override.floorCfg.limit ≤ override.nonChairCount ∧ override.grantOrder = [] ++ 0 :: []
      ∧ (override.chan 0).kind ≠ some .chair ∧ (override.chan 0).level = some 3 :=
  ⟨takes _ _ (by decide +kernel), takes _ _ (by decide +kernel), chamber_floorOk.2.2.2.1, by decide +kernel,
    by decide +kernel, by decide +kernel, by decide +kernel, by decide, by decide +kernel, by decide +kernel,
    takes _ _ (by decide +kernel), by decide +kernel, takes _ _ (by decide +kernel), takes _ _ (by decide +kernel),
    (busy_floorOk _).2.2.2.1, by decide +kernel, rfl, by decide +kernel, by decide +kernel⟩

theorem witness_operator :
    chamber.FloorOk ∧ chamber.startUp.state = .ready ∧ chamber.Takes (sound .endTurn (2 :: bytesOf 0))
      ∧ chamber.Takes (sound .endTurn (0 :: bytesOf 1024)) ∧ chamber.Takes (sound .endTurn (1 :: bytesOf 16))
      ∧ chamber.Takes (sound .endTurn (0 :: bytesOf 5)) ∧ (chamber.seat 5).run.floor ≠ .speaking
      ∧ chamber.Takes (sound .endTurn (0 :: bytesOf 7)) ∧ chamber.Takes (sound .endTurn (1 :: bytesOf 0))
      ∧ (chamber.chan 0).state ≠ .free ∧ (chamber.chan 0).seat = some 7
      ∧ chamber.Takes (sound .endTurn (1 :: bytesOf 15)) ∧ (chamber.chan 15).state = .free
      ∧ chamber.Takes (sound .withdraw (bytesOf 1024)) ∧ chamber.Takes (sound .withdraw (bytesOf 5))
      ∧ chamber.Takes (sound .clearList []) ∧ chamber.list.entries ≠ [] ∧ quiet.Takes (sound .clearList [])
      ∧ quiet.list.entries = [] :=
  ⟨chamber_floorOk, rfl, takes _ _ (by decide +kernel), takes _ _ (by decide +kernel), takes _ _ (by decide +kernel),
    takes _ _ (by decide +kernel), by decide +kernel, takes _ _ (by decide +kernel), takes _ _ (by decide +kernel),
    by decide +kernel, by decide +kernel, takes _ _ (by decide +kernel), by decide +kernel,
    takes _ _ (by decide +kernel), takes _ _ (by decide +kernel), takes _ _ (by decide +kernel), by decide,
    takes _ _ (by decide +kernel), rfl⟩

theorem witness_next :
    chamber.Takes (sound .next []) ∧ chamber.startUp.state = .ready ∧ chamber.ChannelsOk ∧ chamber.GrantOrderOk
      ∧ chamber.FloorCfgOk
      ∧ closed.Takes (sound .next []) ∧ closed.floor ≠ .opened ∧ quiet.Takes (sound .next [])
      ∧ quiet.floor = .opened ∧ quiet.firstEligible = none ∧ chamber.firstEligible = some entry5
      ∧ chamber.nonChairCount < chamber.floorCfg.limit ∧ (chamber.chan 1).state = .free
      ∧ override.Takes (sound .next []) ∧ override.firstEligible = some entry5
      ∧ override.nonChairCount = override.floorCfg.limit ∧ override.grantOrder = [] ++ 0 :: [] := by
  refine ⟨takes _ _ (by decide +kernel), rfl, chamber_floorOk.2.2.2.1, chamber_floorOk.2.2.2.2.1, ?_,
    takes _ _ (by decide +kernel), by decide,
    takes _ _ (by decide +kernel), rfl, by decide +kernel, by decide +kernel, by decide +kernel, by decide +kernel,
    takes _ _ (by decide +kernel), by decide +kernel, by decide +kernel, rfl⟩
  unfold State.FloorCfgOk
  decide +kernel

theorem full_grantOrderOk (k : Channel) (h : k.busy = true) : (full k).GrantOrderOk := by
  refine ⟨List.nodup_finRange 16, fun c => ?_⟩
  have hc : (full k).chan c = k := State.everyChannel_get k c
  rw [hc]
  exact ⟨fun _ => h, fun _ => List.mem_finRange c⟩

theorem full_channelsOk (k : Channel) (h : k.busy = true) (hs : k.seat.isSome = true) (hk : k.kind.isSome = true)
    (hl : k.level.isSome = true) (hc : k.state = .held ↔ k.hasCause = true) : (full k).ChannelsOk := by
  intro c
  have hk' : (full k).chan c = k := State.everyChannel_get k c
  rw [hk']
  exact ⟨fun g => by simp [h] at g, fun _ => ⟨hs, hk, hl, hc⟩⟩

/-- Every channel busy with the same turn, and seat 5 waiting. -/
def crowded (k : Channel) : State := (full k).withList ⟨[entry5], false, 1⟩

theorem witness_next_without_free_channel :
    (crowded { turn7 with kind := some .chair }).Takes (sound .next [])
      ∧ (crowded { turn7 with kind := some .chair }).ChannelsOk
      ∧ (crowded { turn7 with kind := some .chair }).GrantOrderOk
      ∧ (crowded { turn7 with kind := some .chair }).nonChairCount = 0
      ∧ (∀ c : ChanNo, ((crowded { turn7 with kind := some .chair }).chan c).state ≠ .free)
      ∧ (crowded { turn7 with kind := some .chair }).firstEligible = some entry5 :=
  ⟨takes _ _ (by decide +kernel), full_channelsOk _ (by decide) (by decide) (by decide) (by decide) (by decide),
    full_grantOrderOk _ (by decide), by decide +kernel, by decide +kernel, by decide +kernel⟩

theorem witness_next_above_the_limit :
    (crowded turn7).Takes (sound .next []) ∧ (crowded turn7).ChannelsOk ∧ (crowded turn7).GrantOrderOk
      ∧ (crowded turn7).FloorCfgOk ∧ (crowded turn7).floorCfg.limit < (crowded turn7).nonChairCount
      ∧ (crowded turn7).firstEligible = some entry5 :=
  ⟨takes _ _ (by decide +kernel), full_channelsOk _ (by decide) (by decide) (by decide) (by decide) (by decide),
    full_grantOrderOk _ (by decide), by unfold State.FloorCfgOk; decide +kernel, by decide +kernel, by decide +kernel⟩

theorem witness_seat_row_as_it_is :
    chamber.Takes (sound .writeTable (0 :: bytesOf 6 ++ [0x34, 0x40, 0, 0, 0, 0, 7, 8, 0, 0, 0, 0]))
      ∧ configOfWord ((0x34 : Byte) ++ (0x40 : Byte)) = (chamber.seat 6).cfg ∧ ((7 : Byte) ++ (8 : Byte)).toNat = (chamber.seat 6).run.budget :=
  ⟨takes _ _ (by decide +kernel), by decide +kernel, by decide +kernel⟩

end Sys2Proof.Tests
end

section
/-! PROOF. Frames that arrive on a branch: what the integrity check says of a frame's bytes, where the
payload of a sound frame begins, and which of the three checks of a branch port counts a bad frame (R22, R25 to R28). -/

namespace Sys2Proof.Machine

/-! ### The bytes of a sound frame -/

theorem frameOk_iff (f : Frame) : frameOk f = true ↔ 4 ≤ f.length ∧ (f.getD 1 0).toNat = f.length - 4
    ∧ bytesOf (checkSequence (f.take (f.length - 2))) = f.drop (f.length - 2) := by
  simp [frameOk, and_assoc]

theorem payload_length (f : Frame) : (payload f).length = f.length - 4 := by
  simp only [payload, List.length_take, List.length_drop]
  omega

/-- The length byte of a sound frame is the length of its payload (R26). -/
theorem payload_length_eq_iff {f : Frame} (h : frameOk f = true) {k : Nat} (hk : k < 256) :
    (payload f).length = k ↔ f.getD 1 0 = BitVec.ofNat 8 k := by
  obtain ⟨-, hlen, -⟩ := (frameOk_iff f).1 h
  rw [payload_length, ← hlen, BitVec.toNat_eq, BitVec.toNat_ofNat, Nat.mod_eq_of_lt hk]

/-- A payload of two bytes or more begins with the frame's third and fourth byte, the seat field of the frames that
seats send (2.8). -/
theorem payload_seat_field {f : Frame} (h : 2 ≤ (payload f).length) :
    payload f = f.getD 2 0 :: f.getD 3 0 :: (payload f).drop 2 := by
  rw [payload_length] at h
  match f with
  | [] | [_] | [_, _] | [_, _, _] => simp at h
  | _ :: _ :: x :: y :: l =>
    obtain ⟨k, hk⟩ : ∃ k, l.length = k + 2 := ⟨l.length - 2, by simp at h; omega⟩
    simp [payload, hk]

theorem payload_seat {f : Frame} (h : 2 ≤ (payload f).length) :
    (payload f).getD 0 0 ++ (payload f).getD 1 0 = f.getD 2 0 ++ f.getD 3 0 := by
  rw [payload_seat_field h]
  rfl

theorem readReport_eq_some {l : List Byte} (h : l.length = 6) :
    ∃ r, readReport l = some r ∧ r.seat = (l.getD 0 0 ++ l.getD 1 0).toNat := by
  match l, h with
  | [_, _, _, _, _, _], _ => exact ⟨_, rfl, rfl⟩

theorem readBlock_eq_some {l : List Byte} (h : 3 ≤ l.length) :
    ∃ x, readBlock l = some x ∧ x.seat = (l.getD 0 0 ++ l.getD 1 0).toNat := by
  match l, h with
  | _ :: _ :: _ :: _, _ => exact ⟨_, rfl, rfl⟩

namespace State

/-! ### The three checks -/

variable {s : State} {b : BranchId} {f : Frame}

/-- R28. -/
theorem inBranch_eq_none_iff (s : State) (b : BranchId) (k : Nat) : s.inBranch b k = none ↔
    k < (s.branches.record b).first ∨ (s.branches.record b).last < k ∨ 1023 < k := by
  unfold inBranch BranchRecord.holds
  split
  · simp only [ite_eq_right_iff, Bool.and_eq_true, decide_eq_true_eq, reduceCtorEq, imp_false]
    omega
  · simp only [true_iff]
    omega

/-- R26. -/
theorem inspect_of_damaged (h : frameOk f = false) : s.inspect b f = .checkErr := by
  simp [inspect, h]

/-- R27. -/
theorem inspect_of_other_kind (h : frameOk f = true)
    (hr : ¬(frameKind f = some kindSeatReport ∧ (payload f).length = 6))
    (ha : ¬(frameKind f = some kindSeatAudio ∧ (payload f).length = 99)) : s.inspect b f = .kindErr := by
  unfold inspect sortFrame
  rw [if_pos h, if_neg (by simpa using hr), if_neg (by simpa using ha)]

/-- R28 for a report. -/
theorem inspect_of_report_out_of_range (h : frameOk f = true) (hk : frameKind f = some kindSeatReport)
    (hl : (payload f).length = 6) (hn : s.inBranch b (f.getD 2 0 ++ f.getD 3 0).toNat = none) :
    s.inspect b f = .rangeErr := by
  obtain ⟨r, hr, hseat⟩ := readReport_eq_some (l := payload f) hl
  rw [← payload_seat (by omega), ← hseat] at hn
  simp [inspect, sortFrame, h, hk, hl, hr, hn]

/-- R28 for an audio frame. -/
theorem inspect_of_audio_out_of_range (h : frameOk f = true) (hk : frameKind f = some kindSeatAudio)
    (hl : (payload f).length = 99) (hn : s.inBranch b (f.getD 2 0 ++ f.getD 3 0).toNat = none) :
    s.inspect b f = .rangeErr := by
  obtain ⟨x, hx, hseat⟩ := readBlock_eq_some (l := payload f) (by omega)
  rw [← payload_seat (by omega), ← hseat] at hn
  simp [inspect, sortFrame, h, hk, hl, hx, hn, kindSeatAudio, kindSeatReport]

/-! ### The arrival of a frame by what its port finds -/

theorem arrive_of_lost (h : (s.port b).up = false ∨ (s.branches.record b).enabled = false) : s.arrive b f = s := by
  rcases h with h | h <;> simp [arrive, h]

theorem arrive_of_checkErr (hu : (s.port b).up = true) (he : (s.branches.record b).enabled = true)
    (h : s.inspect b f = .checkErr) :
    s.arrive b f = s.updPort b fun p => { p with checkErr := min 65535 (p.checkErr + 1) } := by
  simp [arrive, hu, he, h, bump, maxCount]

theorem arrive_of_kindErr (hu : (s.port b).up = true) (he : (s.branches.record b).enabled = true)
    (h : s.inspect b f = .kindErr) :
    s.arrive b f = s.updPort b fun p => { p with kindErr := min 65535 (p.kindErr + 1) } := by
  simp [arrive, hu, he, h, bump, maxCount]

theorem arrive_of_rangeErr (hu : (s.port b).up = true) (he : (s.branches.record b).enabled = true)
    (h : s.inspect b f = .rangeErr) :
    s.arrive b f = s.updPort b fun p => { p with rangeErr := min 65535 (p.rangeErr + 1) } := by
  simp [arrive, hu, he, h, bump, maxCount]

end State

/-- The bytes of a frame on a branch decide, whichever row it is taken as. -/
theorem exec_branch_frame {i : Instr} {b : BranchId} {f : Frame} (s : State)
    (h : i = .seatReport b f ∨ i = .seatAudio b f) : exec i s = .next (s.arrive b f) := by
  rcases h with rfl | rfl <;> rfl

/-- Settles O27: each clause names what the port finds in the frame, and what it then counts. -/
theorem portChecksCountBadFrames : Obligations.PortChecksCountBadFrames := by
  intro b f s i hi
  rw [exec_branch_frame s hi]
  refine ⟨fun hlost => by rw [State.arrive_of_lost hlost], fun hu he => ⟨?damaged, ?kind, ?range⟩⟩
  case damaged =>
    intro hbad
    have hok : frameOk f = false := by
      rw [← Bool.not_eq_true, frameOk_iff]
      rintro ⟨hlen, hbyte, hcheck⟩
      rcases hbad with h | h | h
      · omega
      · exact h hbyte
      · exact h hcheck
    rw [State.arrive_of_checkErr hu he (State.inspect_of_damaged hok)]
  case kind =>
    intro hok hr ha
    have hr' : ¬(frameKind f = some kindSeatReport ∧ (payload f).length = 6) := by
      rwa [payload_length_eq_iff hok (by decide)]
    have ha' : ¬(frameKind f = some kindSeatAudio ∧ (payload f).length = 99) := by
      rwa [payload_length_eq_iff hok (by decide)]
    rw [State.arrive_of_kindErr hu he (State.inspect_of_other_kind hok hr' ha')]
  case range =>
    intro hok hkind hout
    have hn := (State.inBranch_eq_none_iff s b _).2 hout
    have hfind : s.inspect b f = .rangeErr := by
      rcases hkind with ⟨hk, hl⟩ | ⟨hk, hl⟩
      · exact State.inspect_of_report_out_of_range hok hk ((payload_length_eq_iff hok (by decide)).2 hl) hn
      · exact State.inspect_of_audio_out_of_range hok hk ((payload_length_eq_iff hok (by decide)).2 hl) hn
    rw [State.arrive_of_rangeErr hu he hfind]

end Sys2Proof.Machine
end

section
/-! PROOF. The programme frame of the uplink: one change made at every branch port, and what a frame that is no sound
programme frame leaves (R31, R39). -/

namespace Sys2Proof.Machine

/-- The port once a programme frame is offered to it: an UP port that holds fewer than two takes the frame (R31). -/
def BranchPort.offered (f : Frame) (p : BranchPort) : BranchPort :=
  { p with programme := if p.up = true ∧ p.programme.length < 2 then p.programme ++ [f] else p.programme }

namespace State

@[simp] theorem setPort_port (s : State) (b : BranchId) : s.setPort b (s.port b) = s := by
  cases b <;> rfl

/-- The same change made at each branch in turn reaches every port as it stood. -/
theorem foldl_updPort_port (g : BranchPort → BranchPort) (s : State) (b : BranchId) :
    (branchIds.foldl (fun s b => s.updPort b g) s).port b = g (s.port b) := by
  cases b <;> rfl

theorem foldl_updPort_withPorts (g : BranchPort → BranchPort) (l : List BranchId) (s : State) :
    l.foldl (fun s b => s.updPort b g) s = s.withPorts (l.foldl (fun s b => s.updPort b g) s).ports := by
  induction l generalizing s with
  | nil => rfl
  | cons b l ih => exact ih (s.updPort b g)

theorem copyProgramme_eq (f : Frame) (s : State) :
    s.copyProgramme f = branchIds.foldl (fun s b => s.updPort b (BranchPort.offered f)) s := by
  unfold copyProgramme
  congr
  funext s b
  unfold updPort BranchPort.offered
  by_cases h : (s.port b).up = true ∧ (s.port b).programme.length < 2
  · rw [if_pos (by simpa using h), if_pos h]
  · rw [if_neg (by simpa using h), if_neg h, setPort_port]

theorem copyProgramme_port (f : Frame) (s : State) (b : BranchId) :
    (s.copyProgramme f).port b = (s.port b).offered f := by
  rw [copyProgramme_eq, foldl_updPort_port]

theorem copyProgramme_withPorts (f : Frame) (s : State) :
    s.copyProgramme f = s.withPorts (s.copyProgramme f).ports := by
  rw [copyProgramme_eq]
  exact foldl_updPort_withPorts _ _ _

/-! ### The arrival of a frame on the uplink by its kind -/

theorem receiveUplink_of_management {f : Frame} (s : State) (hk : frameKind f = some kindManagement) :
    s.receiveUplink f = s.receive f (payloadOperation f) := if_pos hk

theorem receiveUplink_of_programme {f : Frame} (s : State) (hk : frameKind f = some kindProgramme) :
    s.receiveUplink f = if s.uplink.up && frameOk f then s.copyProgramme f else s := by
  have hm : frameKind f ≠ some kindManagement := by rw [hk]; decide
  rw [receiveUplink, if_neg hm, if_pos hk]

theorem receiveUplink_of_other_kind {f : Frame} (s : State) (hp : frameKind f ≠ some kindProgramme)
    (hm : frameKind f ≠ some kindManagement) : s.receiveUplink f = s := by
  rw [receiveUplink, if_neg hm, if_neg hp]

/-- A DOWN uplink receives nothing (2.1). -/
theorem receiveUplink_of_down {s : State} (f : Frame) (h : s.uplink.up = false) : s.receiveUplink f = s := by
  by_cases hm : frameKind f = some kindManagement
  · rw [receiveUplink_of_management s hm]
    simp [receive, h]
  · by_cases hp : frameKind f = some kindProgramme
    · simp [receiveUplink_of_programme s hp, h]
    · exact receiveUplink_of_other_kind s hp hm

end State

theorem exec_programme (f : Frame) (s : State) : exec (.programme f) s = .next (s.receiveUplink f) := rfl

/-- Settles O34: every port is offered a sound frame of an UP uplink, and no other frame that is not a MANAGEMENT frame
is passed on. -/
theorem programmeIsCopiedToTheBranches : Obligations.ProgrammeIsCopiedToTheBranches := by
  intro f s
  rw [exec_programme]
  constructor
  · intro hu hk hok
    have hcopy : s.receiveUplink f = s.copyProgramme f := by
      rw [State.receiveUplink_of_programme s hk, hu, hok]
      rfl
    rw [hcopy]
    exact ⟨_, rfl, State.copyProgramme_withPorts f s, State.copyProgramme_port f s⟩
  · rintro (hdown | ⟨hk, hbad⟩ | ⟨hp, hm⟩)
    · rw [State.receiveUplink_of_down f hdown]
    · rw [State.receiveUplink_of_programme s hk, hbad, Bool.and_false]
      rfl
    · rw [State.receiveUplink_of_other_kind s hp hm]

end Sys2Proof.Machine
end

section
/-! PROOF. The seat command: what a seat shows by the channel it holds, and the bits of the bytes that carry it
(R36, R37, R44, 2.8). -/

namespace Sys2Proof.Machine

/-! ### What a seat shows -/

theorem ringOf_eq (t : Timer) : ringOf t = if t.mode = .countdown ∧ t.warned = true then .slowBlink
    else if t.mode = .overtime then .fastBlink else .steady := by
  unfold ringOf
  cases t.mode <;> simp

namespace State

variable {s : State} {n : SeatNo}

theorem heldChannel_of_speaking {c : ChanNo} (hf : (s.seat n).run.floor = .speaking)
    (hc : (s.seat n).run.chan = some c) : s.heldChannel n = some (s.chan c) := by
  simp [heldChannel, hf, hc]

theorem heldChannel_of_off_floor (hf : (s.seat n).run.floor ≠ .speaking) : s.heldChannel n = none := by
  unfold heldChannel
  split
  · contradiction
  · rfl

end State

/-! ### The bytes that carry it -/

/-- Fields packed by powers of two lie side by side. -/
theorem ofNat_eq_append {i j : Nat} (a : Nat) {b : Nat} (hb : b < 2 ^ j) :
    BitVec.ofNat (i + j) (2 ^ j * a + b) = BitVec.ofNat i a ++ BitVec.ofNat j b := by
  apply BitVec.eq_of_toNat_eq
  have hlow : (2 ^ j * a + b) % 2 ^ j = b := by rw [Nat.mul_add_mod, Nat.mod_eq_of_lt hb]
  have hhigh : (2 ^ j * a + b) / 2 ^ j = a := by
    rw [Nat.mul_add_div (Nat.two_pow_pos j), Nat.div_eq_of_lt hb, Nat.add_zero]
  rw [BitVec.toNat_append, BitVec.toNat_ofNat, BitVec.toNat_ofNat, BitVec.toNat_ofNat, Nat.mod_eq_of_lt hb,
    ← Nat.shiftLeft_add_eq_or_of_lt hb, Nat.shiftLeft_eq, Nat.add_comm i j, Nat.pow_add, Nat.mod_mul, hlow, hhigh]
  ring

@[simp] theorem bytesOf_append (hi lo : Byte) : bytesOf (hi ++ lo) = [hi, lo] := by
  rw [bytesOf, BitVec.extractLsb'_append_eq_left, BitVec.extractLsb'_append_eq_right]

theorem two_eq (k : Nat) : two k = [BitVec.ofNat 8 (k / 256), BitVec.ofNat 8 (k % 256)] := by
  have h : BitVec.ofNat 16 (2 ^ 8 * (k / 256) + k % 256) = BitVec.ofNat 8 (k / 256) ++ BitVec.ofNat 8 (k % 256) :=
    ofNat_eq_append (i := 8) (j := 8) _ (Nat.mod_lt _ (by decide))
  rw [two, ← bytesOf_append, ← h, show 2 ^ 8 * (k / 256) + k % 256 = k from Nat.div_add_mod k 256]

/-- The microphone bits of a seat command (2.8). -/
def Microphone.bits : Microphone → BitVec 2
  | .off => 0
  | .live => 1
  | .held => 2

/-- The ring bits of a seat command (2.8). -/
def Ring.bits : Ring → BitVec 2
  | .dark => 0
  | .steady => 1
  | .slowBlink => 2
  | .fastBlink => 3

/-- The request lamp bits of a seat command (2.8). -/
def Lamp.bits : Lamp → BitVec 2
  | .dark => 0
  | .waiting => 1
  | .refused => 2

/-- The time mode byte of a seat command (2.8). -/
def TimeMode.bits : TimeMode → Byte
  | .blank => 0
  | .remaining => 1
  | .overtime => 2
  | .elapsed => 3

theorem Microphone.ofNat_code (m : Microphone) : BitVec.ofNat 2 m.code = m.bits := by cases m <;> rfl

theorem Ring.ofNat_code (r : Ring) : BitVec.ofNat 2 r.code = r.bits := by cases r <;> rfl

theorem Lamp.ofNat_code (l : Lamp) : BitVec.ofNat 2 l.code = l.bits := by cases l <;> rfl

theorem TimeMode.byte_code (t : TimeMode) : byte t.code = t.bits := by cases t <;> rfl

/-- Two decimal digits of an mm:ss field (2.8). -/
theorem byte_of_digits (a : Nat) {b : Nat} (hb : b ≤ 9) : byte (16 * a + b) = BitVec.ofNat 4 a ++ BitVec.ofNat 4 b :=
  ofNat_eq_append (i := 4) (j := 4) a (by omega)

/-- The byte of microphone, ring and request lamp, with its two zeros (2.8). -/
theorem byte_of_show (m : Microphone) (r : Ring) (l : Lamp) :
    byte (64 * m.code + 16 * r.code + l.code) = m.bits ++ r.bits ++ 0#2 ++ l.bits := by
  have hr : r.code < 2 ^ 2 := by cases r <;> decide
  have hl : l.code < 2 ^ 2 := by cases l <;> decide
  have hpacked : 64 * m.code + 16 * r.code + l.code = 2 ^ 2 * (2 ^ 2 * (2 ^ 2 * m.code + r.code) + 0) + l.code := by
    ring
  rw [byte, hpacked, ofNat_eq_append (i := 6) (j := 2) _ hl, ofNat_eq_append (i := 4) (j := 2) _ (by decide),
    ofNat_eq_append (i := 2) (j := 2) _ hr, m.ofNat_code, r.ofNat_code, l.ofNat_code]

theorem mmssBytes_of_valid {v : Mmss} (h : v.Valid) :
    mmssBytes v = [BitVec.ofNat 4 v.mt ++ BitVec.ofNat 4 v.mu, BitVec.ofNat 4 v.st ++ BitVec.ofNat 4 v.su] := by
  obtain ⟨-, hmu, -, hsu⟩ := h
  rw [mmssBytes, byte_of_digits _ hmu, byte_of_digits _ hsu]

theorem seatCommandFrame_of_valid (n : SeatNo) {x : SeatShow} (h : x.time.Valid) :
    seatCommandFrame n x = mkFrame 0x41
      [BitVec.ofNat 8 (n.val / 256), BitVec.ofNat 8 (n.val % 256),
        x.microphone.bits ++ x.ring.bits ++ 0#2 ++ x.lamp.bits, BitVec.ofNat 8 x.position, x.timeMode.bits,
        BitVec.ofNat 4 x.time.mt ++ BitVec.ofNat 4 x.time.mu,
        BitVec.ofNat 4 x.time.st ++ BitVec.ofNat 4 x.time.su] := by
  rw [seatCommandFrame, two_eq, byte_of_show, x.timeMode.byte_code, mmssBytes_of_valid h]
  rfl

/-- Settles O37: a speaking seat shows its channel, any other its budget or nothing, and each code takes its bits of the
command. -/
theorem seatCommandShowsTheSeat : Obligations.SeatCommandShowsTheSeat := by
  intro s n
  refine ⟨fun c hf hc => ?speaking, fun hf => ?offFloor, fun x hx => ?bytes⟩
  case speaking =>
    rw [State.seatShow, State.heldChannel_of_speaking hf hc]
    simp only [ringOf_eq]
    cases (s.chan c).timer.mode <;> rfl
  case offFloor =>
    rw [State.seatShow, State.heldChannel_of_off_floor hf]
    simp only [Bool.and_eq_true, and_assoc]
    split <;> rfl
  case bytes => exact seatCommandFrame_of_valid n hx

end Sys2Proof.Machine
end

section
/-! PROOF. The places of the request list: a list sorted by level is cut in two at any level, an entry placed by its
level stands at the cut behind its level group, a relisted one at the cut ahead of it, and a position counts the entries
ahead (R62, R65, R67, R69). -/

namespace Sys2Proof.Machine

/-! ### A sorted list cut at a level -/

/-- Where a property of an entry holds of every entry of a smaller or equal level, the entries that have it stand ahead
of those that do not. -/
theorem filter_append_filter_of_sorted {l : List Entry} (hl : l.Pairwise fun x y => x.effective ≤ y.effective)
    {p : Entry → Bool} (hp : ∀ x y, x.effective ≤ y.effective → p y = true → p x = true) :
    l.filter p ++ l.filter (fun x => !p x) = l := by
  induction l with
  | nil => rfl
  | cons x l ih =>
    obtain ⟨hx, hl⟩ := List.pairwise_cons.1 hl
    by_cases hpx : p x = true
    · rw [List.filter_cons_of_pos hpx, List.filter_cons_of_neg (by simp [hpx]), List.cons_append, ih hl]
    · have hnone : ∀ y ∈ x :: l, ¬ p y = true :=
        List.forall_mem_cons.2 ⟨hpx, fun y hy hpy => hpx (hp x y (hx y hy) hpy)⟩
      rw [List.filter_eq_nil_iff.2 hnone, List.nil_append, List.filter_eq_self]
      exact fun y hy => by simp [hnone y hy]

/-- The cut behind a level group. -/
theorem le_append_gt_of_sorted {l : List Entry} (hl : l.Pairwise fun x y => x.effective ≤ y.effective) (k : Level) :
    l.filter (fun x => decide (x.effective ≤ k)) ++ l.filter (fun x => decide (k < x.effective)) = l := by
  simpa [← decide_not] using filter_append_filter_of_sorted hl (p := fun x => decide (x.effective ≤ k))
    fun x y hxy hy => decide_eq_true (hxy.trans (of_decide_eq_true hy))

/-- The cut ahead of a level group. -/
theorem lt_append_ge_of_sorted {l : List Entry} (hl : l.Pairwise fun x y => x.effective ≤ y.effective) (k : Level) :
    l.filter (fun x => decide (x.effective < k)) ++ l.filter (fun x => decide (k ≤ x.effective)) = l := by
  simpa [← decide_not] using filter_append_filter_of_sorted hl (p := fun x => decide (x.effective < k))
    fun x y hxy hy => decide_eq_true (hxy.trans_lt (of_decide_eq_true hy))

/-! ### The place of an entry in a list cut at its level -/

namespace State

variable {e : Entry} {ahead behind : List Entry}

theorem placeEntry_append (hahead : ∀ x ∈ ahead, x.effective ≤ e.effective)
    (hbehind : ∀ x ∈ behind, e.effective < x.effective) : placeEntry e (ahead ++ behind) = ahead ++ e :: behind := by
  induction ahead with
  | nil =>
    cases behind with
    | nil => rfl
    | cons x l =>
      have hnone : ((x :: l).any fun y => y.effective ≤ e.effective) = false := by
        simpa only [List.any_eq_false, decide_eq_true_eq, not_le] using hbehind
      rw [List.nil_append, placeEntry, hnone]
      rfl
  | cons x l ih =>
    obtain ⟨hx, hl⟩ := List.forall_mem_cons.1 hahead
    have hsome : ((x :: (l ++ behind)).any fun y => y.effective ≤ e.effective) = true := by
      simp [hx]
    rw [List.cons_append, placeEntry, if_pos hsome, ih hl, List.cons_append]

theorem placeBefore_append (hahead : ∀ x ∈ ahead, x.effective ≠ e.effective)
    (hhead : ∀ x ∈ behind.head?, x.effective = e.effective) :
    placeBefore e (ahead ++ behind) = ahead ++ e :: behind := by
  induction ahead with
  | nil =>
    cases behind with
    | nil => rfl
    | cons x l => exact if_pos (hhead x rfl)
  | cons x l ih =>
    obtain ⟨hx, hl⟩ := List.forall_mem_cons.1 hahead
    rw [List.cons_append, placeBefore, if_neg hx, ih hl, List.cons_append]

/-- Both searches of a relisting end at the cut ahead of the level group: the first entry of the level, and with none of
that level the end of the smaller ones. -/
theorem placeRelisted_append (hahead : ∀ x ∈ ahead, x.effective < e.effective)
    (hbehind : ∀ x ∈ behind, e.effective ≤ x.effective)
    (hsorted : behind.Pairwise fun x y => x.effective ≤ y.effective) :
    placeRelisted e (ahead ++ behind) = ahead ++ e :: behind := by
  unfold placeRelisted
  split
  case isTrue hlevel =>
    refine placeBefore_append (fun x hx => (hahead x hx).ne) ?_
    obtain ⟨y, hy, hye⟩ : ∃ y ∈ behind, y.effective = e.effective := by
      obtain ⟨y, hy, hye⟩ := List.any_eq_true.1 hlevel
      have hye := of_decide_eq_true hye
      exact ⟨y, (List.mem_append.1 hy).resolve_left fun h => (hahead y h).ne hye, hye⟩
    cases behind with
    | nil => exact fun _ h => nomatch h
    | cons z l =>
      have hzy : z.effective ≤ y.effective := by
        obtain rfl | hyl := List.mem_cons.1 hy
        · exact le_rfl
        · exact List.rel_of_pairwise_cons hsorted hyl
      rintro _ ⟨rfl⟩
      exact le_antisymm (hzy.trans_eq hye) (hbehind _ List.mem_cons_self)
  case isFalse hnone =>
    have hne : ∀ x ∈ behind, x.effective ≠ e.effective := fun x hx heq =>
      hnone (List.any_eq_true.2 ⟨x, List.mem_append_right _ hx, decide_eq_true heq⟩)
    exact placeEntry_append (fun x hx => (hahead x hx).le) fun x hx => (hbehind x hx).lt_of_ne (hne x hx).symm

theorem placeEntry_of_sorted (e : Entry) {l : List Entry} (hl : l.Pairwise fun x y => x.effective ≤ y.effective) :
    placeEntry e l = l.filter (fun x => decide (x.effective ≤ e.effective)) ++
      e :: l.filter (fun x => decide (e.effective < x.effective)) := by
  conv_lhs => rw [← le_append_gt_of_sorted hl e.effective]
  exact placeEntry_append (fun x hx => of_decide_eq_true (List.mem_filter.1 hx).2)
    fun x hx => of_decide_eq_true (List.mem_filter.1 hx).2

theorem placeRelisted_of_sorted (e : Entry) {l : List Entry} (hl : l.Pairwise fun x y => x.effective ≤ y.effective) :
    placeRelisted e l = l.filter (fun x => decide (x.effective < e.effective)) ++
      e :: l.filter (fun x => decide (e.effective ≤ x.effective)) := by
  conv_lhs => rw [← lt_append_ge_of_sorted hl e.effective]
  exact placeRelisted_append (fun x hx => of_decide_eq_true (List.mem_filter.1 hx).2)
    (fun x hx => of_decide_eq_true (List.mem_filter.1 hx).2) (hl.filter _)

end State

/-! ### Positions -/

/-- A position is one more than the number of entries ahead (R37, R69). -/
theorem positionIn_append_cons {ahead : List Entry} {e : Entry} (h : e.seat ∉ ahead.map Entry.seat)
    (behind : List Entry) : positionIn (ahead ++ e :: behind) e.seat = ahead.length + 1 := by
  have hahead : (ahead.findIdx? fun x => x.seat == e.seat) = none := by
    simpa using h
  simp [positionIn, List.findIdx?_append, hahead, List.findIdx?_cons]

/-- Settles O16: a sorted list is cut behind or ahead of the entry's level group, and the entry stands at the cut. -/
theorem placesFollowTheLevelGroups : Obligations.PlacesFollowTheLevelGroups := by
  refine ⟨fun e l hl => ⟨State.placeEntry_of_sorted e hl, fun hnew => ?position⟩,
    fun e l hl => State.placeRelisted_of_sorted e hl⟩
  case position =>
    have hahead : e.seat ∉ (l.filter fun x => decide (x.effective ≤ e.effective)).map Entry.seat := fun h =>
      hnew ((List.filter_sublist.map Entry.seat).subset h)
    rw [State.placeEntry_of_sorted e hl, positionIn_append_cons hahead, Nat.add_comm]

end Sys2Proof.Machine
end

section
/-! PROOF. What a mark and a notice read of a state, and that neither reads what the other writes: two states that agree
in it are told of alike, in whatever order (R33, R167, R168). -/

namespace Sys2Proof.Machine

namespace State

/-- Two states agree in all that a mark or a notice reads or writes (R33, R167, R168). -/
structure TellsAlike (s t : State) : Prop where
  branches : t.branches = s.branches
  floorCfg : t.floorCfg = s.floorCfg
  ports : t.ports = s.ports
  uplink : t.uplink = s.uplink
  list : t.list = s.list
  floor : t.floor = s.floor
  mgmt : t.mgmt = s.mgmt

variable {s t u : State}

theorem TellsAlike.trans (h : TellsAlike s t) (g : TellsAlike t u) : TellsAlike s u :=
  ⟨g.branches.trans h.branches, g.floorCfg.trans h.floorCfg, g.ports.trans h.ports, g.uplink.trans h.uplink,
    g.list.trans h.list, g.floor.trans h.floor, g.mgmt.trans h.mgmt⟩

theorem TellsAlike.port (h : TellsAlike s t) (b : BranchId) : t.port b = s.port b := by
  cases b <;> simp only [State.port, h.ports]

theorem TellsAlike.updPort (h : TellsAlike s t) (b : BranchId) (f : BranchPort → BranchPort) :
    TellsAlike (s.updPort b f) (t.updPort b f) where
  branches := h.branches
  floorCfg := h.floorCfg
  ports := ports_ext fun b' => by rw [port_updPort, port_updPort, h.port b']
  uplink := h.uplink
  list := h.list
  floor := h.floor
  mgmt := h.mgmt

theorem TellsAlike.mark (h : TellsAlike s t) (n : SeatNo) : TellsAlike (s.mark n) (t.mark n) := by
  unfold State.mark
  rw [h.branches]
  split
  · exact h
  · next b _ =>
    rw [h.port b]
    split
    · exact h.updPort b _
    · exact h

theorem TellsAlike.enqueue (h : TellsAlike s t) (x : Notice) : TellsAlike (s.enqueue x) (t.enqueue x) := by
  unfold State.enqueue
  rw [h.uplink, h.mgmt]
  split
  · exact ⟨h.branches, h.floorCfg, h.ports, rfl, h.list, h.floor, rfl⟩
  · exact ⟨h.branches, h.floorCfg, h.ports, h.uplink, h.list, h.floor, rfl⟩

theorem TellsAlike.notice (h : TellsAlike s t) (k : NoticeKind) (n : Option SeatNo) (c : Option ChanNo)
    (r : Option Reason) : TellsAlike (s.notice k n c r) (t.notice k n c r) := by
  have hon : t.notifies k = s.notifies k := by simp only [notifies, h.floorCfg]
  have hfill : t.fill = s.fill := by simp only [fill, h.list]
  unfold State.notice
  rw [hon, hfill, h.floor]
  split
  · exact h.enqueue _
  · exact h

/-! ### A mark and a notice commute -/

theorem mark_withMgmt (s : State) (n : SeatNo) (m : Management) : (s.withMgmt m).mark n = (s.mark n).withMgmt m := by
  unfold mark
  simp only [withMgmt_branches, withMgmt_port]
  split
  · rfl
  · rw [apply_ite (withMgmt m)]
    rfl

theorem mark_withUplink (s : State) (n : SeatNo) (v : UplinkPort) :
    (s.withUplink v).mark n = (s.mark n).withUplink v := by
  unfold mark
  simp only [withUplink_branches, withUplink_port]
  split
  · rfl
  · rw [apply_ite (withUplink v)]
    rfl

theorem enqueue_mark (s : State) (n : SeatNo) (x : Notice) : (s.mark n).enqueue x = (s.enqueue x).mark n := by
  unfold enqueue
  rw [mark_uplink, mark_mgmt]
  split
  · rw [mark_withMgmt, mark_withUplink]
  · rw [mark_withMgmt]

theorem notice_mark (s : State) (m : SeatNo) (k : NoticeKind) (n : Option SeatNo) (c : Option ChanNo)
    (r : Option Reason) : (s.mark m).notice k n c r = (s.notice k n c r).mark m := by
  have hon : (s.mark m).notifies k = s.notifies k := by simp only [notifies, mark_floorCfg]
  unfold notice
  rw [hon, mark_fill, mark_floor, enqueue_mark]
  split <;> rfl

/-- A mark reaches the ports alone. -/
theorem TellsAlike.of_mark {n : SeatNo} (h : TellsAlike (s.mark n) t) : t.uplink = s.uplink ∧ t.mgmt = s.mgmt :=
  ⟨h.uplink.trans (mark_uplink s n), h.mgmt.trans (mark_mgmt s n)⟩

/-! ### The state by the fields an act of the floor can write -/

/-- A grant, a close or a list change is told whole by the seven fields it can write. -/
theorem GrantFrame.eq_with (h : GrantFrame s t) :
    t = ((((((s.withList t.list).withSeats t.seats).withChannels t.channels).withGrantOrder t.grantOrder).withPorts
      t.ports).withUplink t.uplink).withMgmt t.mgmt := by
  obtain ⟨hframe, hfloorCfg, hholders, hfloor, -⟩ := h
  obtain ⟨hnow, -, hrefusal, hclasses, hbranches, -, -, -, hprofile, hstartUp, hfree, hpending⟩ := hframe
  cases s
  cases t
  cases hfloorCfg
  cases hholders
  cases hfloor
  cases hnow
  cases hrefusal
  cases hclasses
  cases hbranches
  cases hprofile
  cases hstartUp
  cases hfree
  cases hpending
  rfl

end State

end Sys2Proof.Machine
end

section
/-! PROOF. A grant as one act: the channel it takes, the record it sets there, and what it tells (R85 to R88). -/

namespace Sys2Proof.Machine

theorem Channel.busy_iff (k : Channel) : k.busy = true ↔ k.state ≠ .free := by
  rw [busy, bne_iff_ne]

namespace State

/-- R85, from the channel's side. -/
theorem lowestFree_of_least {s : State} {c : ChanNo} (hc : (s.chan c).state = .free)
    (hleast : ∀ c' : ChanNo, c' < c → (s.chan c').state ≠ .free) : s.lowestFree = some c := by
  cases h : s.lowestFree with
  | none => exact absurd hc ((Channel.busy_iff _).1 ((lowestFree_eq_none s).1 h c))
  | some d =>
    obtain ⟨hd, hbelow⟩ := lowestFree_eq_some s d h
    obtain hlt | heq | hgt := lt_trichotomy d c
    · exact absurd hd (hleast d hlt)
    · rw [heq]
    · exact absurd hc ((Channel.busy_iff _).1 (hbelow c hgt))

/-- The exclusions of R88. -/
theorem canGrant_eq_false {s : State} {n : SeatNo} (h : (s.seat n).run.present = false ∨
    (s.seat n).run.floor = .speaking ∨ ∀ c : ChanNo, (s.chan c).state ≠ .free) : s.canGrant n = false := by
  rw [← Bool.not_eq_true, canGrant_iff]
  rintro ⟨hpresent, hoff, c, hc⟩
  obtain habsent | hspeaks | hnone := h
  · exact absurd hpresent (by simp [habsent])
  · exact hoff hspeaks
  · exact hnone c (lowestFree_eq_some s c hc).1

theorem entryOf_isSome_iff (s : State) (n : SeatNo) :
    (s.entryOf n).isSome = true ↔ n ∈ s.list.entries.map Entry.seat := by
  simp [entryOf]

theorem takeGranted_eq (s : State) (n : SeatNo) :
    s.takeGranted n = if n ∈ s.list.entries.map Entry.seat then s.takeOut n .granted else s := by
  simp only [takeGranted, entryOf_isSome_iff]

/-- The causes, the kind and the new records of R86 and R87. -/
theorem grantedChannel_eq (s : State) (n : SeatNo) (k : TurnKind) (l : Level) (asHolder : Bool) :
    s.grantedChannel n k l asHolder =
      let kind := if (s.seat n).cfg.cls = .chair then .chair else k
      let prio := decide (s.holders ≠ []) && decide (n ∉ s.holders) && !asHolder
      let susp := decide (s.floor = .suspended) && decide (kind ≠ .chair)
      { state := if prio || susp then .held else .opened, seat := some n, kind := some kind, level := some l
        priority := prio, suspend := susp
        timer := startTimer s.classes kind (s.seat n).cfg (s.seat n).run.budget
        detector := { voice := false, level := 0, peak := 0, run := 0 } } := by
  have hcauses (kind : TurnKind) : s.grantCauses n kind asHolder =
      (decide (s.holders ≠ []) && decide (n ∉ s.holders) && !asHolder,
        decide (s.floor = .suspended) && decide (kind ≠ .chair)) := by
    have hempty : s.holders.isEmpty = decide (s.holders = []) := by rw [Bool.eq_iff_iff]; simp
    simp [grantCauses, beq_eq_decide, bne, hempty]
  unfold grantedChannel
  simp only [hcauses]
  rfl

/-- The notices of a grant: GRANTED, and HELD with its cause where the channel is HELD at once (R87). -/
def tellGrant (n : SeatNo) (c : ChanNo) (k : Channel) (s : State) : State :=
  let told := s.notice .granted (some n) (some c) none
  if k.state = .held then
    told.notice .held (some n) (some c) (some (if k.priority then .priority else .suspend))
  else told

/-- A granted channel is HELD exactly when it has a cause, and PRIORITY is told of before SUSPEND (R87). -/
theorem tellGrant_grantedChannel (s t : State) (n m : SeatNo) (c : ChanNo) (k : TurnKind) (l : Level)
    (asHolder : Bool) : t.tellGrant n c (s.grantedChannel m k l asHolder) =
      let kind := if (s.seat m).cfg.cls = .chair then .chair else k
      let prio := decide (s.holders ≠ []) && decide (m ∉ s.holders) && !asHolder
      let susp := decide (s.floor = .suspended) && decide (kind ≠ .chair)
      let told := t.notice .granted (some n) (some c) none
      if prio || susp then
        told.notice .held (some n) (some c) (some (if prio then .priority else .suspend)) else told := by
  have hheld (v : Bool) : (if v then ChanState.held else .opened) = .held ↔ v = true := by cases v <;> simp
  rw [grantedChannel_eq, tellGrant]
  simp only [hheld]

@[simp] theorem tellGrant_ports (s : State) (n : SeatNo) (c : ChanNo) (k : Channel) :
    (s.tellGrant n c k).ports = s.ports := by
  unfold tellGrant
  split <;> simp

theorem tellGrant_mark (s : State) (m n : SeatNo) (c : ChanNo) (k : Channel) :
    (s.mark m).tellGrant n c k = (s.tellGrant n c k).mark m := by
  unfold tellGrant
  simp only [notice_mark]
  split <;> rfl

theorem TellsAlike.tellGrant {s t : State} (h : TellsAlike s t) (n : SeatNo) (c : ChanNo) (k : Channel) :
    TellsAlike (s.tellGrant n c k) (t.tellGrant n c k) := by
  unfold State.tellGrant
  split
  · exact (h.notice _ _ _ _).notice _ _ _ _
  · exact h.notice _ _ _ _

/-- What a grant marks and tells is what the removal of its entry left to mark and tell (R71, R87). -/
theorem grant_tellsAlike {s : State} {n : SeatNo} {c : ChanNo} (k : TurnKind) (l : Level) (asHolder : Bool)
    (h : s.canGrant n = true) (hc : s.lowestFree = some c) :
    TellsAlike (((s.takeGranted n).mark n).tellGrant n c (s.grantedChannel n k l asHolder))
      (s.grant n k l asHolder) := by
  have hset (ch : Channel) (o : List ChanNo) : TellsAlike (s.takeGranted n)
      ((((s.takeGranted n).setChan c ch).withGrantOrder o).seatFloor n .speaking (some c)) :=
    ⟨rfl, rfl, rfl, rfl, rfl, rfl, rfl⟩
  unfold grant
  rw [if_pos h, hc]
  dsimp only
  rw [takeGranted_grantedChannel]
  exact ((hset _ _).mark n).tellGrant n c _

end State

/-- Settles O18: the list, the channels and the seats follow from what a grant leaves, the ports and the uplink from
what it tells. -/
theorem grantTakesTheLowestFreeChannel : Obligations.GrantTakesTheLowestFreeChannel := by
  intro s n k l asHolder
  refine ⟨fun h => State.grant_of_not_canGrant s n k l asHolder (State.canGrant_eq_false h),
    fun c hpresent hoff hfree hleast => ?made⟩
  case made =>
    have hc := State.lowestFree_of_least hfree hleast
    have hcan : s.canGrant n = true := (s.canGrant_iff n).2 ⟨hpresent, hoff, c, hc⟩
    obtain ⟨hchan, horder, hseat, hlist⟩ := s.grant_made n k l asHolder c hcan hc
    have htold := State.grant_tellsAlike k l asHolder hcan hc
    have hports := htold.ports
    rw [State.tellGrant_mark] at htold
    have hlast := htold.of_mark
    rw [State.tellGrant_ports, State.takeGranted_eq] at hports
    rw [State.takeGranted_eq, State.tellGrant_grantedChannel] at hlast
    rw [State.takeGranted_eq] at hlist
    simp only [State.grantedChannel_eq, eq_comm (a := c)] at hchan
    simp only [eq_comm (a := n)] at hseat
    exact ⟨hchan, horder, hseat, hlist, hports, hlast, (s.grant_grantFrame n k l asHolder).eq_with⟩

end Sys2Proof.Machine
end

section
/-! PROOF. A close as one act, and a close that is not taken (R89, R91, R140). -/

namespace Sys2Proof.Machine

namespace State

/-- The condition of R91. -/
theorem canClose_iff (s : State) (c : ChanNo) (n : SeatNo) :
    s.canClose c n = true ↔ (s.chan c).state ≠ .free ∧ (s.chan c).seat = some n := by
  simp only [canClose, Bool.and_eq_true, Channel.busy_iff, beq_iff_eq]

theorem canClose_eq_false_iff (s : State) (c : ChanNo) (n : SeatNo) :
    s.canClose c n = false ↔ (s.chan c).state = .free ∨ (s.chan c).seat ≠ some n := by
  rw [← Bool.not_eq_true, canClose_iff, not_and_or, not_not]

theorem deduct_tellsAlike (s : State) (n : SeatNo) (used : Nat) : TellsAlike s (s.deduct n used) := by
  unfold deduct
  split <;> exact ⟨rfl, rfl, rfl, rfl, rfl, rfl, rfl⟩

/-- A close marks its seat and tells of itself (R89). -/
theorem closeChannel_tellsAlike {s : State} {c : ChanNo} {n : SeatNo} (r : Reason) (h : s.canClose c n = true) :
    TellsAlike ((s.mark n).notice .closed (some n) (some c) (some r)) (s.closeChannel c n r) := by
  have hset (f : Channel → Channel) (o : List ChanNo) (u : State) :
      TellsAlike u (((u.updChan c f).withGrantOrder o).seatFloor n .idle none) :=
    ⟨rfl, rfl, rfl, rfl, rfl, rfl, rfl⟩
  unfold closeChannel
  rw [if_pos h]
  exact (((deduct_tellsAlike s n _).trans (hset _ _ _)).mark n).notice _ _ _ _

end State

/-- Settles O19: the channel, the grant order and the seat follow from what a close leaves, the ports and the uplink
from what it tells. -/
theorem closeEndsTheTurn : Obligations.CloseEndsTheTurn := by
  intro s c n r
  refine ⟨fun h => ?notTaken, fun hbusy hheld => ?taken⟩
  case notTaken =>
    have hno := (s.canClose_eq_false_iff c n).2 h
    exact ⟨s.closeChannel_of_not_canClose c n r hno, by simp [State.closeAndFill, hno]⟩
  case taken =>
    have hcan := (s.canClose_iff c n).2 ⟨hbusy, hheld⟩
    obtain ⟨hchan, horder, hseat⟩ := s.closeChannel_taken c n r hcan
    have htold := State.closeChannel_tellsAlike r hcan
    have hports := htold.ports
    rw [State.notice_mark] at htold
    obtain ⟨huplink, hmgmt⟩ := htold.of_mark
    have hwhole := (s.closeChannel_grantFrame c n r).eq_with
    rw [State.notice_ports] at hports
    rw [State.closeChannel_list] at hwhole
    refine ⟨fun c' => ?_, horder, ?_, hports, huplink, hmgmt, hwhole, by simp [State.closeAndFill, hcan]⟩
    · obtain rfl | hne := eq_or_ne c' c
      · simp only [hchan, if_true]
      · rw [hchan, if_neg hne.symm, if_neg hne]
    · simpa only [eq_comm (a := n)] using hseat

end Sys2Proof.Machine
end

section
/-! PROOF. An audio block that its port hands on: stray, forwarded zeroed, or forwarded and measured (R40, R97, R98,
R146, R149). -/

namespace Sys2Proof.Machine

/-! ### The samples of a block -/

theorem pairUp_length (l : List Byte) : (pairUp l).length = (l.length + 1) / 2 := by
  match l with
  | [] => rfl
  | [_] => simp [pairUp]
  | _ :: _ :: l =>
    simp only [pairUp, List.length_cons, pairUp_length l]
    omega

/-- A payload of 99 bytes carries 48 samples (2.8). -/
theorem readBlock_samples_length {l : List Byte} {x : Block} (h : readBlock l = some x) (hl : l.length = 99) :
    x.samples.length = 48 := by
  match l, h with
  | _ :: _ :: _ :: l, h =>
    cases h
    simp only [List.length_cons] at hl
    rw [pairUp_length]
    omega

/-- The release check of R149. -/
theorem releasesSilence_iff (f : FloorConfig) (kind : Option TurnKind) (d : Detector) :
    releasesSilence f kind d = true ↔
      1 ≤ f.silenceS ∧ f.silenceS ≤ 120 ∧ kind ≠ some .chair ∧ f.silenceS * 1000 ≤ d.run := by
  simp [releasesSilence, and_assoc]

namespace State

variable {s : State} {b : BranchId} {f : Frame} {n : SeatNo} {x : Block}

/-! ### From the port to the channel -/

theorem HearsBlock.inBranch (h : HearsBlock s b f n x) : s.inBranch b x.seat = some n := by
  simp [State.inBranch, h.seat, h.range]

/-- A sound audio frame within the branch's range is handed on (R29). -/
theorem HearsBlock.inspect (h : HearsBlock s b f n x) : s.inspect b f = .audio n x := by
  simp [State.inspect, sortFrame, h.sound, h.kind, h.length, h.fields, h.inBranch, kindSeatAudio, kindSeatReport]

theorem HearsBlock.exec (h : HearsBlock s b f n x) : exec (.seatAudio b f) s = .next (s.seatBlock b n x) := by
  rw [exec_branch_frame s (.inr rfl)]
  simp [arrive, h.up, h.enabled, h.inspect]

theorem HearsBlock.samples_length (h : HearsBlock s b f n x) : x.samples.length = 48 :=
  readBlock_samples_length h.fields h.length

/-! ### Stray or taken -/

/-- A block that fails any of the conditions of R97 is counted and goes no further. -/
theorem seatBlock_of_stray (b : BranchId) (h : 16 ≤ x.chan ∨ ∀ c : ChanNo, c.val = x.chan → s.canClose c n = false) :
    s.seatBlock b n x = s.updPort b fun p => { p with audioStray := min 65535 (p.audioStray + 1) } := by
  unfold seatBlock
  split
  · next hlt =>
    obtain hge | hno := h
    · omega
    · rw [hno ⟨x.chan, hlt⟩ rfl]
      rfl
  · rfl

theorem seatBlock_of_taken (b : BranchId) {c : ChanNo} (hc : c.val = x.chan) (h : s.canClose c n = true) :
    s.seatBlock b n x = s.takeBlock c n x.samples := by
  have hlt : x.chan < 16 := hc ▸ c.isLt
  obtain rfl : c = ⟨x.chan, hlt⟩ := Fin.ext hc
  rw [seatBlock, dif_pos hlt, if_pos h]

/-! ### What its channel does with it -/

variable {c : ChanNo}

@[simp] theorem forward_floorCfg (s : State) (y : AudioFrame) : (s.forward y).floorCfg = s.floorCfg := by
  unfold forward
  split <;> rfl

@[simp] theorem forward_chan (s : State) (y : AudioFrame) (c : ChanNo) : (s.forward y).chan c = s.chan c := by
  unfold forward
  split <;> rfl

theorem takeBlock_of_held (n : SeatNo) (l : List Half) (h : (s.chan c).state = .held) :
    s.takeBlock c n l = s.forward ⟨c, n, true, List.replicate l.length 0⟩ := if_pos h

theorem takeBlock_of_opened (n : SeatNo) (l : List Half) (h : (s.chan c).state = .opened) :
    s.takeBlock c n l = (s.forward ⟨c, n, false, l⟩).measureBlock c n l := if_neg (by rw [h]; decide)

/-- The block is measured before the release check reads the silence run (R146, R149). -/
theorem measureBlock_eq (s : State) (c : ChanNo) (n : SeatNo) (l : List Half) :
    s.measureBlock c n l =
      let d := measure s.floorCfg (s.chan c).detector (blockLevel l)
      let s1 := s.updChan c fun k => { k with detector := d }
      if 1 ≤ s.floorCfg.silenceS ∧ s.floorCfg.silenceS ≤ 120 ∧ (s.chan c).kind ≠ some .chair
          ∧ s.floorCfg.silenceS * 1000 ≤ d.run then s1.closeAndFill c n .silence else s1 := by
  unfold measureBlock
  simp only [releasesSilence_iff, updChan_floorCfg, chan_updChan_self]

end State

/-- Settles O33: the port hands the block on, its channel's holder decides whether it is stray, and the channel's state
what goes on. -/
theorem audioFollowsTheChannel : Obligations.AudioFollowsTheChannel := by
  intro b f s n x h
  dsimp only
  rw [h.exec]
  refine ⟨fun hstray => ?stray, fun c hc hseat => ⟨fun hheld => ?held, fun hopen => ?opened⟩⟩
  case stray =>
    rw [State.seatBlock_of_stray b (hstray.imp_right fun hno c hc => (s.canClose_eq_false_iff c n).2 (hno c hc))]
  case held =>
    have hcan := (s.canClose_iff c n).2 ⟨by rw [hheld]; decide, hseat⟩
    rw [State.seatBlock_of_taken b hc hcan, State.takeBlock_of_held n _ hheld, h.samples_length]
    rfl
  case opened =>
    have hcan := (s.canClose_iff c n).2 ⟨by rw [hopen]; decide, hseat⟩
    refine ⟨h.samples_length, ?_⟩
    rw [State.seatBlock_of_taken b hc hcan, State.takeBlock_of_opened n _ hopen, State.measureBlock_eq]
    simp only [State.forward_floorCfg, State.forward_chan]
    rfl

end Sys2Proof.Machine
end

section
/-! PROOF. The fill rule as a run of grants: each one it makes takes a FREE channel, so the rule stops before its passes
run out, and what one grant keeps the rule keeps (R104, R105). -/

namespace Sys2Proof.Machine

namespace State

variable {s t u : State}

/-! ### Choices by their conditions -/

theorem lowestFree_eq_none_iff (s : State) : s.lowestFree = none ↔ ∀ c : ChanNo, (s.chan c).state ≠ .free := by
  simp only [lowestFree_eq_none, Channel.busy_iff]

theorem lowestFree_isSome_iff (s : State) : s.lowestFree.isSome = true ↔ ∃ c : ChanNo, (s.chan c).state = .free := by
  rw [Option.isSome_iff_ne_none, ne_eq, lowestFree_eq_none_iff, not_forall_not]

/-- R104. -/
theorem eligible_iff (s : State) (e : Entry) :
    s.eligible e = true ↔ e.effective ≤ s.floorCfg.gate ∧ e.exhausted = false := by
  simp [eligible]

theorem firstEligible_of_append {ahead behind : List Entry} {e : Entry} (hlist : s.list.entries = ahead ++ e :: behind)
    (hahead : ∀ x ∈ ahead, s.eligible x = false) (he : s.eligible e = true) : s.firstEligible = some e := by
  rw [firstEligible, hlist, List.find?_eq_some_iff_append]
  exact ⟨he, ahead, behind, rfl, fun x hx => by rw [hahead x hx]; rfl⟩

theorem firstEligible_mem {e : Entry} (h : s.firstEligible = some e) : e ∈ s.list.entries := List.mem_of_find?_eq_some h

theorem mem_seats_without (l : List Entry) (n m : SeatNo) :
    m ∈ (without l n).map Entry.seat ↔ m ≠ n ∧ m ∈ l.map Entry.seat := by
  simp only [without, List.mem_map, List.mem_filter, bne_iff_ne]
  constructor
  · rintro ⟨e, ⟨he, hne⟩, rfl⟩
    exact ⟨hne, e, he, rfl⟩
  · rintro ⟨hne, e, he, rfl⟩
    exact ⟨e, ⟨he, hne⟩, rfl⟩

/-! ### Every entry can be granted -/

/-- The seats that entries name can be granted: each is PRESENT and none is SPEAKING (R8, R17). -/
def ListedReady (s : State) : Prop :=
  ∀ e ∈ s.list.entries, (s.seat e.seat).run.present = true ∧ (s.seat e.seat).run.floor ≠ .speaking

theorem FloorOk.listedReady (h : s.FloorOk) : s.ListedReady := by
  obtain ⟨-, -, hseats, -, -, hpresence, -⟩ := h
  intro e he
  have hwaiting := (hseats e.seat).1.2 (List.mem_map_of_mem he)
  refine ⟨?_, by rw [hwaiting]; decide⟩
  by_contra habsent
  have hidle := ((hpresence e.seat).1 (by simpa using habsent)).1
  rw [hwaiting] at hidle
  exact nomatch hidle

/-- What a grant leaves, made or not (R87, R88). -/
theorem grant_cases (s : State) (n : SeatNo) (k : TurnKind) (l : Level) (asHolder : Bool) :
    (s.canGrant n = false ∧ s.grant n k l asHolder = s) ∨ ∃ c : ChanNo, s.lowestFree = some c
      ∧ (∀ c' : ChanNo, (s.grant n k l asHolder).chan c' =
          if c = c' then s.grantedChannel n k l asHolder else s.chan c')
      ∧ (∀ n' : SeatNo, (s.grant n k l asHolder).seat n' = if n = n' then
          ⟨(s.seat n').cfg, { (s.seat n').run with floor := .speaking, chan := some c }⟩ else s.seat n')
      ∧ (s.grant n k l asHolder).list.entries = without s.list.entries n := by
  cases h : s.canGrant n with
  | false => exact .inl ⟨rfl, grant_of_not_canGrant s n k l asHolder h⟩
  | true =>
    obtain ⟨-, -, c, hc⟩ := (s.canGrant_iff n).1 h
    obtain ⟨hchan, -, hseat, hlist⟩ := s.grant_made n k l asHolder c h hc
    exact .inr ⟨c, hc, hchan, hseat, by rw [hlist, takeGranted_entries]⟩

theorem ListedReady.grant (h : s.ListedReady) (n : SeatNo) (k : TurnKind) (l : Level) (asHolder : Bool) :
    (s.grant n k l asHolder).ListedReady := by
  obtain ⟨-, hsame⟩ | ⟨c, -, -, hseat, hlist⟩ := s.grant_cases n k l asHolder
  · rwa [hsame]
  · intro e he
    rw [hlist, without, List.mem_filter, bne_iff_ne] at he
    rw [hseat, if_neg he.2.symm]
    exact h e he.1

/-! ### The channels that are FREE -/

/-- The channels that are FREE. -/
def freeChannels (s : State) : Finset ChanNo := Finset.univ.filter fun c => (s.chan c).state = .free

theorem mem_freeChannels (s : State) (c : ChanNo) : c ∈ s.freeChannels ↔ (s.chan c).state = .free := by
  simp [freeChannels]

/-- A granted channel is OPEN or HELD (R87). -/
theorem grantedChannel_state_ne_free (s : State) (n : SeatNo) (k : TurnKind) (l : Level) (asHolder : Bool) :
    (s.grantedChannel n k l asHolder).state ≠ .free := by
  simp only [grantedChannel]
  split <;> decide

/-- A grant that is made takes a FREE channel (R85). -/
theorem grant_freeChannels_lt {n : SeatNo} (k : TurnKind) (l : Level) (asHolder : Bool) (h : s.canGrant n = true) :
    (s.grant n k l asHolder).freeChannels.card < s.freeChannels.card := by
  obtain ⟨hno, -⟩ | ⟨c, hc, hchan, -⟩ := s.grant_cases n k l asHolder
  · exact absurd h (by simp [hno])
  have htaken : c ∉ (s.grant n k l asHolder).freeChannels := by
    rw [mem_freeChannels, hchan, if_pos rfl]
    exact grantedChannel_state_ne_free s n k l asHolder
  have hfree : c ∈ s.freeChannels := (mem_freeChannels s c).2 (lowestFree_eq_some s c hc).1
  refine Finset.card_lt_card ((Finset.ssubset_iff_of_subset fun d hd => ?_).2 ⟨c, hfree, htaken⟩)
  have hne : c ≠ d := fun heq => htaken (heq ▸ hd)
  rwa [mem_freeChannels, hchan, if_neg hne, ← mem_freeChannels] at hd

theorem ListedReady.canGrant (h : s.ListedReady) {e : Entry} (he : s.firstEligible = some e)
    (hfree : s.lowestFree.isSome = true) : s.canGrant e.seat = true := by
  obtain ⟨hpresent, hoff⟩ := h e (firstEligible_mem he)
  exact (s.canGrant_iff e.seat).2 ⟨hpresent, hoff, Option.isSome_iff_exists.1 hfree⟩

/-! ### Where the passes end -/

/-- The fill rule has no more to grant: the count is at the open limit, no channel is FREE, or no entry is eligible
(R105). -/
def FillStops (s : State) : Prop :=
  s.floorCfg.limit ≤ s.nonChairCount ∨ s.lowestFree = none ∨ s.firstEligible = none

theorem fillLoop_of_stops (h : s.FillStops) (k : Nat) : s.fillLoop k = s := by
  cases k with
  | zero => rfl
  | succ k =>
    obtain ⟨hsame, -⟩ | ⟨e, hcount, hfree, he, -⟩ := fillLoop_succ k s
    · exact hsame
    · obtain hfull | hnone | hnone := h
      · omega
      · simp [hnone] at hfree
      · simp [hnone] at he

theorem fillLoop_stops {k : Nat} (h : s.ListedReady) (hk : s.freeChannels.card ≤ k) : (s.fillLoop k).FillStops := by
  induction k generalizing s with
  | zero =>
    refine .inr (.inl ((lowestFree_eq_none_iff s).2 fun c hc => ?_))
    have hempty := Finset.card_eq_zero.1 (Nat.le_zero.1 hk)
    exact absurd ((mem_freeChannels s c).2 hc) (by simp [hempty])
  | succ k ih =>
    obtain ⟨hsame, hstops⟩ | ⟨e, -, hfree, he, hstep⟩ := fillLoop_succ k s
    · rwa [hsame]
    · rw [hstep]
      have hless := grant_freeChannels_lt e.kind.turn e.effective false (h.canGrant he hfree)
      exact ih (h.grant _ _ _ _) (by omega)

/-- One pass more than there are FREE channels changes nothing. -/
theorem fillLoop_succ_eq {k : Nat} (h : s.ListedReady) (hk : s.freeChannels.card ≤ k) :
    s.fillLoop (k + 1) = s.fillLoop k := by
  induction k generalizing s with
  | zero => exact fillLoop_of_stops (fillLoop_stops h hk) 1
  | succ k ih =>
    obtain ⟨hsame, hstops⟩ | ⟨e, hcount, hfree, he, hstep⟩ := fillLoop_succ (k + 1) s
    · rw [hsame, fillLoop_of_stops hstops]
    · obtain ⟨-, hstops⟩ | ⟨e', -, -, he', hstep'⟩ := fillLoop_succ k s
      · rw [fillLoop_of_stops hstops, fillLoop_of_stops hstops]
      · obtain rfl : e = e' := Option.some.inj (he.symm.trans he')
        have hless := grant_freeChannels_lt e.kind.turn e.effective false (h.canGrant he hfree)
        rw [hstep, hstep', ih (h.grant _ _ _ _) (by omega)]

theorem fillRule_of_open (hfloor : s.floor = .opened) (hmode : s.floorCfg.mode ≠ .directed) :
    s.fillRule = s.fillLoop 16 := by
  rw [fillRule, if_pos (by simpa [hfloor] using hmode)]

theorem fillRule_of_stops (h : s.FillStops) : s.fillRule = s := by
  rw [fillRule, fillLoop_of_stops h, ite_self]

theorem fillRule_stops (h : s.ListedReady) (hfloor : s.floor = .opened) (hmode : s.floorCfg.mode ≠ .directed) :
    s.fillRule.FillStops := by
  rw [fillRule_of_open hfloor hmode]
  exact fillLoop_stops h (card_finset_fin_le _)

/-- One pass of the fill rule, and the fill rule after it (R105). -/
theorem fillRule_step {e : Entry} (h : s.ListedReady) (hfloor : s.floor = .opened) (hmode : s.floorCfg.mode ≠ .directed)
    (hcount : s.nonChairCount < s.floorCfg.limit) (hfree : s.lowestFree.isSome = true)
    (he : s.firstEligible = some e) :
    s.fillRule = (s.grant e.seat e.kind.turn e.effective false).fillRule := by
  have hframe := s.grant_grantFrame e.seat e.kind.turn e.effective false
  have hless := grant_freeChannels_lt e.kind.turn e.effective false (h.canGrant he hfree)
  have hbound : s.freeChannels.card ≤ 16 := card_finset_fin_le _
  rw [fillRule_of_open hfloor hmode, fillRule_of_open (hframe.floor.trans hfloor) (by rwa [hframe.floorCfg]),
    fillLoop_succ_eq (h.grant _ _ _ _) (by omega)]
  obtain ⟨-, hstops⟩ | ⟨e', -, -, he', hstep⟩ := fillLoop_succ 15 s
  · obtain hfull | hnone | hnone := hstops
    · omega
    · simp [hnone] at hfree
    · simp [hnone] at he
  · obtain rfl : e = e' := Option.some.inj (he.symm.trans he')
    exact hstep

/-! ### What every pass keeps -/

/-- What holds of the states around one grant the fill rule makes, and carries over from one to the next, holds of the
states around the rule. -/
theorem fillRule_induct {R : State → State → Prop} (refl : ∀ s, R s s) (trans : ∀ s t u, R s t → R t u → R s u)
    (step : ∀ (s : State) (e : Entry), s.nonChairCount < s.floorCfg.limit →
      R s (s.grant e.seat e.kind.turn e.effective false)) (s : State) : R s s.fillRule := by
  have loop (k : Nat) (s : State) : R s (s.fillLoop k) := by
    induction k generalizing s with
    | zero => exact refl s
    | succ k ih =>
      obtain ⟨hsame, -⟩ | ⟨e, hcount, -, -, hstep⟩ := fillLoop_succ k s
      · rw [hsame]
        exact refl s
      · rw [hstep]
        exact trans _ _ _ (step s e hcount) (ih _)
  unfold fillRule
  split
  · exact loop 16 s
  · exact refl s

/-- What grants do: busy channels stand, entries only leave, and a seat whose entry has left is SPEAKING (R87). -/
structure Serves (s t : State) : Prop where
  chan : ∀ c : ChanNo, (s.chan c).state ≠ .free → t.chan c = s.chan c
  entries : t.list.entries.Sublist s.list.entries
  speaking : ∀ n : SeatNo, (s.seat n).run.floor = .speaking → (t.seat n).run.floor = .speaking
  served : ∀ n : SeatNo, n ∈ s.list.entries.map Entry.seat → n ∉ t.list.entries.map Entry.seat →
    (t.seat n).run.floor = .speaking

theorem Serves.refl (s : State) : Serves s s := ⟨fun _ _ => rfl, .refl _, fun _ h => h, fun _ h g => absurd h g⟩

theorem Serves.trans (h : Serves s t) (g : Serves t u) : Serves s u where
  chan c hc := by rw [g.chan c (by rwa [h.chan c hc]), h.chan c hc]
  entries := g.entries.trans h.entries
  speaking n hn := g.speaking n (h.speaking n hn)
  served n hn hgone := by
    by_cases ht : n ∈ t.list.entries.map Entry.seat
    · exact g.served n ht hgone
    · exact g.speaking n (h.served n hn ht)

theorem grant_serves (s : State) (n : SeatNo) (k : TurnKind) (l : Level) (asHolder : Bool) :
    Serves s (s.grant n k l asHolder) := by
  obtain ⟨-, hsame⟩ | ⟨c, hc, hchan, hseat, hlist⟩ := s.grant_cases n k l asHolder
  · rw [hsame]
    exact .refl s
  have hspeaks : ((s.grant n k l asHolder).seat n).run.floor = .speaking := by rw [hseat, if_pos rfl]
  refine ⟨fun d hd => ?chan, ?entries, fun m hm => ?speaking, fun m hm hgone => ?served⟩
  case chan =>
    rw [hchan, if_neg]
    rintro rfl
    exact hd (lowestFree_eq_some s c hc).1
  case entries =>
    rw [hlist]
    exact List.filter_sublist
  case speaking =>
    obtain rfl | hne := eq_or_ne n m
    · exact hspeaks
    · rwa [hseat, if_neg hne]
  case served =>
    rw [hlist, mem_seats_without] at hgone
    obtain rfl : m = n := by_contra fun hne => hgone ⟨hne, hm⟩
    exact hspeaks

theorem fillRule_serves (s : State) : Serves s s.fillRule :=
  fillRule_induct Serves.refl (fun _ _ _ => Serves.trans) (fun s _ _ => grant_serves s _ _ _ _) s

theorem nonChairCount_eq_card (s : State) :
    s.nonChairCount = (Finset.univ.filter fun c : ChanNo => (s.chan c).nonChair = true).card := by
  rw [nonChairCount, allChannels, ← List.toFinset_card_of_nodup ((List.nodup_finRange 16).filter _)]
  congr 1
  ext c
  simp

/-- A grant makes one channel busy at most. -/
theorem grant_nonChairCount_le (s : State) (n : SeatNo) (k : TurnKind) (l : Level) (asHolder : Bool) :
    (s.grant n k l asHolder).nonChairCount ≤ s.nonChairCount + 1 := by
  obtain ⟨-, hsame⟩ | ⟨c, -, hchan, -⟩ := s.grant_cases n k l asHolder
  · rw [hsame]
    exact Nat.le_succ _
  rw [nonChairCount_eq_card, nonChairCount_eq_card]
  refine (Finset.card_le_card fun d hd => ?_).trans (Finset.card_insert_le c _)
  rw [Finset.mem_insert]
  obtain rfl | hne := eq_or_ne d c
  · exact .inl rfl
  · refine .inr ?_
    simp only [Finset.mem_filter, Finset.mem_univ, true_and] at hd ⊢
    rwa [hchan, if_neg hne.symm] at hd

theorem fillRule_nonChairCount_le (s : State) : s.fillRule.nonChairCount ≤ max s.nonChairCount s.floorCfg.limit := by
  refine (fillRule_induct (R := fun s t => t.floorCfg = s.floorCfg ∧
    t.nonChairCount ≤ max s.nonChairCount s.floorCfg.limit) (fun s => ⟨rfl, le_max_left _ _⟩) ?_ ?_ s).2
  · rintro s t u ⟨hcfg, hcount⟩ ⟨hcfg', hcount'⟩
    rw [hcfg] at hcount'
    exact ⟨hcfg'.trans hcfg, by omega⟩
  · intro s e hlimit
    have hle := s.grant_nonChairCount_le e.seat e.kind.turn e.effective false
    exact ⟨(s.grant_grantFrame _ _ _ _).floorCfg, by omega⟩

end State

/-- Settles O21: the rule stops because every pass takes a channel, and what it keeps each of its grants keeps. -/
theorem fillRuleServesTheListInOrder : Obligations.FillRuleServesTheListInOrder := by
  refine ⟨fun s hok => ?rule, fun s ahead behind e hfloor hmode hlist hahead hgate hbudget hcount hfree hok => ?step⟩
  case rule =>
    have hserves := s.fillRule_serves
    have hframe := s.fillRule_grantFrame
    refine ⟨s.fillRule_of_closed, fun hstops => ?_, fun hfloor hmode => ?_, s.fillRule_nonChairCount_le, hserves.chan,
      hserves.entries, hserves.served, hframe.frame, hframe.holders, hframe.floor, hframe.floorCfg⟩
    · rw [← State.lowestFree_eq_none_iff] at hstops
      exact State.fillRule_of_stops hstops
    · have hstops := State.fillRule_stops hok.listedReady hfloor hmode
      rwa [State.FillStops, State.lowestFree_eq_none_iff, hframe.floorCfg] at hstops
  case step =>
    refine State.fillRule_step hok.listedReady hfloor hmode hcount ((State.lowestFree_isSome_iff s).2 hfree)
      (State.firstEligible_of_append hlist (fun x hx => ?_) ((State.eligible_iff s e).2 ⟨hgate, hbudget⟩))
    rw [← Bool.not_eq_true, State.eligible_iff]
    rintro ⟨hwithin, hleft⟩
    obtain hbeyond | hexhausted := hahead x hx
    · exact absurd hwithin (not_le.2 hbeyond)
    · exact absurd hexhausted (by simp [hleft])

end Sys2Proof.Machine
end

section
/-! PROOF. Who makes room for a grant: the oldest channel that may be taken, what its displacement leaves, and the grants
of the displacement and of the chair grant (R107 to R109). -/

namespace Sys2Proof.Machine

theorem Channel.nonChair_iff (k : Channel) : k.nonChair = true ↔ k.state ≠ .free ∧ k.kind ≠ some .chair := by
  simp [nonChair, busy_iff]

namespace State

variable {s : State}

theorem closeAndFill_of_canClose {c : ChanNo} {n : SeatNo} (r : Reason) (h : s.canClose c n = true) :
    s.closeAndFill c n r = (s.closeChannel c n r).fillRule := if_pos h

/-! ### The oldest channel that may be taken -/

theorem oldestNonChair_eq_none (h : ∀ c ∈ s.grantOrder, (s.chan c).kind = some .chair) : s.oldestNonChair = none :=
  List.find?_eq_none.2 fun c hc hnon => ((Channel.nonChair_iff _).1 hnon).2 (h c hc)

theorem oldestNonChair_of_append {older newer : List ChanNo} {c : ChanNo} (horder : s.grantOrder = older ++ c :: newer)
    (holder : ∀ x ∈ older, (s.chan x).kind = some .chair) (hbusy : (s.chan c).state ≠ .free)
    (hkind : (s.chan c).kind ≠ some .chair) : s.oldestNonChair = some c := by
  rw [oldestNonChair, horder, List.find?_eq_some_iff_append]
  refine ⟨(Channel.nonChair_iff _).2 ⟨hbusy, hkind⟩, older, newer, rfl, fun x hx => ?_⟩
  simp [Channel.nonChair, holder x hx]

/-- The channels that a displacement for a level may take (R107). -/
theorem mayVictim_iff (s : State) (level : Level) (c : ChanNo) :
    ((s.chan c).nonChair && ((s.chan c).level.map fun l => decide (level ≤ l)).getD false) = true ↔
      (s.chan c).nonChair = true ∧ ∃ l : Level, (s.chan c).level = some l ∧ level ≤ l := by
  cases (s.chan c).level <;> simp

/-- A chair channel and one granted at a better level are not taken (R107). -/
theorem not_mayVictim {level : Level} {c : ChanNo} (h : (s.chan c).kind = some .chair
    ∨ ∃ l : Level, (s.chan c).level = some l ∧ l < level) :
    ¬((s.chan c).nonChair && ((s.chan c).level.map fun l => decide (level ≤ l)).getD false) = true := by
  rw [mayVictim_iff]
  rintro ⟨hnon, l, hl, hle⟩
  obtain hchair | ⟨k, hk, hlt⟩ := h
  · exact ((Channel.nonChair_iff _).1 hnon).2 hchair
  · rw [Option.some.inj (hl.symm.trans hk)] at hle
    exact absurd hle (not_le.2 hlt)

theorem victim_eq_none {level : Level} (h : ∀ c ∈ s.grantOrder, (s.chan c).kind = some .chair
    ∨ ∃ l : Level, (s.chan c).level = some l ∧ l < level) : s.victim level = none :=
  List.find?_eq_none.2 fun c hc => not_mayVictim (h c hc)

theorem victim_of_append {level : Level} {older newer : List ChanNo} {c : ChanNo} {l : Level}
    (horder : s.grantOrder = older ++ c :: newer)
    (holder : ∀ x ∈ older, (s.chan x).kind = some .chair ∨ ∃ k : Level, (s.chan x).level = some k ∧ k < level)
    (hnon : (s.chan c).nonChair = true) (hl : (s.chan c).level = some l) (hle : level ≤ l) :
    s.victim level = some c := by
  rw [victim, horder, List.find?_eq_some_iff_append]
  refine ⟨(mayVictim_iff s level c).2 ⟨hnon, l, hl, hle⟩, older, newer, rfl, fun x hx => ?_⟩
  rw [Bool.not_eq_true', ← Bool.not_eq_true]
  exact not_mayVictim (holder x hx)

/-- A displacement closes the channel and relists its seat if relisting is set (R108). -/
theorem displace_eq {c : ChanNo} {n : SeatNo} {l : Level} (hseat : (s.chan c).seat = some n)
    (hlevel : (s.chan c).level = some l) : s.displace c =
      if s.floorCfg.relist then (s.closeChannel c n .displaced).relist n l else s.closeChannel c n .displaced := by
  unfold displace
  rw [hseat, hlevel]
  simp only [(s.closeChannel_grantFrame c n .displaced).floorCfg]

/-! ### An entry handed on -/

/-- No two entries are for one seat (R62). -/
theorem entryOf_of_mem {e : Entry} (hlist : s.ListOk) (he : e ∈ s.list.entries) : s.entryOf e.seat = some e := by
  obtain ⟨-, hnodup, -⟩ := hlist
  cases h : s.entryOf e.seat with
  | none => exact absurd (beq_self_eq_true e.seat) (List.find?_eq_none.1 h e he)
  | some x =>
    have hseat : x.seat = e.seat := by simpa using List.find?_some h
    rw [List.inj_on_of_nodup_map hnodup (List.mem_of_find?_eq_some h) he hseat]

/-- The conditions of R107. -/
theorem mayDisplace_iff (s : State) (e : Entry) : s.mayDisplace e = true ↔ s.floor = .opened
    ∧ s.floorCfg.mode = .override ∧ s.firstEligible = some e ∧ s.floorCfg.limit ≤ s.nonChairCount := by
  simp [mayDisplace, and_assoc]

/-- Where a condition of R107 fails, only the fill rule runs. -/
theorem handOn_of_not_displaced {e : Entry} (hentry : s.entryOf e.seat = some e)
    (h : s.mayDisplace e = false ∨ s.victim e.effective = none) : s.handOn e.seat = s.fillRule := by
  have hnone : (if s.mayDisplace e then s.victim e.effective else none) = none := by
    obtain h | h := h <;> simp [h]
  simp only [handOn, hentry, hnone]

theorem handOn_of_displaced {e : Entry} {c : ChanNo} (hentry : s.entryOf e.seat = some e)
    (hmay : s.mayDisplace e = true) (hvictim : s.victim e.effective = some c) :
    s.handOn e.seat = ((s.displace c).grant e.seat e.kind.turn e.effective false).fillRule := by
  simp only [handOn, hentry, hmay, hvictim, if_true]

/-! ### A chair grant -/

theorem chairGrant_of_free (n : SeatNo) (asHolder : Bool) (h : s.lowestFree.isSome = true) :
    s.chairGrant n asHolder = s.grant n .chair (s.seat n).cfg.speak asHolder := if_pos h

theorem chairGrant_of_none (n : SeatNo) (asHolder : Bool) (hfree : s.lowestFree = none)
    (h : s.oldestNonChair = none) : s.chairGrant n asHolder = s := by
  simp [chairGrant, hfree, h]

theorem chairGrant_of_oldest (n : SeatNo) (asHolder : Bool) {c : ChanNo} (hfree : s.lowestFree = none)
    (h : s.oldestNonChair = some c) : s.chairGrant n asHolder =
      ((s.displace c).grant n .chair (s.seat n).cfg.speak asHolder).fillRule := by
  simp [chairGrant, hfree, h]

end State

/-- Settles O22: the search along the grant order ends at the oldest channel that may be taken, and its displacement
makes the room. -/
theorem displacementTakesTheOldestTurn : Obligations.DisplacementTakesTheOldestTurn := by
  refine ⟨fun s e hok he => ?handedOn, fun s n asHolder => ⟨fun hfree => ?free, fun hchairs => ?chairs, ?taken⟩⟩
  case handedOn =>
    obtain ⟨hlist, -, -, -, horderOk, -⟩ := hok
    have hentry := State.entryOf_of_mem hlist he
    constructor
    · intro hfails
      refine State.handOn_of_not_displaced hentry ?_
      rw [← Bool.not_eq_true, State.mayDisplace_iff]
      obtain h | h | h | h | h := hfails
      · exact .inl fun ⟨hfloor, _⟩ => h hfloor
      · exact .inl fun ⟨_, hmode, _⟩ => h hmode
      · exact .inl fun ⟨_, _, hfirst, _⟩ => h hfirst
      · exact .inl fun ⟨_, _, _, hlimit⟩ => absurd hlimit (not_le.2 h)
      · exact .inr (State.victim_eq_none h)
    · intro older newer c n l hfloor hmode hfirst hlimit horder holder hkind hseat hlevel hle
      have hbusy : (s.chan c).state ≠ .free :=
        (Channel.busy_iff _).1 ((horderOk.2 c).1 (by simp [horder]))
      rw [State.handOn_of_displaced hentry ((State.mayDisplace_iff s e).2 ⟨hfloor, hmode, hfirst, hlimit⟩)
        (State.victim_of_append horder holder ((Channel.nonChair_iff _).2 ⟨hbusy, hkind⟩) hlevel hle),
        State.displace_eq hseat hlevel]
  case free => exact State.chairGrant_of_free n asHolder ((State.lowestFree_isSome_iff s).2 hfree)
  case chairs =>
    exact State.chairGrant_of_none n asHolder ((State.lowestFree_eq_none_iff s).2 fun c => (hchairs c).1)
      (State.oldestNonChair_eq_none fun c _ => (hchairs c).2)
  case taken =>
    intro older newer c m l hbusy horder holder hkind hseat hlevel
    rw [State.chairGrant_of_oldest n asHolder ((State.lowestFree_eq_none_iff s).2 hbusy)
      (State.oldestNonChair_of_append horder holder (hbusy c) hkind), State.displace_eq hseat hlevel]

end Sys2Proof.Machine
end

section
/-! PROOF. A floor operation whose frame is taken in READY, and the three settings of the floor record (R39, R116 to
R118, R154, R156). -/

namespace Sys2Proof.Machine

namespace State

variable {s t : State}

/-! ### An act of the floor and its answer -/

theorem FloorFrame.up (h : FloorFrame s t) : t.uplink.up = s.uplink.up := by rw [h.uplink]

theorem withFloor_floorFrame (s : State) (f : FloorState) : FloorFrame s (s.withFloor f) :=
  ⟨rfl, fun _ => rfl, rfl, rfl, rfl, fun _ => rfl, rfl, rfl, rfl, rfl, rfl, rfl⟩

theorem withFloorCfg_floorFrame (s : State) (f : FloorConfig) : FloorFrame s (s.withFloorCfg f) :=
  ⟨rfl, fun _ => rfl, rfl, rfl, rfl, fun _ => rfl, rfl, rfl, rfl, rfl, rfl, rfl⟩

theorem answer_reply_of_up {tag : Byte} {st : Status} {data : List Byte} (h : t.uplink.up = true) :
    t.answer tag (.reply st data) = t.replied tag st data := if_pos h

end State

/-- A floor operation in READY is carried out and answered in its reply place (R154, R156). -/
theorem operate_floor {m : MgmtHead} {o : Op} {fields : List Byte} {body : Body} {s t : State} {st : Status}
    {data : List Byte} (htakes : s.Takes (mgmtFrame m o fields)) (hready : s.startUp.state = .ready)
    (hbody : body s = (t, .reply st data)) (hframe : State.FloorFrame s t) :
    operate m o fields (held .floor body) s = .next (t.replied m.tag st data) := by
  have ⟨hup, _, _⟩ := htakes
  rw [operate_of_takes m o fields _ s htakes, held_of_none .floor body s (s.heldOff_floor hready), hbody,
    State.answer_reply_of_up (hframe.up.trans hup)]

/-- One that does not act is answered with its status alone (R155). -/
theorem operate_floor_only {m : MgmtHead} {o : Op} {fields : List Byte} {body : Body} {s : State} {st : Status}
    (htakes : s.Takes (mgmtFrame m o fields)) (hready : s.startUp.state = .ready) (hbody : body s = (s, only st)) :
    operate m o fields (held .floor body) s = .next (s.replied m.tag st []) :=
  operate_floor htakes hready hbody (.refl s)

/-! ### The settings of the floor record -/

theorem modeOfCode_of_large {x : Byte} (h : 2 < x.toNat) : modeOfCode x = none := by
  unfold modeOfCode
  split
  · omega
  · omega
  · omega
  · rfl

theorem modeOfCode_of_code {x : Byte} {y : Mode} (h : y.code = x.toNat) : modeOfCode x = some y := by
  unfold modeOfCode
  rw [← h]
  cases y <;> rfl

/-- The open limit between 1 and 16 (R117). -/
theorem clampLimit_eq (x : Byte) : clampLimit x = if x = 0 then 1 else if 16 < x.toNat then 16 else x.toNat := by
  have hzero : x = 0 ↔ x.toNat = 0 := BitVec.toNat_eq
  simp only [clampLimit, clamp, hzero]
  split_ifs <;> omega

theorem clampLimit_ne_iff (x : Byte) : clampLimit x ≠ x.toNat ↔ x = 0 ∨ 16 < x.toNat := by
  have hzero : x = 0 ↔ x.toNat = 0 := BitVec.toNat_eq
  simp only [clampLimit, clamp, hzero]
  omega

/-- The gate level at most 3 (R118). -/
theorem clampGate_val (x : Byte) : (clampGate x).val = min 3 x.toNat := by
  unfold clampGate
  split
  · exact (Nat.min_eq_right (by omega)).symm
  · exact (Nat.min_eq_left (by omega)).symm

theorem clampGate_val_ne_iff (x : Byte) : (clampGate x).val ≠ x.toNat ↔ 3 < x.toNat := by
  rw [clampGate_val]
  omega

theorem doneOr_bne (a b : Nat) : doneOr (a != b) = if a ≠ b then .adjusted else .done := by
  simp [doneOr]

/-- Settles O56: each value is the clamped one, and the fill rule runs where the rule says. -/
theorem floorSettingsClampAndFill : Obligations.FloorSettingsClampAndFill := by
  have hfill (s : State) (f : FloorConfig) : State.FloorFrame s (s.withFloorCfg f).fillRule :=
    (s.withFloorCfg_floorFrame f).trans (State.fillRule_grantFrame _).frame
  refine ⟨fun m x s htakes hready => ⟨fun hlarge => ?range, fun y hy => ?mode⟩,
    fun m x s htakes hready => ?limit, fun m x s gate htakes hready hgate => ?gate⟩
  case range => exact operate_floor_only htakes hready (by rw [setMode, modeOfCode_of_large hlarge])
  case mode =>
    exact operate_floor htakes hready (by rw [setMode, modeOfCode_of_code hy]; rfl) (hfill s _)
  case limit =>
    dsimp only
    rw [← clampLimit_eq, ← if_congr (clampLimit_ne_iff x) rfl rfl, ← doneOr_bne]
    constructor
    · intro hrises
      exact operate_floor htakes hready (by rw [setLimit, State.takeLimit, if_pos hrises]; rfl) (hfill s _)
    · intro hfalls
      exact operate_floor htakes hready (by rw [setLimit, State.takeLimit, if_neg (not_lt.2 hfalls)]; rfl)
        (s.withFloorCfg_floorFrame _)
  case gate =>
    obtain rfl : clampGate x = gate := Fin.ext ((clampGate_val x).trans hgate.symm)
    rw [← if_congr (clampGate_val_ne_iff x) rfl rfl, ← doneOr_bne]
    exact operate_floor htakes hready rfl (hfill s _)

end Sys2Proof.Machine
end

section
/-! PROOF. GRANT: what its steps find in the seat, the places and the grant order, and the grant each of them ends in
(R86, R119). -/

namespace Sys2Proof.Machine

namespace State

variable {s : State} {n : SeatNo}

/-- The conditions of R119 on the seat and the floor. -/
def MayBeGiven (s : State) (n : SeatNo) : Prop :=
  (s.seat n).run.present = true ∧ (s.seat n).cfg.cls ≠ .observer ∧ (s.seat n).cfg.barred = false
    ∧ (s.seat n).run.floor ≠ .speaking ∧ s.floor ≠ .closed

theorem grantSeat_of_refused (force : Bool) (h : ¬s.MayBeGiven n) :
    s.grantSeat n force = (s, only .refusedState) := by
  unfold grantSeat
  dsimp only
  split
  · rfl
  · next hseat =>
    split
    · rfl
    · next hfloor =>
      refine absurd ?_ h
      simpa [MayBeGiven, hfloor, and_assoc] using hseat

theorem grantSeat_of_room (force : Bool) (h : s.MayBeGiven n) (hroom : s.needsPlace (s.directKind n) = false) :
    s.grantSeat n force = s.directGrant n (s.directKind n) := by
  obtain ⟨hpresent, hclass, hbarred, hoff, hfloor⟩ := h
  simp [grantSeat, hpresent, hclass, hbarred, hoff, hfloor, hroom]

/-- R119 steps 4 and 5: without force, or with no channel that may be closed. -/
theorem grantSeat_of_no_room (force : Bool) (h : s.MayBeGiven n) (hneeds : s.needsPlace (s.directKind n) = true)
    (hnone : force = false ∨ s.oldestNonChair = none) : s.grantSeat n force = (s, only .refusedLimit) := by
  obtain ⟨hpresent, hclass, hbarred, hoff, hfloor⟩ := h
  obtain hforce | hnone := hnone
  · simp [grantSeat, hpresent, hclass, hbarred, hoff, hfloor, hneeds, hforce]
  · simp [grantSeat, hpresent, hclass, hbarred, hoff, hfloor, hneeds, hnone]

theorem grantSeat_of_forced {c : ChanNo} (h : s.MayBeGiven n) (hneeds : s.needsPlace (s.directKind n) = true)
    (hc : s.oldestNonChair = some c) : s.grantSeat n true =
      (((s.displace c).directGrant n (s.directKind n)).1.fillRule,
        ((s.displace c).directGrant n (s.directKind n)).2) := by
  obtain ⟨hpresent, hclass, hbarred, hoff, hfloor⟩ := h
  simp [grantSeat, hpresent, hclass, hbarred, hoff, hfloor, hneeds, hc]

/-- R119 step 3. -/
theorem needsPlace_iff (s : State) (k : TurnKind) : s.needsPlace k = true ↔
    (∀ c : ChanNo, (s.chan c).state ≠ .free) ∨ (k ≠ .chair ∧ s.floorCfg.limit ≤ s.nonChairCount) := by
  simp [needsPlace, Option.isNone_iff_eq_none, lowestFree_eq_none_iff]

/-- A grant on the lowest FREE channel answers with its number (R119 step 6). -/
theorem directGrant_of_lowestFree {c : ChanNo} (n : SeatNo) (k : TurnKind) (h : s.lowestFree = some c) :
    s.directGrant n k = (s.grant n k (s.seat n).cfg.speak false, .reply .done [byte c.val]) := by
  rw [directGrant, h]
  rfl

theorem FloorFrame.cfg {t : State} (h : FloorFrame s t) (n : SeatNo) : (t.seat n).cfg = (s.seat n).cfg := by
  rw [h.seat n]

/-- A displacement leaves its channel FREE (R108). -/
theorem displace_chan_free {c : ChanNo} {x : SeatNo} {l : Level} (hbusy : (s.chan c).state ≠ .free)
    (hseat : (s.chan c).seat = some x) (hlevel : (s.chan c).level = some l) :
    ((s.displace c).chan c).state = .free := by
  have hclosed : ((s.closeChannel c x .displaced).chan c).state = .free := by
    obtain ⟨hchan, -⟩ := s.closeChannel_taken c x .displaced ((s.canClose_iff c x).2 ⟨hbusy, hseat⟩)
    rw [hchan, if_pos rfl]
  rw [displace_eq hseat hlevel]
  split
  · simpa only [State.chan, relist_channels] using hclosed
  · exact hclosed

end State

theorem grantBody_of_range {seat : Half} {force : Byte} (s : State) (h : 1023 < seat.toNat ∨ 1 < force.toNat) :
    grantBody seat force s = (s, only .refusedRange) := by
  unfold grantBody
  split
  · rw [if_pos (by omega)]
  · rfl

theorem grantBody_of_seat {seat : Half} {force : Byte} {n : SeatNo} (s : State) (hn : n.val = seat.toNat)
    (hforce : force.toNat ≤ 1) : grantBody seat force s = s.grantSeat n (force == 1) := by
  have hlt : seat.toNat < 1024 := hn ▸ n.isLt
  obtain rfl : n = ⟨seat.toNat, hlt⟩ := Fin.ext hn
  rw [grantBody, dif_pos hlt, if_neg (by omega)]

/-- Settles O57: the steps of R119 in their order, the grant on the lowest FREE channel. -/
theorem grantGivesTheFloorToASeat : Obligations.GrantGivesTheFloorToASeat := by
  intro m seat force s htakes hready _
  refine ⟨fun hrange => operate_floor_only htakes hready (grantBody_of_range s hrange), fun n hn hforce => ?_⟩
  have hbody := grantBody_of_seat s hn hforce
  intro r listed k able full
  have hfull : full ↔ s.needsPlace (s.directKind n) = true := (s.needsPlace_iff _).symm
  refine ⟨fun hnot => ?refused, fun c hable hplace hfree hleast => ?granted, fun hable hneeds hnone => ?limit,
    fun older newer c x l hable hneeds hforced horder holder hbusy hkind hseat hlevel => ?forced⟩
  case refused => exact operate_floor_only htakes hready (hbody.trans (State.grantSeat_of_refused _ hnot))
  case granted =>
    rw [hfull, Bool.not_eq_true] at hplace
    refine operate_floor htakes hready ?_ (s.grant_grantFrame _ _ _ _).frame
    rw [hbody, State.grantSeat_of_room _ hable hplace,
      State.directGrant_of_lowestFree n _ (State.lowestFree_of_least hfree hleast)]
    rfl
  case limit =>
    refine operate_floor_only htakes hready (hbody.trans (State.grantSeat_of_no_room _ hable (hfull.1 hneeds) ?_))
    obtain rfl | hchairs := hnone
    · exact .inl rfl
    · exact .inr (State.oldestNonChair_eq_none hchairs)
  case forced =>
    obtain ⟨d, hd⟩ := Option.isSome_iff_exists.1
      ((State.lowestFree_isSome_iff _).2 ⟨c, State.displace_chan_free hbusy hseat hlevel⟩)
    obtain ⟨hfree, hleast⟩ := State.lowestFree_eq_some _ d hd
    have hframe := (s.displace_grantFrame c).frame
    refine ⟨s.displace c, d, State.displace_eq hseat hlevel, hfree,
      fun y hy => (Channel.busy_iff _).1 (hleast y hy), operate_floor htakes hready ?_
        ((hframe.trans (State.grant_grantFrame _ _ _ _ _).frame).trans (State.fillRule_grantFrame _).frame)⟩
    have hoption : (force == 1) = true := by rw [hforced]; rfl
    rw [hbody, hoption, State.grantSeat_of_forced hable (hfull.1 hneeds)
      (State.oldestNonChair_of_append horder holder hbusy hkind), State.directGrant_of_lowestFree n _ hd, hframe.cfg]
    rfl

end Sys2Proof.Machine
end

section
/-! PROOF. END, WITHDRAW and CLEAR LIST: the close of a seat's turn by its channel, and the bulk removal from the tail to
the head (R72, R111, R120 to R122). -/

namespace Sys2Proof.Machine

namespace State

variable {s : State} {c : ChanNo} {n : SeatNo}

/-- The busy channel that names a seat is the one the seat holds, and the seat is SPEAKING (R8). -/
theorem SeatsOk.speaks (h : s.SeatsOk) (hcan : s.canClose c n = true) :
    (s.seat n).run.chan = some c ∧ (s.seat n).run.floor = .speaking := by
  obtain ⟨hbusy, hseat⟩ := (s.canClose_iff c n).1 hcan
  obtain ⟨-, hchan, hspeaks⟩ := h n
  have hheld := (hchan c).2 ⟨(Channel.busy_iff _).2 hbusy, hseat⟩
  exact ⟨hheld, hspeaks.2 (by rw [hheld]; rfl)⟩

theorem closeSeat_of_canClose (r : Reason) (hheld : (s.seat n).run.chan = some c) (hcan : s.canClose c n = true) :
    s.closeSeat n r = (s.closeChannel c n r).fillRule := by
  rw [closeSeat, hheld]
  exact closeAndFill_of_canClose r hcan

/-! ### A bulk removal -/

theorem foldl_removeEntry_seat (r : Reason) (l : List SeatNo) (s : State) (n : SeatNo) :
    (l.foldl (fun s n => s.removeEntry n r) s).seat n = if n ∈ l ∧ n ∈ s.list.entries.map Entry.seat then
      ⟨(s.seat n).cfg, { (s.seat n).run with floor := .idle, chan := none }⟩ else s.seat n := by
  induction l generalizing s with
  | nil => simp
  | cons m l ih =>
    simp only [List.foldl_cons, ih, removeEntry_entries, mem_seats_without, removeEntry_seat, entryOf_isSome_iff]
    obtain rfl | hne := eq_or_ne m n
    · simp
    · simp [hne, hne.symm]

/-- A bulk removal leaves every listed seat IDLE and every other seat as it was (R70, R72). -/
theorem bulkRemove_seat (s : State) (r : Reason) (n : SeatNo) :
    (s.bulkRemove r).seat n = if n ∈ s.list.entries.map Entry.seat then
      ⟨(s.seat n).cfg, { (s.seat n).run with floor := .idle, chan := none }⟩ else s.seat n := by
  simp only [bulkRemove, foldl_removeEntry_seat, List.mem_reverse, and_self]

/-- No removal touches the arrival sequence (R64). -/
theorem bulkRemove_arrival (s : State) (r : Reason) : (s.bulkRemove r).list.arrival = s.list.arrival := by
  unfold bulkRemove
  generalize (s.list.entries.map Entry.seat).reverse = l
  induction l generalizing s with
  | nil => rfl
  | cons n l ih => exact (ih _).trans (removeEntry_arrival s n r)

end State

/-! ### The acts by their operands -/

theorem endBody_of_range {selector : Byte} {number : Half} (s : State) (h : 1 < selector.toNat
    ∨ (selector = 0 ∧ 1023 < number.toNat) ∨ (selector = 1 ∧ 15 < number.toNat)) :
    endBody selector number s = (s, only .refusedRange) := by
  unfold endBody
  obtain hlarge | ⟨rfl, hseat⟩ | ⟨rfl, hchan⟩ := h
  · have hseat : selector ≠ 0 := by rintro rfl; exact absurd hlarge (by decide)
    have hchan : selector ≠ 1 := by rintro rfl; exact absurd hlarge (by decide)
    rw [if_neg hseat, if_neg hchan]
  · rw [if_pos rfl, dif_neg (by omega)]
  · rw [if_neg (by decide), if_pos rfl, dif_neg (by omega)]

theorem endBody_of_seat {number : Half} {n : SeatNo} (s : State) (hn : n.val = number.toNat) :
    endBody 0 number s = if (s.seat n).run.floor = .speaking then (s.closeSeat n .ended, only .done)
      else (s, only .nothing) := by
  have hlt : number.toNat < 1024 := hn ▸ n.isLt
  obtain rfl : n = ⟨number.toNat, hlt⟩ := Fin.ext hn
  rw [endBody, if_pos rfl, dif_pos hlt]

theorem endBody_of_free {number : Half} {c : ChanNo} (s : State) (hc : c.val = number.toNat)
    (hseat : (s.chan c).seat = none) : endBody 1 number s = (s, only .nothing) := by
  have hlt : number.toNat < 16 := hc ▸ c.isLt
  obtain rfl : c = ⟨number.toNat, hlt⟩ := Fin.ext hc
  simp [endBody, hlt, hseat]

theorem endBody_of_held {number : Half} {c : ChanNo} {n : SeatNo} (s : State) (hc : c.val = number.toNat)
    (hseat : (s.chan c).seat = some n) : endBody 1 number s = (s.closeAndFill c n .ended, only .done) := by
  have hlt : number.toNat < 16 := hc ▸ c.isLt
  obtain rfl : c = ⟨number.toNat, hlt⟩ := Fin.ext hc
  simp [endBody, hlt, hseat]

theorem withdrawBody_of_seat {seat : Half} {n : SeatNo} (s : State) (hn : n.val = seat.toNat) :
    withdrawBody seat s = if (s.seat n).run.floor = .waiting then (s.removeEntry n .operator, only .done)
      else (s, only .nothing) := by
  have hlt : seat.toNat < 1024 := hn ▸ n.isLt
  obtain rfl : n = ⟨seat.toNat, hlt⟩ := Fin.ext hn
  rw [withdrawBody, dif_pos hlt]

/-- Settles O58: END closes the channel that the seat and the channel agree on, WITHDRAW is one removal, and CLEAR LIST
the removals of all entries. -/
theorem operatorEndsTurnsAndRequests : Obligations.OperatorEndsTurnsAndRequests := by
  refine ⟨fun m selector number s htakes hready hok => ?endTurn, fun m seat s htakes hready => ?withdraw,
    fun m s htakes hready => ?clear⟩
  case endTurn =>
    obtain ⟨-, -, hseats, hchannels, -⟩ := hok
    have hclose (c : ChanNo) (n : SeatNo) : State.FloorFrame s (s.closeChannel c n .ended).fillRule :=
      (s.closeChannel_grantFrame c n .ended).frame.trans (State.fillRule_grantFrame _).frame
    refine ⟨fun hrange => operate_floor_only htakes hready (endBody_of_range s hrange), ?seat, ?chan⟩
    case seat =>
      rintro n rfl hn
      refine ⟨fun hoff => operate_floor_only htakes hready ?_,
        fun c hbusy hseat => operate_floor htakes hready ?_ (hclose c n)⟩
      · rw [endBody_of_seat s hn, if_neg hoff]
      · have hcan := (s.canClose_iff c n).2 ⟨hbusy, hseat⟩
        obtain ⟨hheld, hspeaks⟩ := hseats.speaks hcan
        rw [endBody_of_seat s hn, if_pos hspeaks, State.closeSeat_of_canClose _ hheld hcan]
        rfl
    case chan =>
      rintro c rfl hc
      refine ⟨fun hfree => operate_floor_only htakes hready ?_,
        fun n hbusy hseat => operate_floor htakes hready ?_ (hclose c n)⟩
      · obtain ⟨hnone, -⟩ := (hchannels c).1 (by simp [Channel.busy, hfree])
        exact endBody_of_free s hc hnone
      · rw [endBody_of_held s hc hseat, State.closeAndFill_of_canClose _ ((s.canClose_iff c n).2 ⟨hbusy, hseat⟩)]
        rfl
  case withdraw =>
    refine ⟨fun hrange => operate_floor_only htakes hready (dif_neg (by omega)), fun n hn => ?_⟩
    have hbody := withdrawBody_of_seat s hn
    split
    · next hwaits =>
      rw [if_pos hwaits] at hbody
      exact operate_floor htakes hready hbody (s.removeEntry_grantFrame n .operator).frame
    · next hnot =>
      rw [if_neg hnot] at hbody
      exact operate_floor_only htakes hready hbody
  case clear =>
    refine ⟨fun hempty => operate_floor_only htakes hready (if_pos (by simp [hempty])), fun hentries => ?_⟩
    have hframe := s.bulkRemove_grantFrame .cleared
    exact ⟨s.bulkRemove .cleared,
      operate_floor htakes hready (if_neg (by simpa using hentries)) hframe.frame, List.foldl_reverse,
      s.bulkRemove_entries _, s.bulkRemove_arrival _, s.bulkRemove_seat _, s.bulkRemove_channels _,
      s.bulkRemove_grantOrder _, hframe.holders, hframe.floor, hframe.floorCfg, hframe.frame⟩

end Sys2Proof.Machine
end

section
/-! PROOF. OPEN FLOOR and CLOSE FLOOR: which channels have been closed after a run of closes, what those closes leave of
the channels and the seats, and the fill rule that finds no entry (R89, R111 to R113). -/

namespace Sys2Proof.Machine

/-- The record a close leaves in its channel (R89). -/
def Channel.freed (k : Channel) : Channel :=
  { state := .free, seat := none, kind := none, level := none, priority := false, suspend := false
    timer := k.timer, detector := k.detector }

theorem Channel.freed_eq_self {k : Channel} (hstate : k.state = .free) (hseat : k.seat = none) (hkind : k.kind = none)
    (hlevel : k.level = none) (hpriority : k.priority = false) (hsuspend : k.suspend = false) : k.freed = k := by
  cases k
  cases hstate
  cases hseat
  cases hkind
  cases hlevel
  cases hpriority
  cases hsuspend
  rfl

namespace State

variable {s t : State}

/-! ### A run of closes -/

/-- The record of a seat whose turn on a channel has been closed: IDLE, with the used seconds deducted where a budget
applies (R89, R140). -/
def turnEnded (s : State) (n : SeatNo) (c : ChanNo) : SeatRecord :=
  ⟨(s.seat n).cfg, { (s.seat n).run with floor := .idle, chan := none
                                         budget := if s.applies n then
                                           (s.seat n).run.budget - (s.chan c).timer.used
                                         else (s.seat n).run.budget }⟩

/-- The channels that `gone` tells have been closed, and nothing else has been done to the floor. -/
structure Closed (s : State) (gone : ChanNo → Bool) (t : State) : Prop where
  chan : ∀ c : ChanNo, t.chan c = if gone c then (s.chan c).freed else s.chan c
  seat_of_held : ∀ (n : SeatNo) (c : ChanNo), (s.seat n).run.chan = some c →
    t.seat n = if gone c then s.turnEnded n c else s.seat n
  seat_of_off : ∀ n : SeatNo, (s.seat n).run.chan = none → t.seat n = s.seat n
  grantOrder : t.grantOrder = s.grantOrder.filter fun c => !gone c
  list : t.list = s.list
  frame : GrantFrame s t

theorem Closed.refl (s : State) : Closed s (fun _ => false) s :=
  ⟨fun _ => rfl, fun _ _ _ => rfl, fun _ _ => rfl, by simp, rfl, .refl s⟩

/-- One close more (R89). -/
theorem Closed.close {gone : ChanNo → Bool} (h : Closed s gone t) (hseats : s.SeatsOk) (horder : s.GrantOrderOk)
    {c : ChanNo} {n : SeatNo} (r : Reason) (hc : gone c = false) (hcan : s.canClose c n = true) :
    Closed s (fun x => gone x || x == c) (t.closeChannel c n r) := by
  obtain ⟨hheld, -⟩ := hseats.speaks hcan
  obtain ⟨hbusy, hnamed⟩ := (s.canClose_iff c n).1 hcan
  have hchanC : t.chan c = s.chan c := by rw [h.chan, hc]; rfl
  have hseatN : t.seat n = s.seat n := by rw [h.seat_of_held n c hheld, hc]; rfl
  have happlies : t.applies n = s.applies n := by rw [applies, applies, hseatN, h.frame.frame.classes]
  obtain ⟨hchan, hgrantOrder, hseat⟩ := t.closeChannel_taken c n r
    ((t.canClose_iff c n).2 (by rw [hchanC]; exact ⟨hbusy, hnamed⟩))
  refine ⟨fun d => ?chan, fun m d hm => ?held, fun m hm => ?off, ?order, (t.closeChannel_list c n r).trans h.list,
    h.frame.trans (t.closeChannel_grantFrame c n r)⟩
  case chan =>
    obtain rfl | hne := eq_or_ne c d
    · simp only [hchan, if_true, hchanC, beq_self_eq_true, Bool.or_true]
      rfl
    · simp only [hchan, hne, if_false, h.chan, beq_eq_false_iff_ne.2 hne.symm, Bool.or_false]
  case held =>
    obtain rfl | hne := eq_or_ne n m
    · obtain rfl : c = d := Option.some.inj (hheld.symm.trans hm)
      simp only [hseat, if_true, hseatN, happlies, hchanC, beq_self_eq_true, Bool.or_true]
      rfl
    · have hcd : d ≠ c := by
        rintro rfl
        obtain ⟨-, hchannels, -⟩ := hseats m
        obtain ⟨-, hsame⟩ := (hchannels d).1 hm
        exact hne (Option.some.inj (hnamed.symm.trans hsame))
      simp only [hseat, hne, if_false, h.seat_of_held m d hm, beq_eq_false_iff_ne.2 hcd, Bool.or_false]
  case off =>
    have hne : n ≠ m := by
      rintro rfl
      rw [hheld] at hm
      exact nomatch hm
    rw [hseat, if_neg hne, h.seat_of_off m hm]
  case order =>
    obtain ⟨hnodup, -⟩ := horder
    rw [hgrantOrder, h.grantOrder, (hnodup.filter _).erase_eq_filter, List.filter_filter]
    exact List.filter_congr fun d _ => by rw [Bool.not_or, Bool.and_comm]; rfl

/-! ### The closes of CLOSE FLOOR -/

/-- A chair channel, which CLOSE FLOOR keeps: of kind CHAIR, and of a seat of class CHAIR (R113). -/
def keptOpen (s : State) (c : ChanNo) : Bool := (s.chan c).kind == some .chair && match (s.chan c).seat with
  | some n => (s.seat n).cfg.cls == .chair
  | none => false

/-- One step of CLOSE FLOOR on a CLOSED floor (R113 step 2). -/
def closeUnlessChair (s : State) (c : ChanNo) : State :=
  match (s.chan c).seat with
  | some n =>
    if (s.chan c).kind = some .chair && (s.seat n).cfg.cls = .chair then s else s.closeAndFill c n .floorClosed
  | none => s

theorem closeNonChairs_eq (s : State) : s.closeNonChairs = s.grantOrder.foldl closeUnlessChair s := rfl

theorem closeAndFill_of_closed {c : ChanNo} {n : SeatNo} (r : Reason) (hfloor : s.floor = .closed) :
    s.closeAndFill c n r = s.closeChannel c n r := by
  have hstill : (s.closeChannel c n r).floor ≠ .opened := by
    rw [(s.closeChannel_grantFrame c n r).floor, hfloor]
    decide
  unfold closeAndFill
  split
  · exact fillRule_of_closed _ (.inl hstill)
  · next hno => exact (s.closeChannel_of_not_canClose c n r (by simpa using hno)).symm

theorem Closed.closeUnlessChair {gone : ChanNo → Bool} (h : Closed s gone t) (hfloor : s.floor = .closed)
    (hseats : s.SeatsOk) (horder : s.GrantOrderOk) {c : ChanNo} {n : SeatNo} (hc : gone c = false)
    (hcan : s.canClose c n = true) :
    Closed s (fun x => gone x || (x == c && !s.keptOpen c)) (t.closeUnlessChair c) := by
  obtain ⟨-, hnamed⟩ := (s.canClose_iff c n).1 hcan
  obtain ⟨hheld, -⟩ := hseats.speaks hcan
  have hchan : t.chan c = s.chan c := by rw [h.chan, hc]; rfl
  have hseat : t.seat n = s.seat n := by rw [h.seat_of_held n c hheld, hc]; rfl
  have hstep : t.closeUnlessChair c = if s.keptOpen c then t else t.closeChannel c n .floorClosed := by
    rw [← closeAndFill_of_closed .floorClosed (h.frame.floor.trans hfloor)]
    simp [State.closeUnlessChair, hchan, hseat, hnamed, keptOpen]
  rw [hstep]
  cases hkept : s.keptOpen c with
  | true => simpa using h
  | false => simpa using h.close hseats horder .floorClosed hc hcan

/-- The channels of the grant order that are not kept. -/
def closedByFloor (s : State) (c : ChanNo) : Bool := s.grantOrder.contains c && !s.keptOpen c

/-- CLOSE FLOOR's run along the grant order closes the busy channels that are not kept, and no others. -/
theorem closeNonChairs_closed (hfloor : s.floor = .closed) (hseats : s.SeatsOk) (hchannels : s.ChannelsOk)
    (horder : s.GrantOrderOk) : Closed s s.closedByFloor s.closeNonChairs := by
  have ⟨hnodup, hbusy⟩ := horder
  have run (l : List ChanNo) (hl : l.Nodup) (hin : ∀ c ∈ l, c ∈ s.grantOrder) :
      Closed s (fun x => l.contains x && !s.keptOpen x) (l.foldl State.closeUnlessChair s) := by
    induction l using List.reverseRecOn with
    | nil => exact .refl s
    | append_singleton l c ih =>
      obtain ⟨hl, -, hapart⟩ := List.nodup_append.1 hl
      have hnew : c ∉ l := fun hc => hapart c hc c List.mem_cons_self rfl
      have hcbusy := (hbusy c).1 (hin c (List.mem_append_right _ List.mem_cons_self))
      obtain ⟨-, hbusyOk⟩ := hchannels c
      obtain ⟨hheld, -⟩ := hbusyOk hcbusy
      obtain ⟨n, hn⟩ := Option.isSome_iff_exists.1 hheld
      have hstep := (ih hl fun x hx => hin x (List.mem_append_left _ hx)).closeUnlessChair hfloor hseats horder
        (by simp [hnew]) ((s.canClose_iff c n).2 ⟨(Channel.busy_iff _).1 hcbusy, hn⟩)
      have hgone : (fun x => (l ++ [c]).contains x && !s.keptOpen x)
          = fun x => (l.contains x && !s.keptOpen x) || (x == c && !s.keptOpen c) := by
        funext x
        obtain rfl | hne := eq_or_ne x c
        · simp [hnew]
        · simp [hne]
      rwa [List.foldl_concat, hgone]
  rw [closeNonChairs_eq]
  exact run s.grantOrder hnodup fun _ h => h

/-! ### CLOSE FLOOR -/

/-- What CLOSE FLOOR leaves (R113). -/
def floorClosed (s : State) : State := ((s.withFloor .closed).closeNonChairs).bulkRemove .floorClosed

theorem FloorOk.closeNonChairs (h : s.FloorOk) :
    Closed (s.withFloor .closed) s.closedByFloor (s.withFloor .closed).closeNonChairs := by
  obtain ⟨-, -, hseats, hchannels, horder, -⟩ := h
  exact closeNonChairs_closed rfl hseats hchannels horder

theorem ChannelsOk.freed_of_free (h : s.ChannelsOk) {c : ChanNo} (hc : (s.chan c).busy = false) :
    (s.chan c).freed = s.chan c := by
  obtain ⟨hfree, -⟩ := h c
  obtain ⟨hseat, hkind, hlevel, hcause⟩ := hfree hc
  rw [Channel.hasCause, Bool.or_eq_false_iff] at hcause
  obtain ⟨hpriority, hsuspend⟩ := hcause
  exact Channel.freed_eq_self (by simpa [Channel.busy] using hc) hseat hkind hlevel hpriority hsuspend

theorem floorClosed_frame (h : s.FloorOk) : GrantFrame (s.withFloor .closed) s.floorClosed :=
  h.closeNonChairs.frame.trans (bulkRemove_grantFrame _ _)

theorem floorClosed_list (h : s.FloorOk) :
    s.floorClosed.list = { s.list with entries := [], restraint := s.floorClosed.list.restraint } := by
  have hentries : s.floorClosed.list.entries = [] := bulkRemove_entries _ _
  have harrival : s.floorClosed.list.arrival = s.list.arrival :=
    (bulkRemove_arrival _ _).trans (congrArg RequestList.arrival h.closeNonChairs.list)
  cases hl : s.floorClosed.list
  rw [hl] at hentries harrival
  cases hentries
  cases harrival
  rfl

theorem floorClosed_grantOrder (h : s.FloorOk) : s.floorClosed.grantOrder = s.grantOrder.filter s.keptOpen := by
  rw [floorClosed, bulkRemove_grantOrder, h.closeNonChairs.grantOrder]
  exact List.filter_congr fun c (hc : c ∈ s.grantOrder) => by simp [closedByFloor, hc]

/-- R113 step 2, from the channel. -/
theorem floorClosed_chan (h : s.FloorOk) (c : ChanNo) :
    s.floorClosed.chan c = if s.keptOpen c then s.chan c else (s.chan c).freed := by
  have hclosed : s.floorClosed.chan c = if s.closedByFloor c then (s.chan c).freed else s.chan c := by
    rw [floorClosed, State.chan, bulkRemove_channels]
    exact h.closeNonChairs.chan c
  rw [hclosed, closedByFloor]
  cases hkept : s.keptOpen c with
  | true => simp
  | false =>
    by_cases hc : c ∈ s.grantOrder
    · simp [hc]
    · obtain ⟨-, -, -, hchannels, ⟨-, hbusy⟩, -⟩ := h
      rw [hbusy, Bool.not_eq_true] at hc
      rw [hchannels.freed_of_free hc, ite_self, ite_self]

/-- R113 step 3, from the seat, after the closes of step 2. -/
theorem floorClosed_seat (h : s.FloorOk) (n : SeatNo) : s.floorClosed.seat n =
    if n ∈ s.list.entries.map Entry.seat then
      ⟨((s.withFloor .closed).closeNonChairs.seat n).cfg,
        { ((s.withFloor .closed).closeNonChairs.seat n).run with floor := .idle, chan := none }⟩
    else (s.withFloor .closed).closeNonChairs.seat n := by
  simp only [floorClosed, bulkRemove_seat, h.closeNonChairs.list, withFloor_list]

/-- R113 step 2, from the seat that holds a channel. -/
theorem floorClosed_seat_of_held (h : s.FloorOk) {n : SeatNo} {c : ChanNo} (hc : (s.seat n).run.chan = some c) :
    s.floorClosed.seat n = if s.keptOpen c then s.seat n else s.turnEnded n c := by
  have hclosed := h.closeNonChairs.seat_of_held n c hc
  have hseat := s.floorClosed_seat h n
  obtain ⟨-, -, hseats, -, ⟨-, hbusy⟩, -⟩ := h
  obtain ⟨hwaits, hheld, hspeaks⟩ := hseats n
  have hnew : n ∉ s.list.entries.map Entry.seat := by
    rw [← hwaits, hspeaks.2 (by rw [hc]; rfl)]
    decide
  obtain ⟨hcbusy, -⟩ := (hheld c).1 hc
  rw [hseat, if_neg hnew, hclosed, closedByFloor, List.contains_eq_mem, decide_eq_true ((hbusy c).2 hcbusy),
    Bool.true_and]
  cases s.keptOpen c <;> rfl

/-- R113 step 3, from the seat that holds none. -/
theorem floorClosed_seat_of_off (h : s.FloorOk) {n : SeatNo} (hc : (s.seat n).run.chan = none) :
    s.floorClosed.seat n = ⟨(s.seat n).cfg, { (s.seat n).run with floor := .idle }⟩ := by
  have hsame : (s.withFloor .closed).closeNonChairs.seat n = s.seat n := h.closeNonChairs.seat_of_off n hc
  rw [s.floorClosed_seat h n, hsame]
  obtain ⟨-, -, hseats, -⟩ := h
  obtain ⟨hwaits, -, hspeaks⟩ := hseats n
  split
  · rw [← hc]
  · next hnew =>
    have hidle : (s.seat n).run.floor = .idle := by
      cases hfloor : (s.seat n).run.floor with
      | idle => rfl
      | waiting => exact absurd (hwaits.1 hfloor) hnew
      | speaking => exact absurd (hspeaks.1 hfloor) (by simp [hc])
    rw [← hidle]

/-! ### OPEN FLOOR -/

theorem fillRule_of_empty (h : s.list.entries = []) : s.fillRule = s :=
  fillRule_of_stops (.inr (.inr (by rw [firstEligible, h]; rfl)))

theorem seat_mapSeats (f : SeatRecord → SeatRecord) (s : State) (n : SeatNo) : (s.mapSeats f).seat n = f (s.seat n) := by
  simp [seat, mapSeats, seatTable]

/-- A reload changes budgets and EXHAUSTED flags, and marks (R11). -/
theorem reload_floorFrame (s : State) : FloorFrame s s.reload := by
  have hset : FloorFrame s (s.mapSeats (initialBudget s.classes)).refreshAll := by
    refine ⟨rfl, fun n => ?_, rfl, rfl, rfl, fun _ => rfl, rfl, rfl, rfl, rfl, rfl, rfl⟩
    have hseat : ((s.mapSeats (initialBudget s.classes)).refreshAll).seat n = initialBudget s.classes (s.seat n) :=
      seat_mapSeats _ s n
    rw [hseat]
    rfl
  exact hset.trans s.initialBudgets_frame.floorFrame

theorem reload_entries_of_empty (h : s.list.entries = []) : s.reload.list.entries = [] := by
  rw [reload, s.initialBudgets_frame.list]
  simp [refreshAll, mapSeats, h]

end State

theorem openFloor_of_range {reload : Byte} (s : State) (h : 1 < reload.toNat) :
    openFloor reload s = (s, only .refusedRange) := if_pos h

theorem openFloor_of_state {reload : Byte} {s : State} (h : reload.toNat ≤ 1) (hfloor : s.floor ≠ .closed) :
    openFloor reload s = (s, only .refusedState) := by
  rw [openFloor, if_neg (not_lt.2 h), if_pos hfloor]

/-- With no entry to grant, the fill rules of R112 change nothing. -/
theorem openFloor_of_empty {reload : Byte} {s : State} (h : reload.toNat ≤ 1) (hfloor : s.floor = .closed)
    (hlist : s.list.entries = []) : openFloor reload s =
      (((if reload = 1 then s.reload else s).withFloor .opened), only .done) := by
  have hreload := State.reload_entries_of_empty hlist
  have hopened (u : State) (hu : u.list.entries = []) : (u.withFloor .opened).fillRule = u.withFloor .opened :=
    State.fillRule_of_empty hu
  rw [openFloor, if_neg (not_lt.2 h), if_neg (not_not.2 hfloor)]
  dsimp only
  split
  · rw [State.fillRule_of_empty hreload, hopened _ hreload]
  · rw [hopened _ hlist]

/-- Settles O54: OPEN FLOOR finds no entry to grant, and CLOSE FLOOR is a run of closes and a bulk removal. -/
theorem floorOpensAndCloses : Obligations.FloorOpensAndCloses := by
  refine ⟨fun m reload s htakes hready => ⟨fun hlarge => ?range, fun hsmall hfloor => ?state,
    fun hfloor hlist => ⟨?plain, ?reloaded⟩⟩, fun m s htakes hready hok => ?close⟩
  case range => exact operate_floor_only htakes hready (openFloor_of_range s hlarge)
  case state => exact operate_floor_only htakes hready (openFloor_of_state hsmall hfloor)
  case plain =>
    rintro rfl
    exact operate_floor htakes hready (openFloor_of_empty (by decide) hfloor hlist) (s.withFloor_floorFrame _)
  case reloaded =>
    rintro rfl
    exact operate_floor htakes hready (openFloor_of_empty (by decide) hfloor hlist)
      (s.reload_floorFrame.trans (State.withFloor_floorFrame _ _))
  case close =>
    have hframe := State.floorClosed_frame hok
    have hfloorFrame := (s.withFloor_floorFrame .closed).trans hframe.frame
    refine ⟨s.floorClosed, operate_floor htakes hready rfl hfloorFrame, hframe.floor, State.floorClosed_list hok,
      State.floorClosed_grantOrder hok, hframe.holders, State.floorClosed_chan hok, fun n => ?_, hfloorFrame,
      hframe.floorCfg⟩
    cases hc : (s.seat n).run.chan with
    | none => simpa only [hc] using State.floorClosed_seat_of_off hok hc
    | some c => exact State.floorClosed_seat_of_held hok hc

end Sys2Proof.Machine
end

section
/-! PROOF. Times as seconds and as mm:ss: the value of a time determines its digits, so the display conversion undoes
the count of seconds, and the digit steps move that count by one (R126, R133, R134). -/

namespace Sys2Proof.Machine

/-! ### The digits of a time and its seconds -/

theorem Mmss.seconds_lt_of_valid {v : Mmss} (h : v.Valid) : v.seconds < 6000 := by
  obtain ⟨hmt, hmu, hst, hsu⟩ := h
  unfold Mmss.seconds
  omega

theorem Mmss.eq_of_seconds_eq {v w : Mmss} (hv : v.Valid) (hw : w.Valid) (h : v.seconds = w.seconds) : v = w := by
  obtain ⟨mt, mu, st, su⟩ := v
  obtain ⟨mt', mu', st', su'⟩ := w
  simp only [Mmss.Valid, Mmss.seconds] at hv hw h
  rw [Mmss.mk.injEq]
  omega

theorem Mmss.eq_last_of_seconds {v : Mmss} (hv : v.Valid) (h : v.seconds = 5999) : v = ⟨9, 9, 5, 9⟩ :=
  Mmss.eq_of_seconds_eq hv (by unfold Mmss.Valid; decide) h

/-! ### The display conversion -/

theorem display_of_ge {n : Nat} (h : 6000 ≤ n) : display n = ⟨9, 9, 5, 9⟩ := if_pos (by omega)

theorem display_of_lt {n : Nat} (h : n < 6000) :
    display n = ⟨n / 60 / 10, n / 60 % 10, n % 60 / 10, n % 60 % 10⟩ := if_neg (by omega)

theorem display_valid (n : Nat) : (display n).Valid := by
  obtain hlt | hge := lt_or_ge n 6000
  · rw [display_of_lt hlt]
    simp only [Mmss.Valid]
    omega
  · rw [display_of_ge hge]
    unfold Mmss.Valid
    decide

theorem seconds_display {n : Nat} (h : n < 6000) : (display n).seconds = n := by
  rw [display_of_lt h]
  simp only [Mmss.seconds]
  omega

theorem display_seconds {v : Mmss} (h : v.Valid) : display v.seconds = v :=
  Mmss.eq_of_seconds_eq (display_valid _) h (seconds_display (Mmss.seconds_lt_of_valid h))

/-! ### The digit steps

Each branch is one place where the borrow or the carry stops. -/

theorem Mmss.pred_valid_seconds {v : Mmss} (hv : v.Valid) (h : 1 ≤ v.seconds) :
    v.pred.Valid ∧ v.pred.seconds + 1 = v.seconds := by
  obtain ⟨mt, mu, st, su⟩ := v
  simp only [Mmss.Valid, Mmss.seconds] at hv h
  rw [Mmss.pred]
  dsimp only
  split_ifs with hsu hst hmu <;> simp only [Mmss.Valid, Mmss.seconds] <;> omega

theorem Mmss.succ_last : Mmss.succ ⟨9, 9, 5, 9⟩ = ⟨9, 9, 5, 9⟩ := if_pos rfl

/-- Below 99:59 the carry out of the minutes units finds a minutes-tens digit below 9. -/
theorem Mmss.succ_valid_seconds {v : Mmss} (hv : v.Valid) (h : v.seconds < 5999) :
    v.succ.Valid ∧ v.succ.seconds = v.seconds + 1 := by
  have hlast : v ≠ ⟨9, 9, 5, 9⟩ := by
    rintro rfl
    exact absurd h (by decide)
  obtain ⟨mt, mu, st, su⟩ := v
  simp only [Mmss.Valid, Mmss.seconds] at hv h
  rw [Mmss.succ, if_neg hlast]
  dsimp only
  split_ifs with hsu hst hmu <;> simp only [Mmss.Valid, Mmss.seconds] <;> omega

/-- Settles O25: the two conversions are inverse below 6,000 seconds, and the digit steps are exact. -/
theorem displayedTimeIsExact : Obligations.DisplayedTimeIsExact := by
  refine ⟨⟨fun _ => rfl, fun _ => display_seconds, fun n h => ⟨display_valid n, seconds_display h⟩,
    fun _ => display_of_ge⟩, fun v hv => ⟨Mmss.pred_valid_seconds hv, Mmss.succ_valid_seconds hv, fun h => ?stays⟩⟩
  case stays =>
    rw [Mmss.eq_last_of_seconds hv h]
    exact Mmss.succ_last

end Sys2Proof.Machine
end

section
/-! PROOF. The timer a grant sets, by the record of the timing class: an OBSERVER's is not read, and of every other the
limit of the turn's kind and the warning threshold are (R127 to R129). -/

namespace Sys2Proof.Machine

section
variable {t : ClassTable} {k : TurnKind} {c : SeatClass}

/-! ### What the timing class gives -/

/-- The turn limit in the record of a timed class, by the kind of the turn (R127). -/
def ClassRecord.limit (r : ClassRecord) : TurnKind → Nat
  | .order => r.orderLimit.seconds
  | _ => r.speakLimit.seconds

theorem turnLimit_of_observer (h : timingClass k c = .observer) : turnLimit t k c = 0 := by
  cases k with
  | chair => cases h
  | speak => obtain rfl : c = .observer := h; rfl
  | order => obtain rfl : c = .observer := h; rfl

theorem turnLimit_of_timed (h : timingClass k c ≠ .observer) :
    turnLimit t k c = (t.record (timingClass k c)).limit k := by
  rw [turnLimit.eq_def]
  split
  next => rfl
  next hchair => exact absurd (if_neg hchair) h
  next => rfl
  next => rfl

theorem warningOf_of_timed (h : timingClass k c ≠ .observer) :
    warningOf t k c = (t.record (timingClass k c)).warning.seconds := by
  rw [warningOf]
  split
  next hobserver => exact absurd hobserver h
  next => rfl

/-! ### The two timers -/

theorem startTimer_of_untimed {c : SeatConfig} {budget : Nat} (h : turnLimit t k c.cls = 0) :
    startTimer t k c budget = resetTimer := if_pos h

theorem startTimer_of_timed {c : SeatConfig} {budget : Nat} (h : 1 ≤ turnLimit t k c.cls) :
    startTimer t k c budget =
      let a := if budgetApplies t c && decide (1 ≤ budget) then min (turnLimit t k c.cls) budget else turnLimit t k c.cls
      let w := warningOf t k c.cls
      ⟨.countdown, display a, a, 0, 0, decide (0 < w) && decide (a ≤ w)⟩ := if_neg (by omega)

end

/-- Settles O24: an untimed turn has a limit of 0, and a timed one takes limit and threshold from the record of its
timing class. -/
theorem grantFixesTheAllowance : Obligations.GrantFixesTheAllowance := by
  intro t k c budget x l
  have hlimit : (t.record (timingClass k c.cls)).limit k = l := by cases k <;> rfl
  refine ⟨fun huntimed => startTimer_of_untimed ?untimed, fun hclass hpos => ?timed⟩
  case untimed =>
    by_cases hclass : timingClass k c.cls = .observer
    · exact turnLimit_of_observer hclass
    · exact (turnLimit_of_timed hclass).trans (hlimit.trans (huntimed.resolve_left hclass))
  case timed =>
    have hturn : turnLimit t k c.cls = l := (turnLimit_of_timed hclass).trans hlimit
    rw [startTimer_of_timed (hpos.trans_eq hturn.symm), hturn, warningOf_of_timed hclass]
    rfl

end Sys2Proof.Machine
end

section
/-! PROOF. The level of a block and the step of the detector: a level is below a bound exactly when every magnitude of
its block is, and the flag after a block rests on the flag before it (R145, R147, R148). -/

namespace Sys2Proof.Machine

/-! ### The level of a block -/

theorem magnitude_le (x : Half) : magnitude x ≤ 32767 := min_le_left ..

/-- The cap of R145 changes the magnitude of -32,768 alone. -/
theorem magnitude_of_ne {x : Half} (h : x ≠ 0x8000) : magnitude x = x.toInt.natAbs := by
  have hlower := x.le_toInt
  have hupper := x.toInt_lt
  have hne : x.toInt ≠ (0x8000 : Half).toInt := fun heq => h (BitVec.eq_of_toInt_eq heq)
  have hlast : (0x8000 : Half).toInt = -32768 := rfl
  rw [magnitude]
  omega

theorem blockLevel_cons (x : Half) (l : List Half) : blockLevel (x :: l) = max (magnitude x) (blockLevel l) := by
  have hfold (l : List Half) (a : Nat) :
      l.foldl (fun m x => max m (magnitude x)) a = (l.map magnitude).foldl max a := List.foldl_map.symm
  simp only [blockLevel, hfold, List.map_cons, List.foldl_cons]
  rw [max_comm 0, List.foldl_assoc]

theorem blockLevel_le_iff {l : List Half} {b : Nat} : blockLevel l ≤ b ↔ ∀ x ∈ l, magnitude x ≤ b := by
  induction l with
  | nil => simp [blockLevel]
  | cons x l ih => rw [blockLevel_cons, max_le_iff, ih, List.forall_mem_cons]

theorem magnitude_le_blockLevel {l : List Half} {x : Half} (h : x ∈ l) : magnitude x ≤ blockLevel l :=
  blockLevel_le_iff.mp le_rfl x h

/-- The sample of the largest magnitude has the level of its block. -/
theorem exists_blockLevel_eq_magnitude {l : List Half} (h : l ≠ []) : ∃ x ∈ l, blockLevel l = magnitude x := by
  obtain ⟨x, hx, hmax⟩ := l.toFinset.exists_max_image magnitude (List.toFinset_nonempty_iff l |>.mpr h)
  simp only [List.mem_toFinset] at hx hmax
  exact ⟨x, hx, (blockLevel_le_iff.mpr hmax).antisymm (magnitude_le_blockLevel hx)⟩

/-! ### The step of the detector -/

/-- A clear flag waits for the ON threshold, a set one for a level below the OFF threshold. -/
theorem voiceAfter_eq (f : FloorConfig) (voice : Bool) (level : Nat) :
    voiceAfter f voice level =
      if voice = false ∧ f.onThreshold ≤ level then true
      else if voice = true ∧ level < f.offThreshold then false else voice := by
  cases voice with
  | false => by_cases hon : f.onThreshold ≤ level <;> simp [voiceAfter, hon]
  | true => by_cases hoff : level < f.offThreshold <;> simp [voiceAfter, hoff]

theorem min_maxRun_succ (run : Nat) : min maxRun (run + 1) = if run < 131071 then run + 1 else 131071 := by
  rw [maxRun]
  split_ifs <;> omega

/-- Settles O26: the level is the largest magnitude of the block, and flag and run step by R147 and R148. -/
theorem blocksStepTheDetector : Obligations.BlocksStepTheDetector := by
  refine ⟨fun x => ?magnitude, fun l => ⟨fun _ => magnitude_le_blockLevel,
    blockLevel_le_iff.mpr fun x _ => magnitude_le x, exists_blockLevel_eq_magnitude⟩, fun f d level => ?step⟩
  case magnitude =>
    split_ifs with hlast
    · rw [hlast]
      rfl
    · exact magnitude_of_ne hlast
  case step =>
    rw [measure, voiceAfter_eq, min_maxRun_succ]

end Sys2Proof.Machine
end

section
/-! PROOF. The operations that read: a readout is answered and leaves the state, and the bytes of rows and list entries
hold their fields side by side (R44, R80, R154, R157 to R159, 2.8). -/

namespace Sys2Proof.Machine

/-! ### A readout and its answer -/

/-- An operation that is never held off and acts on nothing is answered in its reply place (R154, R156). -/
theorem operate_readout {m : MgmtHead} {o : Op} {fields : List Byte} {body : Body} {s : State} {st : Status}
    {data : List Byte} (htakes : s.Takes (mgmtFrame m o fields)) (hbody : body s = (s, .reply st data)) :
    operate m o fields body s = .next (s.replied m.tag st data) := by
  have ⟨hup, _, _⟩ := htakes
  rw [operate_of_takes m o fields body s htakes, hbody, State.answer_reply_of_up hup]

theorem exec_identify (m : MgmtHead) (s : State) : exec (.identify m) s = operate m .identify [] identify s := rfl

theorem exec_readTable (m : MgmtHead) (table : Byte) (first : Half) (count : Byte) (s : State) :
    exec (.readTable m table first count) s =
      operate m .readTable ([table] ++ bytesOf first ++ [count]) (readTable table first count) s := rfl

theorem exec_readList (m : MgmtHead) (p : Byte) (s : State) :
    exec (.readList m p) s = operate m .readList [p] (readList p) s := rfl

theorem ResetCause.byte_code (c : ResetCause) : byte c.code = match c with
    | .power => 0
    | .command => 1 := by cases c <;> rfl

theorem ProfileStatus.byte_code (p : ProfileStatus) : byte p.code = match p with
    | .valid => 0
    | .invalid => 1
    | .defaulted => 2 := by cases p <;> rfl

theorem StartState.byte_code (u : StartState) : byte u.code = match u with
    | .recalling => 0
    | .rollCall => 1
    | .ready => 2 := by cases u <;> rfl

/-! ### The rows of a table -/

/-- How many rows a table of code 0 to 3 has. -/
def rowCount (table : Byte) : Nat := if table = 0 then 1024 else if table = 3 then 1 else 4

theorem tableRows_of_large {table : Byte} (h : 3 < table.toNat) : tableRows table = none := by
  unfold tableRows
  split
  case h_5 => rfl
  all_goals exact absurd h (by decide)

theorem table_cases {table : Byte} (h : table.toNat ≤ 3) : table = 0 ∨ table = 1 ∨ table = 2 ∨ table = 3 := by
  bv_omega

theorem tableRows_of_le {table : Byte} (h : table.toNat ≤ 3) : tableRows table = some (rowCount table) := by
  obtain rfl | rfl | rfl | rfl := table_cases h <;> rfl

namespace State

/-- The rows a readout of a table inside its range reports; the one FLOOR row is always among them. -/
theorem tableRowBytes_eq (s : State) {table : Byte} {first k : Nat} (htable : table.toNat ≤ 3)
    (hfirst : first < rowCount table) (hk : 1 ≤ k) :
    s.tableRowBytes table first k =
      if table = 0 then ((s.seats.toList.drop first).take k).flatMap (seatRow s.now)
      else if table = 1 then ((s.classes.rows.drop first).take k).flatMap classRow
      else if table = 2 then ((s.branches.rows.drop first).take k).flatMap branchRow
      else floorRow s.floorCfg := by
  obtain rfl | rfl | rfl | rfl := table_cases htable
  · rfl
  · rfl
  · rfl
  · obtain rfl : first = 0 := Nat.lt_one_iff.mp hfirst
    have hwhole : [s.floorCfg].take k = [s.floorCfg] := List.take_of_length_le hk
    exact (congrArg (List.flatMap floorRow) hwhole).trans (List.append_nil _)

end State

theorem readTable_of_outside {table count : Byte} {first : Half} (s : State)
    (h : 3 < table.toNat ∨ rowCount table ≤ first.toNat ∨ count = 0) :
    readTable table first count s = (s, only .refusedRange) := by
  unfold readTable
  by_cases htable : 3 < table.toNat
  · rw [tableRows_of_large htable]
  · rw [tableRows_of_le (not_lt.mp htable)]
    exact if_pos (by simpa using h.resolve_left htable)

theorem readTable_of_inside {table count : Byte} {first : Half} (s : State) (htable : table.toNat ≤ 3)
    (hfirst : first.toNat < rowCount table) (hcount : count ≠ 0) :
    readTable table first count s =
      let k := min (min 16 count.toNat) (rowCount table - first.toNat)
      (s, .reply (if k = count.toNat then .done else .adjusted)
        ([table] ++ bytesOf first ++ [byte k] ++ s.tableRowBytes table first.toNat k)) := by
  unfold readTable
  rw [tableRows_of_le htable]
  have hinside : ¬ (rowCount table ≤ first.toNat || count = 0) = true := by simpa using ⟨hfirst, hcount⟩
  refine (if_neg hinside).trans ?_
  simp only [doneOr, bne_iff_ne, ite_not]
  rfl

theorem readList_of_outside {p : Byte} (s : State) (h : p = 0 ∨ 64 < p.toNat) :
    readList p s = (s, only .refusedRange) := by
  have hzero : p.toNat = 0 ∨ 64 < p.toNat := h.imp_left fun hp => by rw [hp]; rfl
  simp [readList, hzero]

theorem readList_of_inside {p : Byte} (s : State) (hpos : p ≠ 0) (hle : p.toNat ≤ 64) :
    readList p s =
      let l := (s.list.entries.drop (p.toNat - 1)).take 16
      (s, .reply .done ([byte s.list.entries.length, if s.list.restraint then 1 else 0, p, byte l.length]
        ++ l.flatMap entryBytes)) := by
  have hinside : ¬ (p.toNat = 0 || 64 < p.toNat) = true := by
    have : p.toNat ≠ 0 := by bv_omega
    simp [this, hle]
  unfold readList
  exact if_neg hinside

/-! ### Fields side by side -/

theorem toNat_append_eq_add {i j : Nat} (x : BitVec i) (y : BitVec j) :
    (x ++ y).toNat = 2 ^ j * x.toNat + y.toNat := by
  rw [BitVec.toNat_append, ← Nat.shiftLeft_add_eq_or_of_lt y.isLt, Nat.shiftLeft_eq, Nat.mul_comm]

theorem ofNat_eq_of_toNat {w n : Nat} {x : BitVec w} (h : x.toNat = n) : BitVec.ofNat w n = x := by
  rw [← h, BitVec.ofNat_toNat, BitVec.setWidth_eq]

theorem two_eq_pair (k : Nat) : two k = [BitVec.ofNat 8 (k / 256), BitVec.ofNat 8 k] := by
  rw [two_eq, show BitVec.ofNat 8 (k % 256) = BitVec.ofNat 8 k from BitVec.eq_of_toNat_eq (Nat.mod_mod k _)]

/-- The class bits of a configuration word (2.8). -/
def SeatClass.bits : SeatClass → BitVec 2
  | .delegate => 0
  | .official => 1
  | .chair => 2
  | .observer => 3

/-- The order level bits of a configuration word, 4 for NONE (2.8). -/
def orderBits : Option Level → BitVec 3
  | some o => BitVec.ofNat 3 o.val
  | none => 4

/-- The unit kind bits of a SEAT row (2.8). -/
def unitBits : Option UnitKind → BitVec 2
  | none => 0
  | some .delegateUnit => 1
  | some .chairUnit => 2

/-- The floor state bits of a SEAT row (2.8). -/
def SeatFloor.bits : SeatFloor → BitVec 2
  | .idle => 0
  | .waiting => 1
  | .speaking => 2

theorem SeatClass.toNat_bits (c : SeatClass) : c.bits.toNat = c.code := by cases c <;> rfl

theorem toNat_orderBits (o : Option Level) : (orderBits o).toNat = (o.map Fin.val).getD 4 := by
  cases o with
  | none => rfl
  | some l => exact Nat.mod_eq_of_lt (l.isLt.trans (by decide))

theorem toNat_unitBits (u : Option UnitKind) : (unitBits u).toNat = unitKindCode u := by
  rcases u with _ | _ | _ <;> rfl

theorem SeatFloor.toNat_bits (f : SeatFloor) : f.bits.toNat = f.code := by cases f <;> rfl

theorem toNat_ofNat_level (l : Level) : (BitVec.ofNat 2 l.val).toNat = l.val := Nat.mod_eq_of_lt l.isLt

/-! ### The SEAT row -/

theorem configWord_eq (c : SeatConfig) :
    configWord c = c.cls.bits ++ BitVec.ofNat 2 c.speak.val ++ orderBits c.order ++ BitVec.ofBool c.barred
      ++ BitVec.ofBool c.exempt ++ BitVec.ofBool c.keyClose ++ 0#6 := by
  refine ofNat_eq_of_toNat ?_
  simp only [toNat_append_eq_add, SeatClass.toNat_bits, toNat_ofNat_level, toNat_orderBits, BitVec.toNat_ofBool,
    BitVec.toNat_zero]
  ring

/-- The presence byte of a SEAT row (2.8). -/
theorem byte_of_presence (r : SeatRun) :
    byte (128 * r.present.toNat + 32 * unitKindCode r.unitKind + 16 * r.mismatch.toNat
        + 8 * r.refusalShown.toNat + 2 * r.floor.code)
      = BitVec.ofBool r.present ++ unitBits r.unitKind ++ BitVec.ofBool r.mismatch ++ BitVec.ofBool r.refusalShown
        ++ r.floor.bits ++ 0#1 := by
  refine ofNat_eq_of_toNat ?_
  simp only [toNat_append_eq_add, toNat_unitBits, SeatFloor.toNat_bits, BitVec.toNat_ofBool, BitVec.toNat_ofNat]
  ring

/-- The two key bytes of a SEAT row: the references above the key levels (2.8). -/
theorem two_of_keys (r : SeatRun) :
    two (4096 * r.ref1.toNat + 256 * r.ref2.toNat + 16 * r.ref3.toNat + 4 * r.down1.toNat + 2 * r.down2.toNat
        + r.down3.toNat)
      = bytesOf (r.ref1 ++ r.ref2 ++ r.ref3 ++ 0#1 ++ BitVec.ofBool r.down1 ++ BitVec.ofBool r.down2
        ++ BitVec.ofBool r.down3) := by
  refine congrArg bytesOf (ofNat_eq_of_toNat ?_)
  simp only [toNat_append_eq_add, BitVec.toNat_ofBool, BitVec.toNat_ofNat]
  ring

theorem seatRow_eq (now : Nat) (x : SeatRecord) :
    seatRow now x =
      bytesOf (x.cfg.cls.bits ++ BitVec.ofNat 2 x.cfg.speak.val ++ orderBits x.cfg.order ++ BitVec.ofBool x.cfg.barred
          ++ BitVec.ofBool x.cfg.exempt ++ BitVec.ofBool x.cfg.keyClose ++ 0#6)
        ++ [BitVec.ofBool x.run.present ++ unitBits x.run.unitKind ++ BitVec.ofBool x.run.mismatch
          ++ BitVec.ofBool x.run.refusalShown ++ x.run.floor.bits ++ 0#1]
        ++ bytesOf (x.run.ref1 ++ x.run.ref2 ++ x.run.ref3 ++ 0#1 ++ BitVec.ofBool x.run.down1
          ++ BitVec.ofBool x.run.down2 ++ BitVec.ofBool x.run.down3)
        ++ [chanField x.run.chan] ++ two x.run.budget ++ two (sinceHeard now x.run)
        ++ two (sinceCommand now x.run) := by
  rw [seatRow, configWord_eq, byte_of_presence, two_of_keys]

/-! ### The other rows and the list entry -/

theorem ExpiryAction.byte_code (a : ExpiryAction) : byte a.code = match a with
    | .cut => 0
    | .overrun => 1 := by cases a <;> rfl

theorem Mode.byte_code (x : Mode) : byte x.code = match x with
    | .auto => 0
    | .override => 1
    | .directed => 2 := by cases x <;> rfl

theorem RequestKind.byte_turn_code (k : RequestKind) : byte k.turn.code = match k with
    | .speak => 0
    | .order => 1 := by cases k <;> rfl

/-- The notice enables of a FLOOR row, below three zeros (2.8). -/
theorem bytesOf_enables (e : BitVec 13) :
    bytesOf (e.setWidth 16) = [0#3 ++ e.extractLsb' 8 5, e.extractLsb' 0 8] := by
  have hsplit : e.setWidth 16 = (0#3 ++ e.extractLsb' 8 5) ++ e.extractLsb' 0 8 := by
    rw [BitVec.setWidth_eq_append (by decide), BitVec.append_assoc, BitVec.extractLsb'_append_extractLsb']
  rw [hsplit, bytesOf_append]

/-- The flags of a list entry (2.8). -/
theorem Entry.flags_eq (e : Entry) :
    e.flags = 0#4 ++ BitVec.ofBool e.upgraded ++ BitVec.ofBool e.relisted ++ BitVec.ofBool e.exhausted
      ++ BitVec.ofBool e.clamped := by
  refine ofNat_eq_of_toNat ?_
  simp only [toNat_append_eq_add, BitVec.toNat_ofBool, BitVec.toNat_ofNat]
  ring

/-- Settles O43: each readout is answered with what the state holds, and each field takes its bits of its row or
entry. -/
theorem readoutsReportAndChangeNothing : Obligations.ReadoutsReportAndChangeNothing := by
  refine ⟨fun m s htakes => ?identify, fun m s => ⟨fun table count first htakes => ⟨fun h => ?outsideTable,
    fun htable hfirst hcount => ?rows⟩, fun p htakes => ⟨fun h => ?outsideList, fun hpos hle => ?entries⟩⟩,
    fun now x => ?seatRow, fun r hr => ?classRow, fun r => ?branchRow, fun f => ?floorRow, fun e => ?entry⟩
  case identify =>
    rw [exec_identify]
    refine operate_readout htakes ?_
    rw [identify, ResetCause.byte_code, ProfileStatus.byte_code, StartState.byte_code]
    rfl
  case outsideTable =>
    rw [exec_readTable]
    exact operate_readout htakes (readTable_of_outside s h)
  case rows =>
    have hk : 1 ≤ min (min 16 count.toNat) (rowCount table - first.toNat) := by
      have : count.toNat ≠ 0 := by bv_omega
      have : first.toNat < rowCount table := hfirst
      omega
    rw [exec_readTable]
    refine operate_readout htakes ((readTable_of_inside s htable hfirst hcount).trans ?_)
    simp only [s.tableRowBytes_eq htable hfirst hk]
    rfl
  case outsideList =>
    rw [exec_readList]
    exact operate_readout htakes (readList_of_outside s h)
  case entries =>
    rw [exec_readList]
    exact operate_readout htakes (readList_of_inside s hpos hle)
  case seatRow =>
    rw [seatRow_eq, two_eq_pair, two_eq_pair, two_eq_pair]
    rfl
  case classRow =>
    obtain ⟨hspeak, horder, hwarning, -, -⟩ := hr
    rw [classRow, mmssBytes_of_valid hspeak, mmssBytes_of_valid horder, mmssBytes_of_valid hwarning, two_eq_pair,
      ExpiryAction.byte_code]
    rfl
  case branchRow =>
    rw [branchRow, two_eq_pair, two_eq_pair]
    rfl
  case floorRow =>
    rw [floorRow, two_eq_pair, two_eq_pair, two_eq_pair, Mode.byte_code, bytesOf_enables]
    rfl
  case entry =>
    rw [entryBytes, two_eq_pair, RequestKind.byte_turn_code, Entry.flags_eq]
    rfl

end Sys2Proof.Machine
end

section
/-! PROOF. One step, one mark, one notice: the command at the front of the queue is taken, a seat enters the command set
of its UP branch once, and a notice enters its queue or is counted as dropped (R33, R167, R168). -/

namespace Sys2Proof.Machine

/-- Settles O1: the queue's front is what `step` matches on. -/
theorem stepTakesFrontCommand : Obligations.StepTakesFrontCommand := fun _ _ _ => rfl

namespace State

/-- R33, branch by branch. -/
theorem mark_port (s : State) (n : SeatNo) (b : BranchId) :
    (s.mark n).port b = { s.port b with cmdSet := s.markedSet b n } := by
  unfold mark markedSet
  cases hbranch : s.branches.branchOf n with
  | none => simp
  | some b' =>
    by_cases hb : b' = b
    · subst hb
      dsimp only
      by_cases h : (s.port b').up = true ∧ n ∉ (s.port b').cmdSet
      · rw [if_pos (by simpa using h), port_updPort_self, if_pos ⟨rfl, h⟩]
      · rw [if_neg (by simpa using h), if_neg (fun g => h g.2)]
    · dsimp only
      split
      · rw [port_updPort_of_ne _ _ _ _ hb]
        simp [hb]
      · simp [hb]

theorem mark_eq_withPorts (s : State) (n : SeatNo) : s.mark n = s.withPorts (s.mark n).ports := by
  rcases s.mark_cases n with h | ⟨b, -, -, -, h⟩ <;> rw [h] <;> rfl

theorem notice_of_disabled (s : State) {k : NoticeKind} (n : Option SeatNo) (c : Option ChanNo) (r : Option Reason)
    (h : s.notifies k = false) : s.notice k n c r = s := by
  simp [notice, h]

/-- A notice that finds the uplink UP and a place in the queue (R168). -/
theorem notice_of_room {s : State} {k : NoticeKind} (n : Option SeatNo) (c : Option ChanNo) (r : Option Reason)
    (h : s.notifies k = true) (hup : s.uplink.up = true) (hroom : s.uplink.notices.length < 32) :
    s.notice k n c r = (s.withUplink { s.uplink with notices := s.uplink.notices ++
      [⟨k, s.mgmt.gap, n, c, r, s.list.entries.length, s.floor⟩] }).withMgmt { s.mgmt with gap := false } := by
  simp [notice, enqueue, h, hup, hroom, fill]

/-- A notice that is dropped as it is built (R24, R168). -/
theorem notice_of_no_room {s : State} {k : NoticeKind} (n : Option SeatNo) (c : Option ChanNo) (r : Option Reason)
    (h : s.notifies k = true) (hfull : s.uplink.up = false ∨ 32 ≤ s.uplink.notices.length) :
    s.notice k n c r = s.withMgmt { s.mgmt with noticeDrop := min 65535 (s.mgmt.noticeDrop + 1), gap := true } := by
  rcases hfull with hdown | hfull
  · simp [notice, enqueue, h, hdown, bump, maxCount]
  · simp [notice, enqueue, h, Nat.not_lt.2 hfull, bump, maxCount]

end State

/-- Settles O15. -/
theorem marksAndNoticesEnterTheirQueues : Obligations.MarksAndNoticesEnterTheirQueues :=
  ⟨fun s n => ⟨s.mark_port n, s.mark_eq_withPorts n⟩,
    fun s _ n c r => ⟨s.notice_of_disabled n c r, fun henabled =>
      ⟨State.notice_of_room n c r henabled, State.notice_of_no_room n c r henabled⟩⟩⟩

end Sys2Proof.Machine
end

section
/-! PROOF. The five checks of admission against the level after the clamp (R52, R53). -/

namespace Sys2Proof.Machine

/-- The level after the clamp is 3 where the claim or the entitlement is (R52). -/
theorem effectiveLevel_eq_three_iff (claimed entitled : Level) :
    effectiveLevel claimed entitled = 3 ↔ claimed = 3 ∨ entitled = 3 := by
  have h3 (l : Level) : l = 3 ↔ 3 ≤ l := ⟨fun h => h.ge, fun h => le_antisymm (Fin.le_last l) h⟩
  rw [h3, h3 claimed, h3 entitled, effectiveLevel, le_max_iff]

/-- Settles O29: the checks are tested in the order in which the clauses exclude them. -/
theorem admissionRefusesInOrder : Obligations.AdmissionRefusesInOrder := by
  intro s n claimed k entitled q
  have hent : (s.seat n).cfg.entitled k = entitled := by
    cases k <;> cases ho : (s.seat n).cfg.order <;> simp [entitled, SeatConfig.entitled, ho]
  clear_value entitled
  subst hent
  dsimp only [q]
  refine ⟨fun h => ?closed, fun h1 h2 => ?notEntitled, fun h1 h2 h3 => ?barred, fun h1 h2 h3 => ⟨fun h4 => ?full,
    fun h4 h5 h6 => ?restrained, fun h4 h5 => ?admitted⟩⟩
  case closed => simp [State.admissionRefusal, h]
  case notEntitled => simp [State.admissionRefusal, h1, h2]
  case barred => simp [State.admissionRefusal, h1, h2, h3]
  case full => simp [State.admissionRefusal, h1, h2, h3, State.fill, h4]
  case restrained =>
    simp [State.admissionRefusal, h1, h2, h3, State.fill, Nat.not_le.2 h4, h5, effectiveLevel_eq_three_iff, h6]
  case admitted =>
    have hcheck : (s.list.restraint && effectiveLevel claimed ((s.seat n).cfg.entitled k) == 3) = false := by
      rw [← Bool.not_eq_true, Bool.and_eq_true, beq_iff_eq, effectiveLevel_eq_three_iff]
      rintro ⟨hr, h3'⟩
      rcases h5 with h | ⟨h, h'⟩
      · simp [h] at hr
      · exact h3'.elim h h'
    simp [State.admissionRefusal, h1, h2, h3, State.fill, Nat.not_le.2 h4, hcheck]

end Sys2Proof.Machine
end

section
/-! PROOF. The frames the controller builds: the envelope, and the codes of replies and notices (R26, R43, R44). -/

namespace Sys2Proof.Machine

theorem bytesOf_length (h : Half) : (bytesOf h).length = 2 := rfl

theorem mkFrame_eq (k : Byte) (p : List Byte) :
    mkFrame k p = k :: byte p.length :: p ++ bytesOf (checkSequence (k :: byte p.length :: p)) := rfl

theorem mkFrame_length (k : Byte) (p : List Byte) : (mkFrame k p).length = p.length + 4 := by
  simp [mkFrame_eq, bytesOf_length]

theorem frameKind_mkFrame (k : Byte) (p : List Byte) : frameKind (mkFrame k p) = some k := rfl

theorem payload_mkFrame (k : Byte) (p : List Byte) : payload (mkFrame k p) = p := by
  rw [payload, mkFrame_length, mkFrame_eq]
  simp

/-- The receiver's check of R26 holds of a frame that fits the envelope: its length byte holds the payload's length. -/
theorem frameOk_mkFrame (k : Byte) {p : List Byte} (h : p.length ≤ 255) : frameOk (mkFrame k p) = true := by
  have hlen : (byte p.length).toNat = p.length := by
    rw [byte, BitVec.toNat_ofNat]
    exact Nat.mod_eq_of_lt (by omega)
  have htail : (mkFrame k p).length - 2 = (k :: byte p.length :: p).length := by
    rw [mkFrame_length]
    rfl
  rw [frameOk_iff, htail, mkFrame_length, mkFrame_eq, List.take_left, List.drop_left]
  exact ⟨by omega, hlen, rfl⟩

/-- The kind byte of a NOTICE frame (2.8). -/
def NoticeKind.bits : NoticeKind → Byte
  | .granted => 0x01
  | .closed => 0x02
  | .held => 0x03
  | .released => 0x04
  | .listed => 0x05
  | .unlisted => 0x06
  | .refused => 0x07
  | .warning => 0x08
  | .expired => 0x09
  | .seatPresent => 0x0A
  | .seatAbsent => 0x0B
  | .link => 0x0C
  | .restraint => 0x0D

theorem NoticeKind.byte_code (k : NoticeKind) : byte k.code = k.bits := by cases k <;> rfl

/-- The reason byte of a NOTICE frame (2.8). -/
def reasonBits : Option Reason → Byte
  | none => 0x00
  | some .seatClosed => 0x01
  | some .ended => 0x02
  | some .timeUp => 0x03
  | some .silence => 0x04
  | some .displaced => 0x05
  | some .nextSpeaker => 0x06
  | some .seatLost => 0x07
  | some .barred => 0x08
  | some .floorClosed => 0x09
  | some .granted => 0x0A
  | some .withdrawn => 0x0B
  | some .absent => 0x0C
  | some .cleared => 0x0D
  | some .operator => 0x0E
  | some .closed => 0x10
  | some .notEntitled => 0x11
  | some .listFull => 0x12
  | some .restrained => 0x13
  | some .priority => 0x18
  | some .suspend => 0x19
  | some .set => 0x1A
  | some .clear => 0x1B
  | some (.linkUp (.branch .branchA)) => 0x20
  | some (.linkDown (.branch .branchA)) => 0x21
  | some (.linkUp (.branch .branchB)) => 0x22
  | some (.linkDown (.branch .branchB)) => 0x23
  | some (.linkUp (.branch .branchC)) => 0x24
  | some (.linkDown (.branch .branchC)) => 0x25
  | some (.linkUp (.branch .branchD)) => 0x26
  | some (.linkDown (.branch .branchD)) => 0x27
  | some (.linkUp .uplink) => 0x28
  | some (.linkDown .uplink) => 0x29

theorem reasonBits_eq (r : Option Reason) : byte ((r.map Reason.code).getD 0) = reasonBits r := by
  match r with
  | none => rfl
  | some (.linkUp .uplink) | some (.linkDown .uplink) => rfl
  | some (.linkUp (.branch b)) | some (.linkDown (.branch b)) => cases b <;> rfl
  | some .seatClosed | some .ended | some .timeUp | some .silence | some .displaced | some .nextSpeaker => rfl
  | some .seatLost | some .barred | some .floorClosed | some .granted | some .withdrawn | some .absent => rfl
  | some .cleared | some .operator | some .closed | some .notEntitled | some .listFull | some .restrained => rfl
  | some .priority | some .suspend | some .set | some .clear => rfl

/-- The floor state byte of a NOTICE frame (2.8). -/
def FloorState.bits : FloorState → Byte
  | .closed => 0
  | .opened => 1
  | .suspended => 2

theorem FloorState.byte_code (f : FloorState) : byte f.code = f.bits := by cases f <;> rfl

theorem seatField_eq (n : Option SeatNo) : seatField n = match n with
    | some n => [BitVec.ofNat 8 (n.val / 256), BitVec.ofNat 8 (n.val % 256)]
    | none => [0xFF, 0xFF] := by
  cases n with
  | none => rfl
  | some n => exact two_eq n.val

/-- Settles O13: the envelope by its length, the check figure by evaluation, and each code by its constructor. -/
theorem builtFramesPassTheirCheck : Obligations.BuiltFramesPassTheirCheck := by
  refine ⟨fun k p h => ⟨frameOk_mkFrame k h, frameKind_mkFrame k p, payload_mkFrame k p, rfl⟩, Tests.test_check_sequence,
    fun x => ?audio, fun r => ?reply, fun x => ?notice⟩
  case audio =>
    rw [audioFrame, two_eq]
    rfl
  case reply =>
    obtain ⟨tag, st, data, resets⟩ := r
    cases st <;> rfl
  case notice =>
    have hframe : noticeFrame x = mkFrame 0x62 ([x.kind.bits, flagByte x.gap] ++ seatField x.seat
        ++ [chanField x.chan, reasonBits x.reason, BitVec.ofNat 8 x.fill, x.floor.bits]) := by
      rw [noticeFrame, NoticeKind.byte_code, reasonBits_eq, FloorState.byte_code]
      rfl
    rw [seatField_eq] at hframe
    exact hframe

end Sys2Proof.Machine
end

section
/-! PROOF. The management rows and their frames: every row is its frame taken by its bytes, and what turns a frame away
(R22, R39, R44, R154, R156, R166, R174). -/

namespace Sys2Proof.Machine

/-! ### The operation a frame names -/

@[simp] theorem half_bytes (h : Half) : half (h.extractLsb' 8 8) (h.extractLsb' 0 8) = h :=
  BitVec.extractLsb'_append_extractLsb'

theorem Op.ofCode_code (o : Op) : Op.ofCode o.code = some o := by cases o <;> decide

theorem Op.code_of_ofCode {x : Byte} {o : Op} (h : Op.ofCode x = some o) : o.code = x := by
  simpa [Op.ofCode] using List.find?_some h

theorem payloadOperation_mgmtFrame (m : MgmtHead) (o : Op) (fields : List Byte) :
    payloadOperation (mgmtFrame m o fields) = operation o.code fields := by
  rw [payloadOperation, payload_mgmtFrame]
  rfl

/-- A row that is its operation by code and fields is its frame taken by its bytes (R39, R44). -/
theorem operate_eq_receive {m : MgmtHead} {o : Op} {fields : List Byte} {body : Body}
    (h : operation o.code fields = body) (s : State) :
    operate m o fields body s
      = .next (s.receive (mgmtFrame m o fields) (payloadOperation (mgmtFrame m o fields))) := by
  rw [payloadOperation_mgmtFrame, h]
  rfl

theorem operation_writeTable (l : List Byte) : operation Op.writeTable.code l = writeTableFields l := by
  unfold operation
  rw [Op.ofCode_code]

theorem operation_seatFlags (first : Half) (count flag : Byte) (a : FlagAction) :
    operation Op.seatFlags.code (seatFlagFields first count flag a) = seatFlagsByCode first count flag a.code := by
  unfold operation
  rw [Op.ofCode_code]
  simp only [seatFlagFields, bytesOf, List.cons_append, List.nil_append, half_bytes]

/-- Every row of the Management Unit is its frame taken by its bytes, and so is a raw frame of kind MANAGEMENT. -/
theorem exec_of_managementFrame {i : Instr} {f : Frame} (h : i.managementFrame = some f) (s : State) :
    exec i s = .next (s.receive f (payloadOperation f)) := by
  cases i with
  | programme g | unknownOperation g =>
    simp only [Instr.managementFrame, Option.ite_none_right_eq_some, Option.some.injEq] at h
    obtain ⟨hkind, rfl⟩ := h
    exact congrArg _ (State.receiveUplink_of_management s hkind)
  | writeTableSeat m index row | writeTableClass m index row | writeTableBranch m index row
  | writeTableFloor m index row =>
    obtain rfl := Option.some.inj h
    refine operate_eq_receive ?_ s
    rw [operation_writeTable]
    simp [writeTableFields, bytesOf]
  | seatFlagsTest m first count flag | seatFlagsSet m first count flag | seatFlagsClear m first count flag
  | seatFlagsToggle m first count flag =>
    obtain rfl := Option.some.inj h
    exact operate_eq_receive (operation_seatFlags first count flag _) s
  | readTable m table first count =>
    obtain rfl := Option.some.inj h
    refine operate_eq_receive ?_ s
    unfold operation
    rw [Op.ofCode_code]
    simp [bytesOf]
  | grant m seat force =>
    obtain rfl := Option.some.inj h
    refine operate_eq_receive ?_ s
    unfold operation
    rw [Op.ofCode_code]
    simp [bytesOf]
  | endTurn m selector number =>
    obtain rfl := Option.some.inj h
    refine operate_eq_receive ?_ s
    unfold operation
    rw [Op.ofCode_code]
    simp [bytesOf]
  | withdraw m seat =>
    obtain rfl := Option.some.inj h
    refine operate_eq_receive ?_ s
    unfold operation
    rw [Op.ofCode_code]
    simp [bytesOf]
  | identify | readList | readFloor | readCounters | storeProfile | recallProfile | reset | openFloor | closeFloor
  | suspend | resume | setMode | setLimit | setGate | clearList | reloadBudgets | nextSpeaker =>
    obtain rfl := Option.some.inj h
    refine operate_eq_receive ?_ s
    unfold operation
    rw [Op.ofCode_code]
  | _ => cases h

/-- Settles O14. -/
theorem rowsAgreeWithTheirFrames : Obligations.RowsAgreeWithTheirFrames := by
  intro i f s h
  have hrow := exec_of_managementFrame h s
  cases i with
  | programme g | unknownOperation g =>
    obtain ⟨hkind, rfl⟩ : frameKind g = some kindManagement ∧ g = f := by simpa [Instr.managementFrame] using h
    rfl
  | _ =>
    have hkind : frameKind f = some kindManagement := by cases h <;> rfl
    rw [hrow]
    exact congrArg _ (State.receiveUplink_of_management s hkind)

end Sys2Proof.Machine
end

section
/-! PROOF. What turns a management frame away: the port, an unlisted code, fields of another length, an operand out of
range, and the hold-off of an operation (R22, R39, R154, R156, R166, R174). -/

namespace Sys2Proof.Machine

/-- The act of a frame that is not recognised (R154). -/
def unrecognised : Body := fun s => (s, only .unknown)

/-! ### Rows of another length -/

section
variable {index : Half} {row : List Byte}

theorem writeSeatRow_of_length (h : row.length ≠ 12) : writeSeatRow index row = unrecognised := by
  unfold writeSeatRow
  split
  · simp at h
  · rfl

theorem writeClassRow_of_length (h : row.length ≠ 10) : writeClassRow index row = unrecognised := by
  have hread : readClassRow row = none := by
    unfold readClassRow
    split
    · simp at h
    · rfl
  rw [writeClassRow, hread]
  rfl

theorem writeBranchRow_of_length (h : row.length ≠ 5) : writeBranchRow index row = unrecognised := by
  have hread : readBranchRow row = none := by
    unfold readBranchRow
    split
    · simp at h
    · rfl
  rw [writeBranchRow, hread]
  rfl

theorem writeFloorRow_of_length (h : row.length ≠ 17) : writeFloorRow index row = unrecognised := by
  have hread : readFloorRow row = none := by
    unfold readFloorRow
    split
    · simp at h
    · rfl
  rw [writeFloorRow, hread]
  rfl

end

/-- A WRITE TABLE of a table code above 3 (R154 step 1). -/
theorem writeTableFields_of_code {x : Byte} (h : 3 < x.toNat) (l : List Byte) :
    writeTableFields (x :: l) = fun s => (s, only .refusedRange) := by
  unfold writeTableFields
  exact if_pos h

theorem writeTableFields_of_unfit {l : List Byte} (h : fieldsFit .writeTable l = false) :
    writeTableFields l = unrecognised := by
  match l with
  | [] => rfl
  | x :: l =>
    simp only [fieldsFit, Bool.or_eq_false_iff, decide_eq_false_iff_not, beq_eq_false_iff_ne] at h
    obtain ⟨hx, hlen⟩ := h
    match l with
    | [] | [_] => simp only [writeTableFields, if_neg hx]; rfl
    | hi :: lo :: row =>
      have hrow : row.length ≠ rowBytes x.toNat := by
        simp only [List.length_cons] at hlen
        omega
      simp only [writeTableFields, if_neg hx]
      rcases table_cases (Nat.not_lt.1 hx) with rfl | rfl | rfl | rfl
      · exact writeSeatRow_of_length hrow
      · exact writeClassRow_of_length hrow
      · exact writeBranchRow_of_length hrow
      · exact writeFloorRow_of_length hrow

/-! ### Codes and fields -/

theorem operation_of_unlisted {code : Byte} (h : Op.ofCode code = none) (fields : List Byte) :
    operation code fields = unrecognised := by
  unfold operation
  rw [h]
  rfl

/-- Fields that are longer or shorter than 2.8 gives (R44, R154). -/
theorem operation_of_unfit {code : Byte} {o : Op} {fields : List Byte} (h : Op.ofCode code = some o)
    (hfit : fieldsFit o fields = false) : operation code fields = unrecognised := by
  unfold operation
  rw [h]
  cases o with
  | writeTable => exact writeTableFields_of_unfit hfit
  | readTable =>
    match fields, hfit with
    | [], _ | [_], _ | [_, _], _ | [_, _, _], _ | _ :: _ :: _ :: _ :: _ :: _, _ => rfl
  | seatFlags =>
    match fields, hfit with
    | [], _ | [_], _ | [_, _], _ | [_, _, _], _ | [_, _, _, _], _ | _ :: _ :: _ :: _ :: _ :: _ :: _, _ => rfl
  | grant | endTurn =>
    match fields, hfit with
    | [], _ | [_], _ | [_, _], _ | _ :: _ :: _ :: _ :: _, _ => rfl
  | withdraw =>
    match fields, hfit with
    | [], _ | [_], _ | _ :: _ :: _ :: _, _ => rfl
  | readList | readFloor | readCounters | openFloor | setMode | setLimit | setGate =>
    match fields, hfit with
    | [], _ | _ :: _ :: _, _ => rfl
  | identify | storeProfile | recallProfile | reset | closeFloor | suspend | resume | clearList | reloadBudgets
  | next =>
    match fields, hfit with
    | _ :: _, _ => rfl

theorem actionOfCode_of_large {x : Byte} (h : 3 < x.toNat) : actionOfCode x = none := by
  unfold actionOfCode
  split
  · omega
  · omega
  · omega
  · omega
  · rfl

/-- An action code above 3 (R166). -/
theorem seatFlagsByCode_of_large {x : Byte} (h : 3 < x.toNat) (first : Half) (count flag : Byte) :
    seatFlagsByCode first count flag x = fun s => (s, only .refusedRange) := by
  rw [seatFlagsByCode, actionOfCode_of_large h]

/-! ### At the port -/

namespace State

variable {s : State} {f : Frame}

theorem receive_of_down (h : s.uplink.up = false) (body : Body) : s.receive f body = s := by
  simp [receive, h]

theorem receive_of_untaken (hup : s.uplink.up = true) (h : s.takesFrame f = false) (body : Body) :
    s.receive f body = s.withMgmt { s.mgmt with mgmtErr := min 65535 (s.mgmt.mgmtErr + 1) } := by
  simp [receive, hup, h, countMgmtErr, bump, maxCount]

theorem takesFrame_iff : s.takesFrame f = true
    ↔ frameOk f = true ∧ 2 ≤ (payload f).length ∧ s.uplink.replies.length < 16 := by
  simp [takesFrame, and_assoc]

/-- A frame handed on after RESET (R174). -/
theorem receive_after_reset (hup : s.uplink.up = true) (h : s.takesFrame f = true) (hreset : s.startUp.reset ≠ .none)
    (body : Body) :
    s.receive f body = s.withUplink { s.uplink with replies := s.uplink.replies ++ [.unanswered] } := by
  simp [receive, hup, h, manage, hreset, pushPlace]

/-- A taken frame whose act is a status alone is answered with it. -/
theorem receive_of_only {body : Body} {st : Status} (htakes : s.Takes f) (h : body s = (s, only st)) :
    s.receive f body = s.replied ((payload f).headD 0) st [] := by
  rw [receive_of_takes _ _ _ htakes, h]
  exact answer_reply_of_up htakes.1

/-- The status of R156 for a write or a profile operation. -/
theorem heldOff_busy {h : HoldClass} (hclass : h = .write ∨ h = .profile)
    (hs : s.startUp.state = .recalling ∨ s.profile.op ≠ none) : s.heldOff h = some .busy := by
  have hop (hop : s.profile.op ≠ none) : s.profile.op.isSome = true := Option.isSome_iff_ne_none.2 hop
  rcases hclass with rfl | rfl <;> cases hstate : s.startUp.state <;> simp_all [heldOff]

end State

/-- The body of a held-off row with operands that its row can have, and the frame it stands for. -/
theorem exec_of_holdClass {i : Instr} {h : HoldClass} {f : Frame} (hclass : i.holdClass = some h) (hwf : i.wf = true)
    (hframe : i.managementFrame = some f) (s : State) : ∃ body : Body, exec i s = .next (s.receive f (held h body)) := by
  cases i with
  | writeTableSeat m index row =>
    obtain rfl := Option.some.inj hframe
    obtain rfl := Option.some.inj hclass
    match row, (by simpa [Instr.wf, rowBytes] using hwf : row.length = 12) with
    | [_, _, _, _, _, _, _, _, _, _, _, _], _ => exact ⟨_, rfl⟩
  | writeTableClass m index row =>
    obtain rfl := Option.some.inj hframe
    obtain rfl := Option.some.inj hclass
    match row, (by simpa [Instr.wf, rowBytes] using hwf : row.length = 10) with
    | [_, _, _, _, _, _, _, _, _, _], _ => exact ⟨_, rfl⟩
  | writeTableBranch m index row =>
    obtain rfl := Option.some.inj hframe
    obtain rfl := Option.some.inj hclass
    match row, (by simpa [Instr.wf, rowBytes] using hwf : row.length = 5) with
    | [_, _, _, _, _], _ => exact ⟨_, rfl⟩
  | writeTableFloor m index row =>
    obtain rfl := Option.some.inj hframe
    obtain rfl := Option.some.inj hclass
    match row, (by simpa [Instr.wf, rowBytes] using hwf : row.length = 17) with
    | [_, _, _, _, _, _, _, _, _, _, _, _, _, _, _, _, _], _ => exact ⟨_, rfl⟩
  | seatFlagsSet | seatFlagsClear | seatFlagsToggle | storeProfile | recallProfile | openFloor | closeFloor | suspend
  | resume | setMode | setLimit | setGate | grant | endTurn | withdraw | clearList | reloadBudgets | nextSpeaker =>
    obtain rfl := Option.some.inj hframe
    obtain rfl := Option.some.inj hclass
    exact ⟨_, rfl⟩
  | _ => cases hclass

/-- Settles O42. -/
theorem framesTurnedAway : Obligations.FramesTurnedAway := by
  refine ⟨fun i f s hframe => ?port, fun f s tag code fields hkind htakes hpayload => ?fields,
    fun i f s hframe hwf htakes => ?heldOff⟩
  case port =>
    rw [exec_of_managementFrame hframe]
    refine ⟨fun hdown => by rw [State.receive_of_down hdown], fun hup hbad => ?_, fun hup hok hlen hroom hreset => ?_⟩
    · rw [State.receive_of_untaken hup]
      rw [← Bool.not_eq_true, State.takesFrame_iff]
      rintro ⟨hok, hlen, hroom⟩
      rcases hbad with h | h | h
      · simp [h] at hok
      · omega
      · omega
    · rw [State.receive_after_reset hup (State.takesFrame_iff.2 ⟨hok, hlen, hroom⟩) hreset]
  case fields =>
    have hframe : (Instr.unknownOperation f).managementFrame = some f := if_pos hkind
    have hanswer {st : Status} (h : operation code fields = fun s => (s, only st)) :
        exec (.unknownOperation f) s = .next (s.replied tag st []) := by
      have hop : payloadOperation f s = (s, only st) := by
        rw [payloadOperation, hpayload]
        exact congrFun h s
      rw [exec_of_managementFrame hframe, State.receive_of_only htakes hop, hpayload]
      rfl
    refine ⟨fun hcode => hanswer (operation_of_unlisted hcode fields),
      fun o hcode hfit => hanswer (operation_of_unfit hcode hfit), ?_, ?_⟩
    · rintro x l rfl rfl hx
      exact hanswer ((operation_writeTable _).trans (writeTableFields_of_code hx l))
    · rintro a b k g x rfl rfl hx
      exact hanswer (seatFlagsByCode_of_large hx (half a b) k g)
  case heldOff =>
    have hanswer {h : HoldClass} {st : Status} (hclass : i.holdClass = some h) (hoff : s.heldOff h = some st) :
        exec i s = .next (s.replied ((payload f).headD 0) st []) := by
      obtain ⟨body, hexec⟩ := exec_of_holdClass hclass hwf hframe s
      rw [hexec, State.receive_of_only htakes (held_of_some h body s st hoff)]
    refine ⟨fun hclass hstate => ?_, fun hclass => ⟨fun hstate => ?_, fun hstate => ?_⟩⟩
    · rcases hclass with hclass | hclass
      · exact hanswer hclass (State.heldOff_busy (.inl rfl) hstate)
      · exact hanswer hclass (State.heldOff_busy (.inr rfl) hstate)
    · exact hanswer hclass (by simp [State.heldOff, hstate])
    · exact hanswer hclass (by simp [State.heldOff, hstate])

end Sys2Proof.Machine
end

section
/-! PROOF. The rows of a table write as the controller takes them: the clamp of each field, and when a field was out of
its range (R79, R152, R162 to R165). -/

namespace Sys2Proof.Machine

/-! ### Digits -/

theorem toNat_byte {n : Nat} (h : n < 256) : (byte n).toNat = n := by
  rw [byte, BitVec.toNat_ofNat]
  exact Nat.mod_eq_of_lt h

theorem byte_toNat (x : Byte) : byte x.toNat = x := BitVec.ofNat_toNat .. |>.trans (BitVec.setWidth_eq x)

theorem byte_of_toNat {x : Byte} {n : Nat} (h : n = x.toNat) : byte n = x := h ▸ byte_toNat x

theorem Mmss.clamped_valid (v : Mmss) : v.clamped.Valid :=
  ⟨min_le_left .., min_le_left .., min_le_left .., min_le_left ..⟩

/-- A field of digits stays as it is exactly when no digit is above its largest value (R163). -/
theorem Mmss.clamped_eq_iff (v : Mmss) : v.clamped = v ↔ v.Valid := by
  obtain ⟨mt, mu, st, su⟩ := v
  simp only [Mmss.clamped, Mmss.Valid, Mmss.mk.injEq]
  omega

theorem digitsOf_not_valid_iff (a b : Byte) : ¬(digitsOf a b).Valid
    ↔ 9 < a.toNat / 16 ∨ 9 < a.toNat % 16 ∨ 5 < b.toNat / 16 ∨ 9 < b.toNat % 16 := by
  simp only [digitsOf, Mmss.Valid]
  omega

theorem digitsOf_ne_clamped_iff (a b : Byte) : digitsOf a b ≠ (digitsOf a b).clamped
    ↔ 9 < a.toNat / 16 ∨ 9 < a.toNat % 16 ∨ 5 < b.toNat / 16 ∨ 9 < b.toNat % 16 := by
  rw [ne_comm, ne_eq, Mmss.clamped_eq_iff, digitsOf_not_valid_iff]

theorem mmssBytes_digitsOf (a b : Byte) : mmssBytes (digitsOf a b) = [a, b] := by
  simp only [mmssBytes, digitsOf, List.cons.injEq, and_true]
  exact ⟨byte_of_toNat (by omega), byte_of_toNat (by omega)⟩

theorem digitsOf_mmss {v : Mmss} (h : v.Valid) :
    digitsOf (byte (16 * v.mt + v.mu)) (byte (16 * v.st + v.su)) = v := by
  obtain ⟨mt, mu, st, su⟩ := v
  obtain ⟨hmt, hmu, hst, hsu⟩ := h
  dsimp only at hmt hmu hst hsu
  rw [digitsOf, toNat_byte (by dsimp only; omega), toNat_byte (by dsimp only; omega)]
  simp only [Mmss.mk.injEq]
  omega

theorem clampWarning_valid {v : Mmss} (h : v.Valid) : (clampWarning v).Valid ∧ (clampWarning v).seconds ≤ 599 := by
  unfold clampWarning
  split
  · exact ⟨⟨by decide, by decide, by decide, by decide⟩, by decide⟩
  · next hle => exact ⟨h, Nat.not_lt.1 hle⟩

theorem clampWarning_of_le {v : Mmss} (h : v.seconds ≤ 599) : clampWarning v = v := if_neg (Nat.not_lt.2 h)

/-! ### Yes and no fields -/

theorem yes_eq (x : Byte) : yes x = decide (x ≠ 0) := by
  rw [Bool.eq_iff_iff, yes, bne_iff_ne, decide_eq_true_iff]

theorem flagByte_of_le {x : Byte} (h : x.toNat ≤ 1) : flagByte (decide (x ≠ 0)) = x := by
  rcases (by bv_omega : x = 0 ∨ x = 1) with rfl | rfl <;> rfl

theorem yes_flagByte (b : Bool) : yes (flagByte b) = b := by cases b <;> rfl

theorem expiry_byte_of_le {x : Byte} (h : x.toNat ≤ 1) : byte (if x = 0 then ExpiryAction.cut else .overrun).code = x := by
  rcases (by bv_omega : x = 0 ∨ x = 1) with rfl | rfl <;> rfl

/-! ### A CLASS row -/

/-- The record a CLASS row stores (R163). -/
theorem readClassRow_eq (a b c d e f x y hi lo : Byte) :
    readClassRow [a, b, c, d, e, f, x, y, hi, lo] = some
      ({ speakLimit := (digitsOf a b).clamped, orderLimit := (digitsOf c d).clamped
         warning := clampWarning (digitsOf e f).clamped
         expiry := if x = 0 then .cut else .overrun, enforced := decide (y ≠ 0), initial := (half hi lo).toNat },
       digitsOf a b != (digitsOf a b).clamped || digitsOf c d != (digitsOf c d).clamped
         || digitsOf e f != clampWarning (digitsOf e f).clamped || 1 < x.toNat || 1 < y.toNat) := by
  rw [← yes_eq]
  rfl

/-- The warning threshold is clamped twice: its digits, and its value (R163). -/
theorem eq_clampWarning_clamped_iff (v : Mmss) :
    v = clampWarning v.clamped ↔ v.Valid ∧ v.clamped.seconds ≤ 599 := by
  refine ⟨fun h => ?_, fun ⟨hv, hs⟩ => ?_⟩
  · obtain ⟨hvalid, hle⟩ := clampWarning_valid v.clamped_valid
    rw [← h] at hvalid hle
    rw [(Mmss.clamped_eq_iff v).2 hvalid]
    exact ⟨hvalid, hle⟩
  · rw [clampWarning_of_le hs, (Mmss.clamped_eq_iff v).2 hv]

theorem ClassRecord.valid_of_read {l : List Byte} {r : ClassRecord} {adjusted : Bool}
    (h : readClassRow l = some (r, adjusted)) : r.Valid := by
  unfold readClassRow at h
  split at h
  · next a b c d e f x y hi lo =>
    obtain ⟨rfl, -⟩ := Prod.mk.inj (Option.some.inj h)
    have hw := clampWarning_valid (digitsOf e f).clamped_valid
    have hinitial := (half hi lo).isLt
    exact ⟨Mmss.clamped_valid _, Mmss.clamped_valid _, hw.1, hw.2, by simp only [maxCount]; omega⟩
  · cases h

theorem readClassRow_classRow {r : ClassRecord} (h : r.Valid) : ∃ adjusted, readClassRow (classRow r) = some (r, adjusted) := by
  obtain ⟨hspeak, horder, hwarning, hle, hinitial⟩ := h
  obtain ⟨speak, order, warning, expiry, enforced, initial⟩ := r
  dsimp only [maxCount] at *
  refine ⟨_, (readClassRow_eq ..).trans (congrArg some (Prod.ext ?_ rfl))⟩
  simp only [digitsOf_mmss hspeak, digitsOf_mmss horder, digitsOf_mmss hwarning, (Mmss.clamped_eq_iff _).2 hspeak,
    (Mmss.clamped_eq_iff _).2 horder, (Mmss.clamped_eq_iff _).2 hwarning, clampWarning_of_le hle, ← yes_eq, yes_flagByte, half_bytes, BitVec.toNat_ofNat,
    ClassRecord.mk.injEq, true_and]
  exact ⟨by cases expiry <;> rfl, Nat.mod_eq_of_lt (by omega)⟩

/-! ### BRANCH and FLOOR rows -/

theorem readBranchRow_eq (e a b c d : Byte) : readBranchRow [e, a, b, c, d] =
    some (⟨decide (e ≠ 0), (half a b).toNat, (half c d).toNat⟩, decide (1 < e.toNat)) := by
  rw [← yes_eq]
  rfl

theorem clamp_one_eq {hi : Nat} (h : 1 ≤ hi) (n : Nat) :
    clamp 1 hi n = if n = 0 then 1 else if hi < n then hi else n := by
  unfold clamp
  split_ifs <;> omega

theorem min_eq_ite_lt (hi n : Nat) : min hi n = if hi < n then hi else n := by
  split_ifs <;> omega

theorem ite_le_eq_ite_lt (h l : Nat) : (if h ≤ l then h - 1 else l) = if l < h then l else h - 1 := by
  split_ifs <;> omega

/-- R79. -/
theorem clampMarks_eq (high low : Nat) :
    let h := if high = 0 then 1 else if 64 < high then 64 else high
    let l := if 63 < low then 63 else low
    clampMarks high low = (h, if l < h then l else h - 1) := by
  dsimp only
  rw [← clamp_one_eq (by decide), ← min_eq_ite_lt, ← ite_le_eq_ite_lt]
  rfl

/-- R152. -/
theorem clampThresholds_eq (on off : Nat) :
    let h := if on = 0 then 1 else if 32767 < on then 32767 else on
    let l := if 32766 < off then 32766 else off
    clampThresholds on off = (h, if l < h then l else h - 1) := by
  dsimp only
  rw [← clamp_one_eq (by decide), ← min_eq_ite_lt, ← ite_le_eq_ite_lt]
  rfl

theorem clampPresence_eq (n : Nat) :
    clampPresence n = if n < 200 then 200 else if 5000 < n then 5000 else n - n % 100 := by
  unfold clampPresence clamp
  split_ifs <;> omega

theorem clampPresence_ne_iff (n : Nat) : clampPresence n ≠ n ↔ n < 200 ∨ 5000 < n ∨ n % 100 ≠ 0 := by
  rw [clampPresence_eq]
  split_ifs <;> omega

theorem min_ne_right_iff (hi n : Nat) : min hi n ≠ n ↔ hi < n := by omega

/-- A mark or threshold was clamped from below or above. -/
theorem ite_one_ne_iff {hi : Nat} (n : Nat) :
    (if n = 0 then 1 else if hi < n then hi else n) ≠ n ↔ n = 0 ∨ hi < n := by
  split_ifs <;> omega

/-- A low mark or OFF threshold was clamped by its range or by the value above it. -/
theorem ite_below_ne_iff {hi top : Nat} (h : 1 ≤ top) (n : Nat) :
    (if (if hi < n then hi else n) < top then (if hi < n then hi else n) else top - 1) ≠ n
      ↔ hi < n ∨ top ≤ if hi < n then hi else n := by
  split_ifs <;> omega

theorem one_le_ite_one {hi : Nat} (h : 1 ≤ hi) (n : Nat) :
    1 ≤ (if n = 0 then 1 else if hi < n then hi else n) := by
  split_ifs <;> omega

theorem modeOfCode_getD (x : Byte) :
    (modeOfCode x).getD .directed = if x = 0 then .auto else if x = 1 then .override else .directed := by
  by_cases h : 2 < x.toNat
  · rw [modeOfCode_of_large h, if_neg (by rintro rfl; simp at h), if_neg (by rintro rfl; simp at h)]
    rfl
  · rcases (by bv_omega : x = 0 ∨ x = 1 ∨ x = 2) with rfl | rfl | rfl <;> rfl

theorem mode_byte_of_le {x : Byte} (h : x.toNat ≤ 2) : byte ((modeOfCode x).getD .directed).code = x := by
  rcases (by bv_omega : x = 0 ∨ x = 1 ∨ x = 2) with rfl | rfl | rfl <;> rfl

theorem eq_zero_iff_toNat {w : Nat} (x : BitVec w) : x = 0 ↔ x.toNat = 0 := by
  rw [BitVec.toNat_eq]
  simp

theorem two_of_half {hi lo : Byte} {n : Nat} (h : n = (half hi lo).toNat) : two n = [hi, lo] := by
  rw [h, two, BitVec.ofNat_toNat, BitVec.setWidth_eq, half, bytesOf_append]

theorem clampLimit_byte (x : Byte) (h : clampLimit x = x.toNat) : byte (clampLimit x) = x := byte_of_toNat h

/-- A CLASS row counts as adjusted exactly when a field was out of its range (R163). -/
theorem readClassRow_adjusted_iff (a b c d e f x y : Byte) :
    (digitsOf a b != (digitsOf a b).clamped || digitsOf c d != (digitsOf c d).clamped
        || digitsOf e f != clampWarning (digitsOf e f).clamped || 1 < x.toNat || 1 < y.toNat) = true
      ↔ digitsOf a b ≠ (digitsOf a b).clamped ∨ digitsOf c d ≠ (digitsOf c d).clamped
        ∨ digitsOf e f ≠ (digitsOf e f).clamped ∨ 599 < (digitsOf e f).clamped.seconds ∨ 1 < x.toNat ∨ 1 < y.toNat := by
  have hwarning : digitsOf e f ≠ clampWarning (digitsOf e f).clamped
      ↔ digitsOf e f ≠ (digitsOf e f).clamped ∨ 599 < (digitsOf e f).clamped.seconds := by
    rw [ne_eq, eq_clampWarning_clamped_iff, not_and_or, not_le, ← Mmss.clamped_eq_iff, ← ne_eq, ne_comm]
  simp only [Bool.or_eq_true, bne_iff_ne, decide_eq_true_eq, hwarning, or_assoc]

/-- A CLASS row that was not adjusted is the row of the record it stores. -/
theorem classRow_of_unadjusted {a b c d e f x y hi lo : Byte} {r : ClassRecord}
    (h : readClassRow [a, b, c, d, e, f, x, y, hi, lo] = some (r, false)) :
    classRow r = [a, b, c, d, e, f, x, y, hi, lo] := by
  obtain ⟨rfl, hadjusted⟩ := Prod.mk.inj (Option.some.inj ((readClassRow_eq ..).symm.trans h))
  have hno := (readClassRow_adjusted_iff a b c d e f x y).not.1 (by rw [hadjusted]; decide)
  simp only [not_or, not_not, Nat.not_lt] at hno
  obtain ⟨hab, hcd, hef, hw, hx, hy⟩ := hno
  rw [classRow, clampWarning_of_le hw, ← hab, ← hcd, ← hef, mmssBytes_digitsOf, mmssBytes_digitsOf, mmssBytes_digitsOf,
    expiry_byte_of_le hx, flagByte_of_le hy, two_of_half rfl]
  rfl

/-- Settles O45. -/
theorem writtenFieldsAreClamped : Obligations.WrittenFieldsAreClamped := by
  refine ⟨fun a b c d e f x y hi lo => ?classRow, fun e a b c d => ?branchRow,
    fun mode limit gate high low ph pl sil onh onl offh offl start budget relist eh el => ?floorRow, fun w => ?order⟩
  case classRow =>
    refine ⟨_, readClassRow_eq .., ClassRecord.valid_of_read (readClassRow_eq ..), ?_,
      fun hadjusted => classRow_of_unadjusted ((readClassRow_eq ..).trans (congrArg _ (Prod.ext rfl hadjusted)))⟩
    simp only [readClassRow_adjusted_iff, digitsOf_ne_clamped_iff]
    rfl
  case branchRow => exact readBranchRow_eq e a b c d
  case floorRow =>
    refine ⟨_, _, rfl, modeOfCode_getD mode, clampLimit_eq limit, ?gate, ?high, ?low, clampPresence_eq _, ?silence,
      ?on, ?off, yes_eq start, yes_eq budget, yes_eq relist, fun k hk => ?enables, ?adjusted, fun hadjusted => ?bytes⟩
    case gate => exact (clampGate_val gate).trans (min_eq_ite_lt ..)
    case high => rw [clampMarks_eq]; simp only [eq_zero_iff_toNat]
    case low => rw [clampMarks_eq]; simp only [eq_zero_iff_toNat]
    case silence => exact min_eq_ite_lt ..
    case on => rw [clampThresholds_eq]; rfl
    case off => rw [clampThresholds_eq]; rfl
    case enables => rw [BitVec.getLsbD_extractLsb', Nat.zero_add, decide_eq_true hk, Bool.true_and]; rfl
    case adjusted =>
      have hhigh := one_le_ite_one (hi := 64) (by decide) high.toNat
      have hon := one_le_ite_one (hi := 32767) (by decide) (half onh onl).toNat
      rw [clampMarks_eq, clampThresholds_eq]
      simp only [Bool.or_eq_true, bne_iff_ne, decide_eq_true_eq, clampLimit_ne_iff, clampGate_val_ne_iff,
        eq_zero_iff_toNat, clampPresence_ne_iff, ite_one_ne_iff, ite_below_ne_iff hhigh, ite_below_ne_iff hon,
        min_ne_right_iff, or_assoc]
      rfl
    case bytes =>
      simp only [Bool.or_eq_false_iff, bne_eq_false_iff_eq, decide_eq_false_iff_not, Nat.not_lt] at hadjusted
      obtain ⟨⟨⟨⟨⟨⟨⟨⟨⟨⟨⟨hmode, hlimit⟩, hgate⟩, hhigh⟩, hlow⟩, hms⟩, hsil⟩, hon⟩, hoff⟩, hstart⟩, hbudget⟩, hrelist⟩ :=
        hadjusted
      simp only [floorRow, hlimit, hgate, hhigh, hlow, hms, hsil, hon, hoff, byte_toNat, mode_byte_of_le hmode,
        two_of_half rfl, yes_eq, flagByte_of_le hstart, flagByte_of_le hbudget, flagByte_of_le hrelist]
      rfl
  case order =>
    refine ⟨rfl, ?_⟩
    simp [orderClamped]

end Sys2Proof.Machine
end

section
/-! PROOF. The profile words: what each part of a recall reads, that it is in range, and that it undoes what a store
writes (R169, R172, 2.8). -/

namespace Sys2Proof.Machine

/-! ### The floor record as a store writes it -/

/-- The ranges of the floor configuration record (R78, R100, R152, R165), as `State.FloorCfgOk` states them of a state. -/
def FloorConfig.InRange (f : FloorConfig) : Prop :=
  (1 ≤ f.limit ∧ f.limit ≤ 16) ∧ (1 ≤ f.high ∧ f.high ≤ 64) ∧ f.low < f.high
    ∧ (200 ≤ f.presenceMs ∧ f.presenceMs ≤ 5000 ∧ f.presenceMs % 100 = 0) ∧ f.silenceS ≤ 120
    ∧ (1 ≤ f.onThreshold ∧ f.onThreshold ≤ 32767 ∧ f.offThreshold < f.onThreshold)

theorem State.floorCfgOk_iff (s : State) : s.FloorCfgOk ↔ s.floorCfg.InRange := Iff.rfl

theorem clampMarks_ok (high low : Nat) :
    (1 ≤ (clampMarks high low).1 ∧ (clampMarks high low).1 ≤ 64) ∧ (clampMarks high low).2 < (clampMarks high low).1 := by
  rw [clampMarks_eq]
  dsimp only
  split_ifs <;> omega

theorem clampThresholds_ok (on off : Nat) :
    1 ≤ (clampThresholds on off).1 ∧ (clampThresholds on off).1 ≤ 32767
      ∧ (clampThresholds on off).2 < (clampThresholds on off).1 := by
  rw [clampThresholds_eq]
  dsimp only
  split_ifs <;> omega

theorem clampPresence_ok (n : Nat) :
    200 ≤ clampPresence n ∧ clampPresence n ≤ 5000 ∧ clampPresence n % 100 = 0 := by
  unfold clampPresence clamp
  omega

theorem FloorConfig.inRange_of_read {l : List Byte} {f : FloorConfig} {adjusted : Bool}
    (h : readFloorRow l = some (f, adjusted)) : f.InRange := by
  unfold readFloorRow at h
  split at h
  · obtain ⟨rfl, -⟩ := Prod.mk.inj (Option.some.inj h)
    obtain ⟨hhigh, hlow⟩ := clampMarks_ok _ _
    exact ⟨by dsimp only [clampLimit, clamp]; omega, hhigh, hlow, clampPresence_ok _, min_le_left .., clampThresholds_ok ..⟩
  · cases h

/-! ### What a recall reads is in range -/

theorem classOfWords_valid (l : List Half) : (classOfWords l).Valid := by
  unfold classOfWords
  cases h : readClassRow (unpair (padTo 5 0 l)) with
  | none => exact ⟨⟨by decide, by decide, by decide, by decide⟩, ⟨by decide, by decide, by decide, by decide⟩,
      ⟨by decide, by decide, by decide, by decide⟩, by decide, by decide⟩
  | some x => exact ClassRecord.valid_of_read (adjusted := x.2) h

theorem floorOfWords_inRange (l : List Half) : (floorOfWords l).InRange := by
  unfold floorOfWords
  cases h : readFloorRow ((unpair (padTo 9 0 l)).take 17) with
  | none => exact ⟨by decide, by decide, by decide, by decide, by decide, by decide⟩
  | some x => exact FloorConfig.inRange_of_read (adjusted := x.2) h

theorem defaultClasses_valid (c : SeatClass) : (defaultClasses.record c).Valid := by
  cases c <;> exact ⟨⟨by decide, by decide, by decide, by decide⟩, ⟨by decide, by decide, by decide, by decide⟩,
    ⟨by decide, by decide, by decide, by decide⟩, by decide, by decide⟩

theorem Profile.recalled_classes_valid (p : Profile) (c : SeatClass) : (p.recalled.classes.record c).Valid := by
  unfold Profile.recalled
  split
  · cases c <;> exact classOfWords_valid _
  · exact defaultClasses_valid c

theorem Profile.recalled_floorCfg_inRange (p : Profile) : p.recalled.floorCfg.InRange := by
  unfold Profile.recalled
  split
  · exact floorOfWords_inRange _
  · exact ⟨by decide, by decide, by decide, by decide, by decide, by decide⟩

/-! ### Bytes and words -/

/-- Words written out hold the bytes that were paired up, and the byte that completes an odd row (R169). -/
theorem take_unpair_pairUp (l : List Byte) : (unpair (pairUp l)).take l.length = l := by
  induction l using pairUp.induct with
  | case1 => rfl
  | case2 x => simp [pairUp, unpair, half]
  | case3 x y l ih =>
    simp only [unpair] at ih
    simp [pairUp, unpair, half, ih]

theorem unpair_pairUp_length (l : List Byte) : (unpair (pairUp l)).length = 2 * ((l.length + 1) / 2) := by
  rw [unpair, List.length_flatMap, ← pairUp_length]
  simp [bytesOf_length, Nat.mul_comm]

theorem unpair_pairUp_of_even {l : List Byte} (h : l.length % 2 = 0) : unpair (pairUp l) = l := by
  have htake := take_unpair_pairUp l
  rwa [List.take_of_length_le (by rw [unpair_pairUp_length]; omega)] at htake

/-- A slice of the profile words. -/
theorem padTo_drop {α : Type} (x : α) {a b c : List α} {k n : Nat} (ha : a.length = n) (hb : b.length = k) :
    padTo k x ((a ++ (b ++ c)).drop n) = b := by
  subst ha hb
  simp [padTo]

/-! ### The configuration word -/

theorem SeatClass.code_le (c : SeatClass) : c.code ≤ 3 := by cases c <;> decide

theorem classOfCode_code (c : SeatClass) : classOfCode (BitVec.ofNat 2 c.code) = c := by cases c <;> rfl

theorem orderOfCode_ofNat (o : Option Level) : orderOfCode (BitVec.ofNat 3 ((o.map Fin.val).getD 4)) = o := by
  revert o
  decide

/-- The value of a configuration word (2.8). -/
theorem configWord_toNat (c : SeatConfig) : (configWord c).toNat = 16384 * c.cls.code + 4096 * c.speak.val
    + 512 * (c.order.map Fin.val).getD 4 + 256 * c.barred.toNat + 128 * c.exempt.toNat + 64 * c.keyClose.toNat := by
  have hcls := c.cls.code_le
  have hspeak := c.speak.isLt
  have horder : (c.order.map Fin.val).getD 4 ≤ 4 := by
    cases c.order with
    | none => exact le_rfl
    | some o => exact o.isLt.le
  have hbarred := c.barred.toNat_le
  have hexempt := c.exempt.toNat_le
  have hkey := c.keyClose.toNat_le
  rw [configWord, BitVec.toNat_ofNat]
  exact Nat.mod_eq_of_lt (by omega)

theorem decide_toNat_eq_one (b : Bool) : decide (b.toNat = 1) = b := by cases b <;> rfl

theorem configOfWord_configWord (c : SeatConfig) : configOfWord (configWord c) = c := by
  have hword := configWord_toNat c
  have hcls := c.cls.code_le
  have hspeak := c.speak.isLt
  have horder : (c.order.map Fin.val).getD 4 ≤ 4 := by
    cases c.order with
    | none => exact le_rfl
    | some o => exact o.isLt.le
  have hbarred := c.barred.toNat_le
  have hexempt := c.exempt.toNat_le
  have hkey := c.keyClose.toNat_le
  have hslice (k w n : Nat) (h : (configWord c).toNat / 2 ^ k % 2 ^ w = n) :
      (configWord c).extractLsb' k w = BitVec.ofNat w n := by
    subst h
    apply BitVec.eq_of_toNat_eq
    simp [BitVec.extractLsb'_toNat, Nat.shiftRight_eq_div_pow]
  have hbit (k : Nat) (b : Bool) (h : (configWord c).toNat / 2 ^ k % 2 = b.toNat) : (configWord c).getLsbD k = b := by
    rw [BitVec.getLsbD, Nat.testBit_eq_decide_div_mod_eq, h, decide_toNat_eq_one]
  rw [hword] at hslice hbit
  rw [configOfWord, hslice 14 2 c.cls.code (by omega), hslice 12 2 c.speak.val (by omega),
    hslice 9 3 ((c.order.map Fin.val).getD 4) (by omega), hbit 8 c.barred (by omega), hbit 7 c.exempt (by omega),
    hbit 6 c.keyClose (by omega), classOfCode_code, orderOfCode_ofNat]
  have hlevel : (BitVec.ofNat 2 c.speak.val).toFin = c.speak := Fin.ext (Nat.mod_eq_of_lt hspeak)
  rw [hlevel]

/-! ### The rows -/

theorem classRow_length (r : ClassRecord) : (classRow r).length = 10 := rfl

theorem branchRow_length (r : BranchRecord) : (branchRow r).length = 5 := rfl

theorem floorRow_length (f : FloorConfig) : (floorRow f).length = 17 := rfl

theorem readBranchRow_branchRow {r : BranchRecord} (hfirst : r.first ≤ 1023) (hlast : r.last ≤ 1023) :
    ∃ adjusted, readBranchRow (branchRow r) = some (r, adjusted) := by
  obtain ⟨enabled, first, last⟩ := r
  dsimp only at hfirst hlast
  refine ⟨_, (readBranchRow_eq ..).trans (congrArg some (Prod.ext ?_ rfl))⟩
  simp only [← yes_eq, yes_flagByte, half_bytes, BitVec.toNat_ofNat, BranchRecord.mk.injEq, true_and]
  omega

theorem modeOfCode_byte (x : Mode) : modeOfCode (byte x.code) = some x := by cases x <;> rfl

theorem clampGate_byte (g : Level) : clampGate (byte g.val) = g := by
  revert g
  decide

theorem readFloorRow_floorRow {f : FloorConfig} (h : f.InRange) :
    ∃ adjusted, readFloorRow (floorRow f) = some (f, adjusted) := by
  obtain ⟨mode, limit, gate, high, low, ms, silence, on, off, start, budget, relist, enables⟩ := f
  obtain ⟨hlimit, hhigh, hlow, hms, hsilence, hon⟩ := h
  dsimp only at hlimit hhigh hlow hms hsilence hon
  have hmarks : clampMarks high low = (high, low) := by
    rw [clampMarks, clamp, if_neg (by omega), Prod.mk.injEq]
    omega
  have hthresholds : clampThresholds on off = (on, off) := by
    rw [clampThresholds, clamp, if_neg (by omega), Prod.mk.injEq]
    omega
  have hpresence : clampPresence ms = ms := by
    unfold clampPresence clamp
    omega
  have hword {n : Nat} (hn : n ≤ 65535) : (BitVec.ofNat 16 n).toNat = n := Nat.mod_eq_of_lt (by omega)
  have henables : (enables.setWidth 16).extractLsb' 0 13 = enables := by
    apply BitVec.eq_of_toNat_eq
    have := enables.isLt
    simp only [BitVec.extractLsb'_toNat, BitVec.toNat_setWidth, Nat.shiftRight_zero]
    omega
  simp only [floorRow, two, bytesOf, List.cons_append, List.nil_append, readFloorRow, half_bytes, modeOfCode_byte,
    Option.getD_some, clampLimit, toNat_byte (show limit < 256 by omega), toNat_byte (show high < 256 by omega),
    toNat_byte (show low < 256 by omega), toNat_byte (show silence < 256 by omega), clampGate_byte, yes_flagByte,
    hword (show ms ≤ 65535 by omega), hword (show on ≤ 65535 by omega), hword (show off ≤ 65535 by omega), hmarks,
    hthresholds, hpresence, henables, clamp, show min 16 (max 1 limit) = limit by omega,
    show min 120 silence = silence by omega]
  exact ⟨_, rfl⟩

/-! ### The slices of the profile words -/

theorem classOfWords_of_slice {r : ClassRecord} (h : r.Valid) {l : List Half} (hl : padTo 5 0 l = pairUp (classRow r)) :
    classOfWords l = r := by
  obtain ⟨_, hread⟩ := readClassRow_classRow h
  rw [classOfWords, hl, unpair_pairUp_of_even (by rw [classRow_length]), hread]
  rfl

theorem branchOfWords_of_slice {r : BranchRecord} (hfirst : r.first ≤ 1023) (hlast : r.last ≤ 1023) {l : List Half}
    (hl : padTo 3 0 l = pairUp (branchRow r)) : branchOfWords l = r := by
  obtain ⟨_, hread⟩ := readBranchRow_branchRow hfirst hlast
  rw [branchOfWords, hl, ← branchRow_length r, take_unpair_pairUp, hread]
  rfl

theorem floorOfWords_of_slice {f : FloorConfig} (h : f.InRange) {l : List Half}
    (hl : padTo 9 0 l = pairUp (floorRow f)) : floorOfWords l = f := by
  obtain ⟨_, hread⟩ := readFloorRow_floorRow h
  rw [floorOfWords, hl, ← floorRow_length f, take_unpair_pairUp, hread]
  rfl

theorem seatsOfWords_of_slice {v : Vector SeatConfig 1024} {l : List Half}
    (hl : padTo 1024 0 l = v.toList.map configWord) : seatsOfWords l = v := by
  apply Vector.toArray_inj.1
  apply Array.toList_inj.1
  show ((padTo 1024 0 l).map configOfWord) = v.toList
  rw [hl, List.map_map]
  exact (List.map_congr_left fun c _ => configOfWord_configWord c).trans (List.map_id _)

theorem profileWords_length (g : Configuration) : (profileWords g).length = 1065 := by
  simp [profileWords, ClassTable.rows, BranchTable.rows, pairUp_length, classRow_length, branchRow_length,
    floorRow_length]

/-- A slice of the profile words, by what stands ahead of it. -/
theorem padTo_profileWords {g : Configuration} {ahead slice behind : List Half} {n k : Nat}
    (hwords : profileWords g = ahead ++ (slice ++ behind)) (hn : ahead.length = n) (hk : slice.length = k) :
    padTo k 0 ((profileWords g).drop n) = slice := by
  rw [hwords, padTo_drop 0 hn hk]

/-- Settles O12: each slice of the words is the row it was written from. -/
theorem profileWordsReadBack : Obligations.ProfileWordsReadBack := by
  intro g hclasses hbranches h1 h2 h3 h4 h5 h6 h7 h8 h9 h10 h11 h12
  have hfloor : g.floorCfg.InRange := ⟨⟨h1, h2⟩, ⟨h3, h4⟩, h5, ⟨h6, h7, h8⟩, h9, ⟨h10, h11, h12⟩⟩
  refine ⟨profileWords_length g, ?_⟩
  let w := g.seats.toList.map configWord
  let cl (c : SeatClass) := pairUp (classRow (g.classes.record c))
  let br (b : BranchId) := pairUp (branchRow (g.branches.record b))
  have hw : w.length = 1024 := by simp [w]
  have hcl (c : SeatClass) : (cl c).length = 5 := by simp [cl, pairUp_length, classRow_length]
  have hbr (b : BranchId) : (br b).length = 3 := by simp [br, pairUp_length, branchRow_length]
  have hwords : profileWords g = w ++ (cl .delegate ++ (cl .official ++ (cl .chair ++ (cl .observer ++ (br .branchA ++
      (br .branchB ++ (br .branchC ++ (br .branchD ++ (pairUp (floorRow g.floorCfg) ++ []))))))))) := by
    simp [profileWords, ClassTable.rows, BranchTable.rows, w, cl, br, ClassTable.record, BranchTable.record]
  have hclass {ahead behind : List Half} {c : SeatClass} {n : Nat} (h : profileWords g = ahead ++ (cl c ++ behind))
      (hn : ahead.length = n) : classOfWords ((profileWords g).drop n) = g.classes.record c :=
    classOfWords_of_slice (hclasses c) (padTo_profileWords h hn (hcl c))
  have hbranch {ahead behind : List Half} {b : BranchId} {n : Nat} (h : profileWords g = ahead ++ (br b ++ behind))
      (hn : ahead.length = n) : branchOfWords ((profileWords g).drop n) = g.branches.record b := by
    obtain ⟨hle, hlast, -⟩ := hbranches.1 b
    exact branchOfWords_of_slice (hle.trans hlast) hlast (padTo_profileWords h hn (hbr b))
  have hseats : seatsOfWords (profileWords g) = g.seats :=
    seatsOfWords_of_slice (padTo_profileWords (ahead := []) hwords rfl hw)
  have hd := hclass hwords hw
  rw [← List.append_assoc] at hwords
  have ho := hclass hwords (n := 1029) (by simp [hw, hcl])
  rw [← List.append_assoc] at hwords
  have hc := hclass hwords (n := 1034) (by simp [hw, hcl])
  rw [← List.append_assoc] at hwords
  have hob := hclass hwords (n := 1039) (by simp [hw, hcl])
  rw [← List.append_assoc] at hwords
  have hA := hbranch hwords (n := 1044) (by simp [hw, hcl])
  rw [← List.append_assoc] at hwords
  have hB := hbranch hwords (n := 1047) (by simp [hw, hcl, hbr])
  rw [← List.append_assoc] at hwords
  have hC := hbranch hwords (n := 1050) (by simp [hw, hcl, hbr])
  rw [← List.append_assoc] at hwords
  have hD := hbranch hwords (n := 1053) (by simp [hw, hcl, hbr])
  rw [← List.append_assoc] at hwords
  have hF : floorOfWords ((profileWords g).drop 1056) = g.floorCfg :=
    floorOfWords_of_slice hfloor (padTo_profileWords hwords (by simp [hw, hcl, hbr]) (by simp [pairUp_length, floorRow_length]))
  simp only [configurationOfWords, Nat.reduceMul, Nat.reduceAdd, hseats, hd, ho, hc, hob, hA, hB, hC, hD, hF]
  rfl

end Sys2Proof.Machine
end

section
/-! PROOF. What a command can do, said once: every command but a reset is a chain of small acts, each of which writes one
part of the state under a condition. A licence says which parts a command may write. -/

namespace Sys2Proof.Machine

/-! ### The parts of the state, one record at a time -/

/-- The timer of a channel record is in range, and runs where the channel is busy: `State.TimersOk` of one channel. -/
def Channel.TimerOk (k : Channel) : Prop :=
  k.timer.value.Valid ∧ k.timer.allowance ≤ 5999 ∧ k.timer.used ≤ maxCount ∧ k.timer.phase ≤ 999
    ∧ (k.busy = true → k.timer.Running)

/-- A detector record is in range: `State.DetectorsOk` of one channel. -/
def Detector.InRange (d : Detector) : Prop := d.level ≤ 32767 ∧ d.peak ≤ 32767 ∧ d.run ≤ maxRun

/-- A branch port is in order under a branch table: `State.PortsOk` of one port. -/
def BranchPort.Ok (t : BranchTable) (b : BranchId) (p : BranchPort) : Prop :=
  p.cmdSet.Nodup ∧ (∀ n ∈ p.cmdSet, t.branchOf n = some b) ∧ p.programme.length ≤ 2 ∧ p.carrier = p.up
    ∧ (p.up = false → p.cmdSet = [] ∧ p.programme = [] ∧ p.tx = none)

/-- The counters of a branch port are in range. -/
def BranchPort.CountsOk (p : BranchPort) : Prop :=
  p.checkErr ≤ maxCount ∧ p.rangeErr ≤ maxCount ∧ p.kindErr ≤ maxCount ∧ p.audioStray ≤ maxCount

/-- The uplink port is in order: `State.UplinkOk` of the record. -/
def UplinkPort.Ok (u : UplinkPort) : Prop :=
  u.notices.length ≤ 32 ∧ u.replies.length ≤ 16 ∧ (u.audio.map AudioFrame.chan).Nodup ∧ u.carrier = u.up
    ∧ (u.up = false → u.audio = [] ∧ u.tx = none ∧ u.replies.any State.isBuilt = false)

/-- How many places of the reply queue are reserved for a profile operation. -/
def UplinkPort.profilePlaces (u : UplinkPort) : Nat := (u.replies.filter State.isProfilePlace).length

/-- The global counters are in range. -/
def Management.CountsOk (m : Management) : Prop := m.mgmtErr ≤ maxCount ∧ m.noticeDrop ≤ maxCount

/-- Two floor configuration records with the same marks. -/
def FloorConfig.SameMarks (f g : FloorConfig) : Prop := f.high = g.high ∧ f.low = g.low

/-- The list names no seat twice, and its restraint flag agrees with the marks: `State.RestraintOk` of the two records. -/
def RequestList.Kept (f : FloorConfig) (l : RequestList) : Prop :=
  (l.entries.map Entry.seat).Nodup ∧ f.low < f.high ∧ (l.restraint = true → f.low < l.entries.length)
    ∧ (f.high ≤ l.entries.length → l.restraint = true)

/-! ### Licences, acts and chains -/

/-- What a command may write beside what every command may. -/
structure Licence where
  /-- the floor state -/
  floor : Prop
  /-- the working configuration -/
  config : Prop
  /-- the budget of a seat, upwards -/
  budget : SeatNo → Prop
  /-- a timer, by an elapsed second -/
  timer : Prop
  /-- the uplink beside its notices, and start-up control -/
  control : Prop
  /-- the end of a profile operation -/
  profile : Prop

/-- One small act: a mark, a notice, or a write of one part of the state. -/
inductive Act (L : Licence) : State → State → Prop where
  | mark (s : State) (n : SeatNo) : Act L s (s.mark n)
  | notice (s : State) (k : NoticeKind) (n : Option SeatNo) (c : Option ChanNo) (r : Option Reason) :
    Act L s (s.notice k n c r)
  | list (s : State) (l : RequestList) (h : s.list.Kept s.floorCfg → l.Kept s.floorCfg) : Act L s (s.withList l)
  | channel (s : State) (c : ChanNo) (k : Channel) (htimer : L.timer ∨ (s.ClassesOk → (s.chan c).TimerOk → k.TimerOk))
    (hdetector : (s.chan c).detector.InRange → k.detector.InRange) : Act L s (s.setChan c k)
  | grantOrder (s : State) (l : List ChanNo) : Act L s (s.withGrantOrder l)
  | holders (s : State) (l : List SeatNo) : Act L s (s.withHolders l)
  | floor (s : State) (f : FloorState) (hL : L.floor) : Act L s (s.withFloor f)
  | run (s : State) (n : SeatNo) (f : SeatRun → SeatRun) (hbudget : ∀ r, (f r).budget ≤ r.budget) :
    Act L s (s.updRun n f)
  | runs (s : State) (f : SeatRecord → SeatRecord)
    (h : ∀ r, f r = ⟨r.cfg, { r.run with mismatch := (f r).run.mismatch }⟩) : Act L s (s.mapSeats f)
  | refusal (s : State) (n : SeatNo) (x : Option Nat) : Act L s (s.setRefusal n x)
  | port (s : State) (b : BranchId) (p : BranchPort) (hok : (s.port b).Ok s.branches b → p.Ok s.branches b)
    (hcounts : (s.port b).CountsOk → p.CountsOk) : Act L s (s.setPort b p)
  | uplink (s : State) (u : UplinkPort) (hok : s.uplink.Ok → u.Ok) (hplaces : u.profilePlaces = s.uplink.profilePlaces)
    (hL : L.control) : Act L s (s.withUplink u)
  | mgmt (s : State) (m : Management) (hcounts : s.mgmt.CountsOk → m.CountsOk) : Act L s (s.withMgmt m)
  | startUp (s : State) (u : StartUp) (hL : L.control) : Act L s (s.withStartUp u)
  | takeOp (s : State) (p : Profile) (tag : Byte) (hnone : s.profile.op = none) (hsome : p.op.isSome = true)
    (hup : s.uplink.up = true) (hroom : s.uplink.replies.length < 16) (hL : L.control) :
    Act L s ((s.withProfile p).pushPlace (.profileOp tag))
  | abandon (s : State) (hL : L.control) : Act L s s.abandonProfile
  | profile (s : State) (p : Profile) (hL : L.profile) : Act L s (s.withProfile p)
  | complete (s : State) (st : Status) (hL : L.profile) : Act L s (s.completeProfile st)
  | seatRow (s : State) (n : SeatNo) (c : SeatConfig) (budget : Nat) (hL : L.config)
    (hchair : c.cls = .chair → (s.seat n).cfg.cls = .chair ∨ s.otherChairs n < 8)
    (hbudget : budget ≤ (s.seat n).run.budget ∨ (L.budget n ∧ budget ≤ maxCount)) :
    Act L s (s.setSeat n ⟨c, { (s.seat n).run with budget := budget }⟩)
  | seatCfgs (s : State) (v : Vector SeatConfig 1024) (hL : L.config ∧ L.profile) : Act L s (s.replaceSeats v)
  | classes (s : State) (t : ClassTable) (hok : s.ClassesOk → ∀ c, (t.record c).Valid)
    (hcounts : (∀ c, (s.classes.record c).initial ≤ maxCount) → ∀ c, (t.record c).initial ≤ maxCount) (hL : L.config) :
    Act L s (s.withClasses t)
  | branches (s : State) (t : BranchTable) (hvalid : L.profile ∨ (s.branches.Valid → t.Valid)) (hL : L.config) : Act L s (s.withBranches t).prune
  | floorCfg (s : State) (f : FloorConfig) (hok : s.floorCfg.InRange → f.InRange) (hmarks : f.SameMarks s.floorCfg)
    (hL : L.config) : Act L s (s.withFloorCfg f)
  | marks (s : State) (f : FloorConfig) (hok : s.floorCfg.InRange → f.InRange) (hL : L.config) :
    Act L s ((s.withFloorCfg f).withList
      { s.list with restraint := restraintAfterMarks f s.list.restraint s.list.entries.length })
  | initial (s : State) (hL : ∀ n, L.budget n) : Act L s (s.mapSeats (State.initialBudget s.classes))

/-- A run of acts. -/
abbrev Chain (L : Licence) : State → State → Prop := Relation.ReflTransGen (Act L)

theorem Act.chain {L : Licence} {s t : State} (h : Act L s t) : Chain L s t := .single h

theorem Chain.foldl {L : Licence} {α : Type} (f : State → α → State) (h : ∀ s x, Chain L s (f s x)) (l : List α)
    (s : State) : Chain L s (l.foldl f s) := by
  induction l generalizing s with
  | nil => exact .refl
  | cons x l ih => exact (h s x).trans (ih _)

/-! ### Timers -/

theorem ClassRecord.limit_le {r : ClassRecord} (h : r.Valid) (k : TurnKind) : r.limit k ≤ 5999 := by
  obtain ⟨hspeak, horder, -⟩ := h
  have := Mmss.seconds_lt_of_valid hspeak
  have := Mmss.seconds_lt_of_valid horder
  cases k <;> simp only [ClassRecord.limit] <;> omega

/-- The timer a grant sets is in range and runs (R125, R128). -/
theorem startTimer_ok {t : ClassTable} (h : ∀ c, (t.record c).Valid) (k : TurnKind) (c : SeatConfig) (budget : Nat) :
    (startTimer t k c budget).value.Valid ∧ (startTimer t k c budget).allowance ≤ 5999
      ∧ (startTimer t k c budget).used = 0 ∧ (startTimer t k c budget).phase = 0
      ∧ (startTimer t k c budget).Running := by
  rcases Nat.eq_zero_or_pos (turnLimit t k c.cls) with hzero | hpos
  · rw [startTimer_of_untimed hzero]
    exact ⟨by simp [resetTimer, zeroTime, Mmss.Valid], by decide, rfl, rfl, rfl, rfl⟩
  · have hle : turnLimit t k c.cls ≤ 5999 := by
      by_cases hobs : timingClass k c.cls = .observer
      · rw [turnLimit_of_observer hobs]
        exact Nat.zero_le _
      · rw [turnLimit_of_timed hobs]
        exact ClassRecord.limit_le (h _) k
    rw [startTimer_of_timed hpos]
    dsimp only
    generalize ha : (if budgetApplies t c && decide (1 ≤ budget) then min (turnLimit t k c.cls) budget
      else turnLimit t k c.cls) = a
    have hbounds : 1 ≤ a ∧ a ≤ 5999 := by
      rw [← ha]
      split
      · next hb =>
        simp only [Bool.and_eq_true, decide_eq_true_eq] at hb
        omega
      · omega
    have hseconds := seconds_display (show a < 6000 by omega)
    exact ⟨display_valid a, hbounds.2, rfl, rfl, by simp only [Timer.Running]; omega⟩

namespace State

variable {L : Licence} (s : State)

theorem grantedChannel_timerOk (h : s.ClassesOk) (n : SeatNo) (k : TurnKind) (l : Level) (asHolder : Bool) :
    (s.grantedChannel n k l asHolder).TimerOk := by
  obtain ⟨hvalue, hallowance, hused, hphase, hrun⟩ :=
    startTimer_ok h (grantKind (s.seat n).cfg.cls k) (s.seat n).cfg (s.seat n).run.budget
  exact ⟨hvalue, hallowance, hused.trans_le (Nat.zero_le _), hphase.trans_le (Nat.zero_le _), fun _ => hrun⟩

/-! ### Tells and lists -/

theorem mark_chain (n : SeatNo) : Chain L s (s.mark n) := (Act.mark s n).chain

theorem notice_chain (k : NoticeKind) (n : Option SeatNo) (c : Option ChanNo) (r : Option Reason) :
    Chain L s (s.notice k n c r) := (Act.notice s k n c r).chain

theorem markAll_chain (l : List SeatNo) : Chain L s (s.markAll l) := Chain.foldl _ (fun s n => s.mark_chain n) l s

theorem markMoved_chain (before : List Entry) : Chain L s (s.markMoved before) := s.markAll_chain _

theorem markOpt_chain (n : Option SeatNo) : Chain L s (s.markOpt n) := by
  cases n with
  | none => exact .refl
  | some n => exact s.mark_chain n

/-- A change of the runtime part that raises no budget. -/
theorem updRun_chain (n : SeatNo) (f : SeatRun → SeatRun) (hbudget : ∀ r, (f r).budget ≤ r.budget) :
    Chain L s (s.updRun n f) := (Act.run s n f hbudget).chain

theorem seatFloor_chain (n : SeatNo) (f : SeatFloor) (c : Option ChanNo) : Chain L s (s.seatFloor n f c) :=
  s.updRun_chain n _ fun _ => le_rfl

/-- A notice does not read the restraint flag. -/
theorem notice_withRestraint (k : NoticeKind) (n : Option SeatNo) (c : Option ChanNo) (q : Option Reason) (r : Bool) :
    (s.notice k n c q).withList { (s.notice k n c q).list with restraint := r } =
      (s.withList { s.list with restraint := r }).notice k n c q := by
  cases hk : s.notifies k with
  | false =>
    rw [notice_of_disabled s n c q hk]
    exact (notice_of_disabled (s.withList { s.list with restraint := r }) n c q hk).symm
  | true =>
    by_cases hroom : s.uplink.up = true ∧ s.uplink.notices.length < 32
    · rw [notice_of_room n c q hk hroom.1 hroom.2]
      exact (notice_of_room (s := s.withList { s.list with restraint := r }) n c q hk hroom.1 hroom.2).symm
    · have hfull : s.uplink.up = false ∨ 32 ≤ s.uplink.notices.length := by
        rw [not_and_or, Bool.not_eq_true, not_lt] at hroom
        exact hroom
      rw [notice_of_no_room n c q hk hfull]
      exact (notice_of_no_room (s := s.withList { s.list with restraint := r }) n c q hk hfull).symm

/-- A change of the restraint flag is a write of the list, followed by a notice at most. -/
theorem chain_setRestraint {t : State} {r : Bool} (h : Chain L s (t.withList { t.list with restraint := r })) :
    Chain L s (t.setRestraint r) := by
  obtain ⟨hr, ht⟩ | ⟨-, ht⟩ := t.setRestraint_cases r
  · rw [ht]
    rw [hr] at h
    exact h
  · rw [ht]
    exact h.trans (notice_chain ..)

theorem insertBy_chain (place : Entry → List Entry → List Entry) (e : Entry)
    (hplace : ∀ x l, (place x l).Perm (x :: l)) : Chain L s (s.insertBy place e) := by
  unfold insertBy
  split
  · exact .refl
  · next hlisted =>
    dsimp only
    refine .trans ?_ (markMoved_chain ..)
    refine chain_setRestraint _ ?_
    refine .trans (Act.chain (.list s { s.list with
      entries := place { e with arrival := s.list.arrival + 1, exhausted := s.isExhausted e.seat } s.list.entries
      restraint := restraintAfterInsertion s.floorCfg s.list.restraint
        (place { e with arrival := s.list.arrival + 1, exhausted := s.isExhausted e.seat } s.list.entries).length
      arrival := s.list.arrival + 1 } ?_)) (seatFloor_chain _ e.seat .waiting none)
    rintro ⟨hnodup, hmarks, hset, hhigh⟩
    have hseats := (hplace { e with arrival := s.list.arrival + 1, exhausted := s.isExhausted e.seat }
      s.list.entries).map Entry.seat
    have hlength := (hplace { e with arrival := s.list.arrival + 1, exhausted := s.isExhausted e.seat }
      s.list.entries).length_eq
    simp only [List.length_cons] at hlength
    refine ⟨hseats.nodup_iff.mpr (List.nodup_cons.mpr ⟨?_, hnodup⟩), hmarks, ?_, ?_⟩
    · rwa [entryOf_isSome_iff] at hlisted
    · rw [hlength]
      simp only [restraintAfterInsertion, Bool.or_eq_true, decide_eq_true_eq]
      rintro (h | h)
      · exact (hset h).trans (Nat.lt_succ_self _)
      · omega
    · intro h
      simp only [restraintAfterInsertion, Bool.or_eq_true, decide_eq_true_eq]
      exact .inr h

theorem insertEntry_chain (e : Entry) : Chain L s (s.insertEntry e) := s.insertBy_chain placeEntry e placeEntry_perm

theorem takeOut_chain (n : SeatNo) (r : Reason) : Chain L s (s.takeOut n r) := by
  unfold takeOut
  dsimp only
  refine .trans ?_ (markMoved_chain ..)
  refine .trans ?_ (mark_chain ..)
  refine chain_setRestraint _ ?_
  rw [notice_withRestraint]
  refine .trans (Act.chain (.list s _ ?_)) (notice_chain ..)
  simp only [notice_floorCfg, notice_list, fill, withList_floorCfg, withList_list]
  rintro ⟨hnodup, hmarks, hset, hhigh⟩
  have hle : (without s.list.entries n).length ≤ s.list.entries.length := List.length_filter_le _ _
  refine ⟨(List.filter_sublist.map _).nodup hnodup, hmarks, ?_, ?_⟩
  · simp only [restraintAfterRemoval, Bool.and_eq_true, Bool.not_eq_true', decide_eq_false_iff_not]
    omega
  · simp only [restraintAfterRemoval, Bool.and_eq_true, Bool.not_eq_true', decide_eq_false_iff_not]
    intro h
    exact ⟨hhigh (h.trans hle), by omega⟩

/-- A change of the entries that keeps their seats. -/
theorem entries_chain (l : List Entry)
    (h : (s.list.entries.map Entry.seat).Nodup → (l.map Entry.seat).Perm (s.list.entries.map Entry.seat)) :
    Chain L s (s.withList { s.list with entries := l }) := by
  refine (Act.list s _ ?_).chain
  rintro ⟨hnodup, hmarks, hset, hhigh⟩
  have hperm := h hnodup
  have hlength : l.length = s.list.entries.length := by simpa using hperm.length_eq
  exact ⟨hperm.nodup_iff.mpr hnodup, hmarks, fun hr => hlength ▸ hset hr, fun hf => hhigh (hlength ▸ hf)⟩

theorem relist_chain (n : SeatNo) (l : Level) : Chain L s (s.relist n l) := by
  rcases s.relist_cases n l with ⟨-, h⟩ | ⟨-, -, h⟩
  · rw [h]
  · rw [h]
    exact (s.insertBy_chain placeRelisted _ placeRelisted_perm).trans (notice_chain _ _ _ _ _)

theorem removeEntry_chain (n : SeatNo) (r : Reason) : Chain L s (s.removeEntry n r) := by
  rcases s.removeEntry_cases n r with ⟨-, h⟩ | ⟨-, h⟩
  · rw [h]
  · rw [h]
    exact (s.seatFloor_chain n _ _).trans (takeOut_chain _ n r)

theorem bulkRemove_chain (r : Reason) : Chain L s (s.bulkRemove r) := Chain.foldl _ (fun s n => s.removeEntry_chain n r) _ s

theorem replaceEntry_seats (l : List Entry) (n : SeatNo) (f : Entry → Entry) (h : ∀ e, (f e).seat = e.seat) :
    (replaceEntry l n f).map Entry.seat = l.map Entry.seat := by
  rw [replaceEntry, List.map_map]
  refine List.map_congr_left fun e _ => ?_
  dsimp only [Function.comp]
  split
  · exact h e
  · rfl

/-- A change of one entry that leaves its seat. -/
theorem replaceEntry_chain (n : SeatNo) (f : Entry → Entry) (h : ∀ e, (f e).seat = e.seat) :
    Chain L s (s.withList { s.list with entries := replaceEntry s.list.entries n f }) :=
  s.entries_chain _ fun _ => by rw [replaceEntry_seats _ _ _ h]

theorem refreshExhausted_chain (n : SeatNo) : Chain L s (s.refreshExhausted n) :=
  s.replaceEntry_chain n _ fun _ => rfl

/-- An entry taken out of a list without duplicates and put back stands for the same seats. -/
theorem perm_of_replaced {l : List Entry} {e : Entry} {n : SeatNo} (hl : (l.map Entry.seat).Nodup)
    (he : l.find? (fun e => e.seat == n) = some e) : (e :: without l n).Perm l := by
  have hmem := List.mem_of_find?_eq_some he
  have hseat : e.seat = n := by simpa using List.find?_some he
  have herase : without l n = l.erase e := by
    rw [hl.of_map.erase_eq_filter, without]
    refine List.filter_congr fun x hx => ?_
    have : x.seat = n ↔ x = e :=
      ⟨fun h => List.inj_on_of_nodup_map hl hx hmem (h.trans hseat.symm), fun h => h ▸ hseat⟩
    exact Bool.eq_iff_iff.mpr (by simpa only [bne_iff_ne, ne_eq] using not_congr this)
  rw [herase]
  exact (List.perm_cons_erase hmem).symm

theorem reposition_chain (n : SeatNo) : Chain L s (s.reposition n) := by
  rcases s.reposition_cases n with ⟨-, h⟩ | ⟨e, he, h⟩
  · rw [h]
  · rw [h]
    refine (s.entries_chain _ fun hnodup => ?_).trans (markMoved_chain _ _)
    exact ((placeEntry_perm e _).trans (perm_of_replaced hnodup he)).map Entry.seat

theorem reclamp_chain (n : SeatNo) : Chain L s (s.reclamp n) := by
  unfold reclamp
  split
  · exact .refl
  · refine .trans ?_ (refreshExhausted_chain _ n)
    split
    · exact s.replaceEntry_chain n _ fun _ => rfl
    · refine .trans ?_ (reposition_chain _ n)
      exact s.replaceEntry_chain n _ fun _ => rfl

theorem refreshAll_chain : Chain L s s.refreshAll :=
  s.entries_chain _ fun _ => by rw [List.map_map]; exact .refl _

/-! ### Grants, closes and hold causes -/

theorem takeGranted_chain (n : SeatNo) : Chain L s (s.takeGranted n) := by
  unfold takeGranted
  split
  · exact s.takeOut_chain n _
  · exact .refl

theorem grant_chain (n : SeatNo) (k : TurnKind) (l : Level) (asHolder : Bool) :
    Chain L s (s.grant n k l asHolder) := by
  unfold grant
  split
  · split
    · exact .refl
    · next c _ =>
      have hmade : Chain L s ((((((s.takeGranted n).setChan c ((s.takeGranted n).grantedChannel n k l asHolder)).withGrantOrder
          ((s.takeGranted n).grantOrder ++ [c])).seatFloor n .speaking (some c)).mark n).notice .granted (some n) (some c)
            none) :=
        (s.takeGranted_chain n).trans <| (Act.channel _ c _ (.inr fun h _ => grantedChannel_timerOk _ h ..)
          fun _ => ⟨Nat.zero_le _, Nat.zero_le _, Nat.zero_le _⟩).chain.trans <| (Act.grantOrder _ _).chain.trans <|
            (seatFloor_chain _ n _ _).trans <| (mark_chain _ n).trans <| notice_chain ..
      dsimp only
      split
      · exact hmade.trans (notice_chain ..)
      · exact hmade
  · exact .refl

theorem deduct_chain (n : SeatNo) (used : Nat) : Chain L s (s.deduct n used) := by
  unfold deduct
  split
  · exact s.updRun_chain n _ fun _ => Nat.sub_le ..
  · exact .refl

/-- A channel record with the same timer and detector, busy only where it was busy. -/
theorem setChan_chain (c : ChanNo) (k : Channel) (htimer : k.timer = (s.chan c).timer)
    (hdetector : k.detector = (s.chan c).detector) (hbusy : k.busy = true → (s.chan c).busy = true) :
    Chain L s (s.setChan c k) := by
  refine (Act.channel s c k (.inr fun _ => ?_) fun h => hdetector ▸ h).chain
  rintro ⟨h1, h2, h3, h4, h5⟩
  rw [← htimer] at h1 h2 h3 h4 h5
  exact ⟨h1, h2, h3, h4, fun hb => h5 (hbusy hb)⟩

theorem closeChannel_chain (c : ChanNo) (n : SeatNo) (r : Reason) : Chain L s (s.closeChannel c n r) := by
  unfold closeChannel
  split
  · refine .trans ?_ (notice_chain ..)
    refine .trans ?_ (mark_chain ..)
    refine .trans ?_ (seatFloor_chain ..)
    refine .trans ?_ (Act.grantOrder ..).chain
    refine (s.deduct_chain n (s.chan c).timer.used).trans ?_
    exact setChan_chain _ c _ rfl rfl fun h => by simp [Channel.busy] at h
  · exact .refl

theorem addCause_chain (c : ChanNo) (x : Cause) : Chain L s (s.addCause c x) := by
  unfold addCause
  dsimp only
  split
  · exact .refl
  · next h =>
    have hbusy : (s.chan c).busy = true := by simp at h; exact h.1
    have hset : Chain L s (s.setChan c { causeSet (s.chan c) x true with state := .held }) :=
      s.setChan_chain c _ (by cases x <;> rfl) (by cases x <;> rfl) fun _ => hbusy
    split
    · exact hset
    · exact hset.trans ((notice_chain _ _ _ _ _).trans (markOpt_chain _ _))

theorem removeCause_chain (c : ChanNo) (x : Cause) : Chain L s (s.removeCause c x) := by
  unfold removeCause
  dsimp only
  split
  · exact .refl
  · next h =>
    have hbusy : (s.chan c).busy = true := by simp at h; exact h.1
    split
    · exact s.setChan_chain c _ (by cases x <;> rfl) (by cases x <;> rfl) fun _ => hbusy
    · exact (s.setChan_chain c _ (by cases x <;> rfl) (by cases x <;> rfl) fun _ => hbusy).trans
        ((notice_chain _ _ _ _ _).trans (markOpt_chain _ _))

/-! ### The fill rule and what runs it -/

theorem fillRule_chain : Chain L s s.fillRule :=
  fillRule_induct (fun _ => .refl) (fun _ _ _ => .trans) (fun s _ _ => s.grant_chain ..) s

theorem closeAndFill_chain (c : ChanNo) (n : SeatNo) (r : Reason) : Chain L s (s.closeAndFill c n r) := by
  unfold closeAndFill
  split
  · exact (s.closeChannel_chain c n r).trans (fillRule_chain _)
  · exact .refl

theorem closeBusy_chain (c : ChanNo) (r : Reason) : Chain L s (s.closeBusy c r) := by
  unfold closeBusy
  split
  · exact s.closeChannel_chain c _ r
  · exact .refl

theorem closeSeat_chain (n : SeatNo) (r : Reason) : Chain L s (s.closeSeat n r) := by
  unfold closeSeat
  split
  · exact s.closeAndFill_chain _ n r
  · exact .refl

theorem displace_chain (c : ChanNo) : Chain L s (s.displace c) := by
  unfold displace
  split
  · next n l _ _ =>
    dsimp only
    split
    · exact (s.closeChannel_chain c n _).trans (relist_chain ..)
    · exact s.closeChannel_chain c n _
  · exact .refl

theorem handOn_chain (n : SeatNo) : Chain L s (s.handOn n) := by
  unfold handOn
  split
  · exact s.fillRule_chain
  · split
    · exact s.fillRule_chain
    · exact (s.displace_chain _).trans ((grant_chain ..).trans (fillRule_chain _))

theorem chairGrant_chain (n : SeatNo) (asHolder : Bool) : Chain L s (s.chairGrant n asHolder) := by
  unfold chairGrant
  split
  · exact s.grant_chain ..
  · split
    · exact .refl
    · exact (s.displace_chain _).trans ((grant_chain ..).trans (fillRule_chain _))

theorem closeDown_chain (k : Nat) : Chain L s (s.closeDown k) := by
  induction k generalizing s with
  | zero => exact .refl
  | succ k ih =>
    unfold closeDown
    split
    · split
      · exact (s.closeBusy_chain _ _).trans (ih _)
      · exact .refl
    · exact .refl

theorem grantNext_chain : Chain L s s.grantNext := by
  unfold grantNext
  split
  · exact (s.grant_chain ..).trans (fillRule_chain _)
  · exact .refl

theorem next_chain : Chain L s s.next.1 := by
  unfold next
  split
  · exact .refl
  split
  · exact .refl
  split
  · exact (s.closeDown_chain 16).trans (grantNext_chain _)
  split
  · exact s.grantNext_chain
  split
  · exact (s.closeBusy_chain _ _).trans (grantNext_chain _)
  · exact .refl

theorem joinHolders_chain (n : SeatNo) : Chain L s (s.joinHolders n) := by
  unfold joinHolders
  split
  · exact .refl
  · dsimp only
    split
    · refine (Act.holders s _).chain.trans (Chain.foldl _ (fun s c => ?_) _ _)
      split
      · exact .refl
      · exact s.addCause_chain c _
    · split
      · exact .trans (Act.holders ..).chain (removeCause_chain ..)
      · exact (Act.holders ..).chain

theorem leaveHolders_chain (n : SeatNo) : Chain L s (s.leaveHolders n) := by
  unfold leaveHolders
  split
  · dsimp only
    split
    · exact (Act.holders s _).chain.trans (Chain.foldl _ (fun s c => s.removeCause_chain c _) _ _)
    · split
      · exact .trans (Act.holders ..).chain (addCause_chain ..)
      · exact (Act.holders ..).chain
  · exact .refl

end State

end Sys2Proof.Machine
end

section
/-! PROOF. The commands of the seats, the tables and the floor as chains of acts. -/

namespace Sys2Proof.Machine

/-- A step that is made only under a condition. -/
theorem Chain.opt {L : Licence} {s u v : State} {p : Prop} [Decidable p] (hu : Chain L s u) (hv : Chain L u v) :
    Chain L s (if p then v else u) := by
  split
  · exact hu.trans hv
  · exact hu

namespace State

variable {L : Licence} (s : State)

/-! ### Budgets, presence and absence -/

theorem markBudget_chain (n : SeatNo) : Chain L s (s.markBudget n) := by
  unfold markBudget
  split
  · exact s.mark_chain n
  · exact .refl

theorem markApplies_chain (n : SeatNo) : Chain L s (s.markApplies n) := by
  unfold markApplies
  split
  · exact s.mark_chain n
  · exact .refl

theorem initialBudgets_chain (h : ∀ n, L.budget n) : Chain L s s.initialBudgets := by
  refine .trans ?_ (Chain.foldl _ (fun s n => s.markBudget_chain n) _ _)
  exact (Act.initial s h).chain.trans (refreshAll_chain _)

theorem goAbsent_chain (n : SeatNo) : Chain L s (s.goAbsent n) := by
  refine .trans ?_ (removeEntry_chain ..)
  refine .trans ?_ (leaveHolders_chain ..)
  refine .trans ?_ (Act.refusal ..).chain
  exact s.updRun_chain n _ fun _ => le_rfl

theorem cascade_chain (group : List SeatNo) : Chain L s (s.cascade group) := by
  refine .trans ?_ (markAll_chain ..)
  refine .trans ?_ (Chain.foldl _ (fun s n => s.notice_chain ..) _ _)
  refine .trans ?_ (Chain.foldl _ (fun s n => s.closeSeat_chain n _) _ _)
  exact Chain.foldl _ (fun s n => s.goAbsent_chain n) _ _

theorem expireOverdue_chain (before : Nat) : Chain L s (s.expireOverdue before) := by
  unfold expireOverdue
  split
  · exact Chain.foldl _ (fun s n => s.cascade_chain [n]) _ _
  · exact .refl

/-! ### Request Admission -/

theorem refuse_chain (n : SeatNo) (r : Reason) : Chain L s (s.refuse n r) := by
  refine .trans ?_ (notice_chain ..)
  refine .trans ?_ (mark_chain ..)
  refine .trans ?_ (Act.refusal ..).chain
  exact s.updRun_chain n _ fun _ => le_rfl

theorem endDisplay_chain (n : SeatNo) : Chain L s (s.endDisplay n) := by
  unfold endDisplay
  split
  · refine .trans ?_ (mark_chain ..)
    refine .trans ?_ (Act.refusal ..).chain
    exact s.updRun_chain n _ fun _ => le_rfl
  · exact .refl

theorem newRequest_chain (n : SeatNo) (k : RequestKind) (claimed : Level) : Chain L s (s.newRequest n k claimed) := by
  unfold newRequest
  dsimp only
  split
  · exact s.refuse_chain n _
  · exact .trans (.trans (s.insertEntry_chain _) (notice_chain ..)) (handOn_chain ..)

theorem upgrade_chain (n : SeatNo) (claimed : Level) : Chain L s (s.upgrade n claimed) := by
  unfold upgrade
  split
  · exact s.refuse_chain n _
  · refine .trans ?_ (handOn_chain ..)
    refine .trans ?_ (notice_chain ..)
    refine .trans ?_ (refreshExhausted_chain ..)
    refine .trans ?_ (reposition_chain ..)
    exact s.replaceEntry_chain n _ fun _ => rfl

theorem key1Act_chain (n : SeatNo) (claimed : Level) : Chain L s (s.key1Act n claimed) := by
  unfold key1Act
  dsimp only
  split
  · split
    · split
      · exact s.refuse_chain n _
      · exact s.chairGrant_chain n _
    · exact s.newRequest_chain n _ _
  · exact s.removeEntry_chain n _
  · split
    · exact s.closeSeat_chain n _
    · exact .refl

theorem key2Act_chain (n : SeatNo) (claimed : Level) : Chain L s (s.key2Act n claimed) := by
  unfold key2Act
  split
  · exact s.key1Act_chain n claimed
  · split
    · exact s.newRequest_chain n _ _
    · split
      · exact s.upgrade_chain n claimed
      · exact s.removeEntry_chain n _
      · exact .refl
    · exact .refl

theorem priorityKey_chain (n : SeatNo) (down wasDown : Bool) : Chain L s (s.priorityKey n down wasDown) := by
  unfold priorityKey
  split
  · split
    · exact .refl
    split
    · split
      · exact .refl
      · exact s.refuse_chain n _
    · refine .trans ?_ (joinHolders_chain ..)
      split
      · exact .refl
      · exact s.chairGrant_chain n _
  · exact s.leaveHolders_chain n

theorem chairNext_chain (n : SeatNo) : Chain L s (s.chairNext n) := by
  unfold chairNext
  split
  · exact s.refuse_chain n _
  · exact s.next_chain

theorem takeActs_chain (n : SeatNo) (r : Report) (d1 d2 d3 : BitVec 4) (was : Bool) :
    Chain L s (s.takeActs n r d1 d2 d3 was) := by
  have hmark (u : State) (b : Bool) : Chain L u (if b then u.mark n else u) := by
    cases b
    · exact .refl
    · exact u.mark_chain n
  have hkey1 (u : State) (b : Bool) : Chain L u (if b then (u.endDisplay n).key1Act n r.claimed else u) := by
    cases b
    · exact .refl
    · exact (u.endDisplay_chain n).trans (key1Act_chain ..)
  have hkey2 (u : State) (b : Bool) : Chain L u (if (s.seat n).cfg.cls = .chair then u.priorityKey n r.down2 was
      else if b then (u.endDisplay n).key2Act n r.claimed else u) := by
    split
    · exact u.priorityKey_chain n _ _
    cases b
    · exact .refl
    · exact (u.endDisplay_chain n).trans (key2Act_chain ..)
  have hkey3 (u : State) (b : Bool) : Chain L u (if b then (u.endDisplay n).chairNext n else u) := by
    cases b
    · exact .refl
    · exact (u.endDisplay_chain n).trans (chairNext_chain ..)
  exact .trans (.trans (.trans (hmark s _) (hkey1 _ _)) (hkey2 _ _)) (hkey3 _ _)

theorem recordReport_chain (n : SeatNo) (r : Report) : Chain L s (s.recordReport n r) :=
  s.updRun_chain n _ fun _ => le_rfl

theorem becomePresent_chain (n : SeatNo) (r : Report) : Chain L s (s.becomePresent n r) := by
  refine .trans ?_ (notice_chain ..)
  refine .trans ?_ (mark_chain ..)
  split
  · exact .trans (s.recordReport_chain n r) (priorityKey_chain ..)
  · exact s.recordReport_chain n r

theorem ordinaryReport_chain (n : SeatNo) (r : Report) : Chain L s (s.ordinaryReport n r) := by
  unfold ordinaryReport
  dsimp only
  split
  · exact .trans (s.recordReport_chain n r) (takeActs_chain ..)
  · exact s.recordReport_chain n r

theorem takeReport_chain (n : SeatNo) (r : Report) : Chain L s (s.takeReport n r) := by
  unfold takeReport
  split
  · exact .refl
  split
  · exact s.becomePresent_chain n r
  split
  · exact (s.cascade_chain [n]).trans (becomePresent_chain ..)
  · exact s.ordinaryReport_chain n r

/-! ### Table writes -/

theorem barSeat_chain (n : SeatNo) : Chain L s (s.barSeat n) := by
  unfold barSeat
  split
  · exact s.removeEntry_chain n _
  · exact s.closeSeat_chain n _
  · exact .refl

theorem classConsequences_chain (n : SeatNo) (before : SeatClass) : Chain L s (s.classConsequences n before) := by
  unfold classConsequences
  dsimp only
  refine Chain.opt ?_ (priorityKey_chain ..)
  refine Chain.opt ?_ (closeSeat_chain ..)
  refine Chain.opt ?_ (leaveHolders_chain ..)
  exact s.updRun_chain n _ fun _ => le_rfl

theorem writeSeat_chain (hL : L.config) (n : SeatNo) (c : SeatConfig) (budget : Nat)
    (hbudget : L.budget n ∧ budget ≤ maxCount)
    (hchair : c.cls = .chair → (s.seat n).cfg.cls = .chair ∨ s.otherChairs n < 8) :
    Chain L s (s.writeSeat n c budget) := by
  unfold writeSeat
  dsimp only
  refine Chain.opt ?_ (fillRule_chain _)
  refine Chain.opt ?_ (markApplies_chain ..)
  refine Chain.opt ?_ (markBudget_chain ..)
  refine Chain.opt ?_ (classConsequences_chain ..)
  refine Chain.opt ?_ (refreshExhausted_chain ..)
  refine Chain.opt ?_ (reclamp_chain ..)
  refine Chain.opt ?_ (barSeat_chain ..)
  exact (Act.seatRow s n c budget hL hchair (.inr hbudget)).chain

end State
end Sys2Proof.Machine
end

section
/-! PROOF. The management operations as chains of acts. -/

namespace Sys2Proof.Machine

/-- A chain under a licence is one under a wider licence. -/
theorem Act.mono {L M : Licence} (hfloor : L.floor → M.floor) (hconfig : L.config → M.config)
    (hbudget : ∀ n, L.budget n → M.budget n) (htimer : L.timer → M.timer) (hcontrol : L.control → M.control)
    (hprofile : L.profile → M.profile) {s t : State} (h : Act L s t) : Act M s t := by
  cases h with
  | mark => exact .mark ..
  | notice => exact .notice ..
  | list l h => exact .list _ l h
  | channel c k ht hd => exact .channel _ c k (ht.imp_left htimer) hd
  | grantOrder => exact .grantOrder ..
  | holders => exact .holders ..
  | floor f h => exact .floor _ f (hfloor h)
  | run n f h => exact .run _ n f h
  | runs f h => exact .runs _ f h
  | refusal => exact .refusal ..
  | port b p h1 h2 => exact .port _ b p h1 h2
  | uplink u h1 h2 h => exact .uplink _ u h1 h2 (hcontrol h)
  | mgmt m h => exact .mgmt _ m h
  | startUp u h => exact .startUp _ u (hcontrol h)
  | takeOp p tag h1 h2 h3 h4 h => exact .takeOp _ p tag h1 h2 h3 h4 (hcontrol h)
  | abandon h => exact .abandon _ (hcontrol h)
  | profile p h => exact .profile _ p (hprofile h)
  | complete st h => exact .complete _ st (hprofile h)
  | seatRow n c b h h1 h2 => exact .seatRow _ n c b (hconfig h) h1 (h2.imp_right (.imp_left (hbudget n)))
  | seatCfgs v h => exact .seatCfgs _ v (h.imp hconfig hprofile)
  | classes t h1 h2 h => exact .classes _ t h1 h2 (hconfig h)
  | branches t h1 h => exact .branches _ t (h1.imp_left hprofile) (hconfig h)
  | floorCfg f h1 h2 h => exact .floorCfg _ f h1 h2 (hconfig h)
  | marks f h1 h => exact .marks _ f h1 (hconfig h)
  | initial h => exact .initial _ fun n => hbudget n (h n)

theorem Chain.mono {L M : Licence} (hfloor : L.floor → M.floor) (hconfig : L.config → M.config)
    (hbudget : ∀ n, L.budget n → M.budget n) (htimer : L.timer → M.timer) (hcontrol : L.control → M.control)
    (hprofile : L.profile → M.profile) {s t : State} (h : Chain L s t) : Chain M s t :=
  Relation.ReflTransGen.mono (fun _ _ h => h.mono hfloor hconfig hbudget htimer hcontrol hprofile) _ _ h

/-- A step that is made unless a condition holds. -/
theorem Chain.unless {L : Licence} {s u v : State} {p : Prop} [Decidable p] (hu : Chain L s u) (hv : Chain L u v) :
    Chain L s (if p then u else v) := by
  split
  · exact hu
  · exact hu.trans hv

namespace State

variable {L : Licence} (s : State)

/-! ### The other table writes -/

theorem setClass_record (c x : SeatClass) (r : ClassRecord) :
    (s.setClass c r).classes.record x = if x = c then r else s.classes.record x := by
  cases c <;> cases x <;> rfl

theorem setBranch_record (b x : BranchId) (r : BranchRecord) :
    (s.setBranch b r).branches.record x = if x = b then r else s.branches.record x := by
  cases b <;> cases x <;> rfl

theorem setClass_chain (hL : L.config) (c : SeatClass) (r : ClassRecord) (hr : r.Valid) :
    Chain L s (s.setClass c r) := by
  refine Act.chain (Act.classes s _ (fun h x => ?_) (fun h x => ?_) hL)
  · change ((s.setClass c r).classes.record x).Valid
    rw [setClass_record]
    split
    · exact hr
    · exact h x
  · change ((s.setClass c r).classes.record x).initial ≤ maxCount
    rw [setClass_record]
    split
    · exact hr.2.2.2.2
    · exact h x

theorem writeClass_chain (hL : L.config) (c : SeatClass) (r : ClassRecord) (hr : r.Valid) :
    Chain L s (s.writeClass c r) := by
  unfold writeClass
  dsimp only
  split
  · exact s.setClass_chain hL c r hr
  · refine .trans ?_ (fillRule_chain _)
    refine .trans ?_ (Chain.foldl _ (fun s n => s.markApplies_chain n) _ _)
    refine .trans ?_ (Chain.foldl _ (fun s n => s.refreshExhausted_chain n) _ _)
    exact s.setClass_chain hL c r hr

/-- A branch row that is not refused keeps the ranges apart (R164). -/
theorem setBranch_valid {b : BranchId} {r : BranchRecord} (h : s.branchRefused b r = false) (hs : s.branches.Valid) :
    (s.setBranch b r).branches.Valid := by
  obtain ⟨hrange, hapart⟩ := hs
  simp only [branchRefused, Bool.or_eq_false_iff, decide_eq_false_iff_not, Bool.and_eq_false_imp] at h
  obtain ⟨⟨⟨⟨hfirst, hlast⟩, hempty⟩, hlong⟩, hmeets⟩ := h
  have hfree (x : BranchId) (hr : r.enabled = true) (hx : x ≠ b) (hen : (s.branches.record x).enabled = true) :
      (s.branches.record x).last < r.first ∨ r.last < (s.branches.record x).first := by
    have := List.any_eq_false.mp (hmeets hr) x (by cases x <;> decide)
    simp only [hen, Bool.and_true, Bool.and_eq_true, bne_iff_ne, ne_eq, decide_eq_true_eq, not_and, not_le] at this
    by_cases hle : r.first ≤ (s.branches.record x).last
    · exact .inr (this ⟨hx, hle⟩)
    · exact .inl (not_le.mp hle)
  refine ⟨fun x => ?_, fun x y hxy => ?_⟩
  · rw [setBranch_record]
    split
    · omega
    · exact hrange x
  · rw [setBranch_record, setBranch_record]
    split <;> split
    · next hx hy => exact absurd (hx.trans hy.symm) hxy
    · next hy => exact fun hr hen => (hfree y hr hy hen).symm
    · next hx _ => exact fun hen hr => hfree x hr hx hen
    · exact hapart x y hxy

theorem writeBranch_chain (hL : L.config) {b : BranchId} {r : BranchRecord} (h : s.branchRefused b r = false) :
    Chain L s (s.writeBranch b r) := by
  refine .trans ?_ (cascade_chain ..)
  exact (Act.branches s _ (.inr (s.setBranch_valid h)) hL).chain

/-! ### The floor record -/

/-- New marks with restraint evaluated under them (R79). -/
theorem marks_chain (hL : L.config) (f : FloorConfig) (hok : s.floorCfg.InRange → f.InRange) :
    Chain L s (s.withFloorCfg f).reviewRestraint :=
  chain_setRestraint _ (Act.marks s f hok hL).chain

theorem takeMode_chain (hL : L.config) (x : Mode) : Chain L s (s.takeMode x) := by
  refine .trans ?_ (fillRule_chain _)
  exact Act.chain (.floorCfg s _ (fun h => h) ⟨rfl, rfl⟩ hL)

theorem takeLimit_chain (hL : L.config) {x : Nat} (hx : 1 ≤ x ∧ x ≤ 16) : Chain L s (s.takeLimit x) := by
  refine .opt ?_ (fillRule_chain _)
  exact Act.chain (.floorCfg s _ (fun h => ⟨hx, h.2⟩) ⟨rfl, rfl⟩ hL)

theorem takeGate_chain (hL : L.config) (x : Level) : Chain L s (s.takeGate x) := by
  refine .trans ?_ (fillRule_chain _)
  exact Act.chain (.floorCfg s _ (fun h => h) ⟨rfl, rfl⟩ hL)

theorem takeShowBudget_chain (hL : L.config) (v : Bool) : Chain L s (s.takeShowBudget v) := by
  unfold takeShowBudget
  split
  · exact .refl
  · refine .trans ?_ (markAll_chain ..)
    exact Act.chain (.floorCfg s _ (fun h => h) ⟨rfl, rfl⟩ hL)

theorem writeFloor_chain (hL : L.config) {f : FloorConfig} (hf : f.InRange) : Chain L s (s.writeFloor f) := by
  obtain ⟨hlimit, hhigh, hlow, hpresence, hsilence, hthresholds⟩ := hf
  unfold writeFloor
  dsimp only
  refine .trans ?_ (Act.chain (.floorCfg _ _ (fun h => h) ⟨rfl, rfl⟩ hL))
  refine .trans ?_ (takeShowBudget_chain _ hL _)
  refine .trans ?_ (expireOverdue_chain ..)
  refine .trans ?_ (Act.chain (.floorCfg _ _ (fun h => ⟨h.1, h.2.1, h.2.2.1, hpresence, h.2.2.2.2⟩) ⟨rfl, rfl⟩ hL))
  refine .trans ?_ (Act.chain (.floorCfg _ _
    (fun h => ⟨h.1, h.2.1, h.2.2.1, h.2.2.2.1, hsilence, hthresholds⟩) ⟨rfl, rfl⟩ hL))
  refine .trans ?_ (marks_chain _ hL _ fun h => ⟨h.1, hhigh, hlow, h.2.2.2⟩)
  refine Chain.unless ?_ (takeGate_chain _ hL _)
  refine Chain.unless ?_ (takeLimit_chain _ hL hlimit)
  exact Chain.unless .refl (s.takeMode_chain hL _)

/-! ### The floor commands -/

theorem closeNonChairs_chain : Chain L s s.closeNonChairs := by
  refine Chain.foldl _ (fun u c => ?_) _ _
  split
  · split
    · exact .refl
    · exact u.closeAndFill_chain c _ _
  · exact .refl

theorem grantSeat_chain (n : SeatNo) (force : Bool) : Chain L s (s.grantSeat n force).1 := by
  unfold grantSeat
  dsimp only
  split
  · exact .refl
  split
  · exact .refl
  split
  · exact s.grant_chain ..
  split
  · exact .refl
  split
  · exact .refl
  · exact .trans (.trans (s.displace_chain _) (grant_chain ..)) (fillRule_chain _)

theorem clearPeak_chain (c : ChanNo) : Chain L s (s.clearPeak c) :=
  Act.chain (.channel s c _ (.inr fun _ h => h) fun h => ⟨h.1, Nat.zero_le _, h.2.2⟩)

theorem clearCounters_chain : Chain L s s.clearCounters := by
  refine .trans ?_ (Act.chain (.mgmt _ _ fun _ => ⟨Nat.zero_le _, Nat.zero_le _⟩))
  refine Chain.foldl _ (fun u b => ?_) _ _
  exact Act.chain (.port u b _ (fun h => h) fun _ =>
    ⟨Nat.zero_le _, Nat.zero_le _, Nat.zero_le _, Nat.zero_le _⟩)

/-! ### The seat flags -/

theorem withFlag_cls (c : SeatConfig) (f : SeatFlag) (v : Bool) : (c.withFlag f v).cls = c.cls := by
  cases f <;> rfl

theorem flagConsequences_chain (n : SeatNo) (f : SeatFlag) (v applied : Bool) :
    Chain L s (s.flagConsequences n f v applied) := by
  unfold flagConsequences
  split
  · exact .opt .refl (s.barSeat_chain n)
  · exact .opt (s.refreshExhausted_chain n) (markApplies_chain _ n)
  · exact .refl

theorem flagSeat_chain (hL : L.config) (f : SeatFlag) (a : FlagAction) (n : SeatNo) : Chain L s (s.flagSeat f a n) := by
  unfold flagSeat
  dsimp only
  split
  · exact .refl
  · refine .trans ?_ (flagConsequences_chain ..)
    exact (Act.seatRow s n _ (s.seat n).run.budget hL (fun h => .inl (withFlag_cls .. ▸ h)) (.inl le_rfl)).chain

theorem flagSpan_chain (hL : L.config) (f : SeatFlag) (a : FlagAction) (span : List SeatNo) :
    Chain L s (s.flagSpan f a span).1 := by
  have hpasses (acc : State × List Byte × Bool) : Chain L acc.1 (span.foldl (flagPass f a) acc).1 := by
    induction span generalizing acc with
    | nil => exact .refl
    | cons n l ih => exact (acc.1.flagSeat_chain hL f a n).trans (ih (flagPass f a acc n))
  exact .opt (hpasses (s, [], false)) (fillRule_chain _)

/-- A seat flag operation with TEST changes nothing. -/
theorem flagSpan_test (f : SeatFlag) (span : List SeatNo) : (s.flagSpan f .test span).1 = s := by
  have hpasses (acc : State × List Byte × Bool) (h : acc.2.2 = false) :
      (span.foldl (flagPass f .test) acc).1 = acc.1 ∧ (span.foldl (flagPass f .test) acc).2.2 = false := by
    induction span generalizing acc with
    | nil => exact ⟨rfl, h⟩
    | cons n l ih =>
      have hsame : (acc.1).flagSeat f .test n = acc.1 := if_pos rfl
      obtain ⟨h1, h2⟩ := ih (flagPass f .test acc n) (by simp [flagPass, h, FlagAction.apply])
      exact ⟨h1.trans hsame, h2⟩
  obtain ⟨h1, h2⟩ := hpasses (s, [], false) rfl
  unfold flagSpan
  dsimp only
  rw [h2]
  exact h1

/-! ### The configuration as a whole -/

/-- The seats, classes and branches of a configuration in their places, with the command sets pruned: the first of a
recall's consequences (R172). -/
def loaded (g : Configuration) (s : State) : State :=
  (((s.replaceSeats g.seats).withClasses g.classes).withBranches g.branches).prune

/-- What a recall's replacement does after the tables are in their places. -/
theorem replaceConfiguration_chain_loaded (hL : L.config) {g : Configuration} (hfloor : g.floorCfg.InRange) :
    Chain L (s.loaded g) (s.replaceConfiguration g) := by
  unfold replaceConfiguration
  dsimp only
  refine .trans ?_ (markAll_chain ..)
  refine .trans ?_ (expireOverdue_chain ..)
  refine .trans ?_ (marks_chain _ hL _ fun _ => hfloor)
  refine .trans ?_ (Act.runs _ _ fun _ => rfl).chain
  refine .trans ?_ (Act.holders ..).chain
  exact cascade_chain ..

theorem replaceConfiguration_chain (hL : L.config) (hprofile : L.profile) {g : Configuration}
    (hclasses : ∀ c, (g.classes.record c).Valid) (hfloor : g.floorCfg.InRange) :
    Chain L s (s.replaceConfiguration g) := by
  refine .trans ?_ (s.replaceConfiguration_chain_loaded hL hfloor)
  refine .trans ?_ (Act.branches _ _ (.inl hprofile) hL).chain
  refine .trans ?_ (Act.classes _ _ (fun _ => hclasses) (fun _ c => (hclasses c).2.2.2.2) hL).chain
  exact (Act.seatCfgs s _ ⟨hL, hprofile⟩).chain

end State

/-! ### The bodies of the operations -/

/-- A body's act is a chain. -/
def Body.Chains (L : Licence) (b : Body) : Prop := ∀ s, Chain L s (b s).1

section bodies

variable {L : Licence}

/-- An operation that only answers. -/
theorem chains_only (st : Status) : Body.Chains L fun s => (s, only st) := fun _ => .refl

theorem held_chains (h : HoldClass) {b : Body} (hb : b.Chains L) : Body.Chains L (held h b) := by
  intro s
  unfold held
  split
  · exact .refl
  · exact hb s

theorem identify_chains : Body.Chains L identify := by
  intro s
  unfold identify
  exact .refl

theorem readTable_chains (table : Byte) (first : Half) (count : Byte) : Body.Chains L (readTable table first count) := by
  intro s
  unfold readTable
  split
  · exact .refl
  · split <;> exact .refl

theorem readList_chains (p : Byte) : Body.Chains L (readList p) := by
  intro s
  unfold readList
  dsimp only
  split <;> exact .refl

theorem readFloor_chains (g : Byte) : Body.Chains L (readFloor g) := by
  intro s
  unfold readFloor
  split
  · exact .refl
  · exact Chain.foldl _ (fun s c => s.clearPeak_chain c) _ _

theorem readCounters_chains (c : Byte) : Body.Chains L (readCounters c) := by
  intro s
  unfold readCounters
  split
  · exact .refl
  · exact .opt .refl s.clearCounters_chain

theorem writeSeatRow_chains (hL : L.config) (index : Half) (row : List Byte)
    (hbudget : ∀ n : SeatNo, index.toNat = n.val → L.budget n) : Body.Chains L (writeSeatRow index row) := by
  unfold writeSeatRow
  split
  · refine held_chains .write fun s => ?_
    dsimp only
    split
    · next h =>
      split
      · exact .refl
      · next hchair =>
        refine s.writeSeat_chain hL _ _ _ ⟨hbudget _ rfl, by unfold maxCount; omega⟩ fun hc => ?_
        by_contra hno
        rw [not_or, not_lt] at hno
        exact hchair (by simp [hc, hno.1, hno.2])
    · exact .refl
  · exact chains_only _

theorem writeClassRow_chains (hL : L.config) (index : Half) (row : List Byte) :
    Body.Chains L (writeClassRow index row) := by
  unfold writeClassRow
  split
  · next hread =>
    refine held_chains .write fun s => ?_
    split
    · exact s.writeClass_chain hL _ _ (ClassRecord.valid_of_read hread)
    · exact .refl
  · exact chains_only _

theorem writeBranchRow_chains (hL : L.config) (index : Half) (row : List Byte) :
    Body.Chains L (writeBranchRow index row) := by
  unfold writeBranchRow
  split
  · refine held_chains .write fun s => ?_
    split
    · split
      · exact .refl
      · next h =>
        dsimp only
        exact s.writeBranch_chain hL (Bool.eq_false_iff.mpr h)
    · exact .refl
  · exact chains_only _

theorem writeFloorRow_chains (hL : L.config) (index : Half) (row : List Byte) :
    Body.Chains L (writeFloorRow index row) := by
  unfold writeFloorRow
  split
  · next hread =>
    refine held_chains .write fun s => ?_
    split
    · exact s.writeFloor_chain hL (FloorConfig.inRange_of_read hread)
    · exact .refl
  · exact chains_only _

theorem writeTableFields_chains (hL : L.config) (hbudget : ∀ n, L.budget n) (l : List Byte) :
    Body.Chains L (writeTableFields l) := by
  unfold writeTableFields
  split
  · split
    · exact chains_only _
    split
    · split
      · exact writeSeatRow_chains hL _ _ fun n _ => hbudget n
      split
      · exact writeClassRow_chains hL _ _
      split
      · exact writeBranchRow_chains hL _ _
      · exact writeFloorRow_chains hL _ _
    · exact chains_only _
  · exact chains_only _

theorem seatFlags_chains (first : Half) (count flag : Byte) (a : FlagAction) (hL : L.config ∨ a = .test) :
    Body.Chains L (seatFlags first count flag a) := by
  intro s
  unfold seatFlags
  dsimp only
  split
  · exact .refl
  split
  · exact .refl
  · obtain hL | rfl := hL
    · exact s.flagSpan_chain hL _ a _
    · rw [s.flagSpan_test]

theorem seatFlagsByCode_chains (hL : L.config) (first : Half) (count flag action : Byte) :
    Body.Chains L (seatFlagsByCode first count flag action) := by
  unfold seatFlagsByCode
  split
  · exact chains_only _
  · exact seatFlags_chains _ _ _ _ (.inl hL)
  · exact held_chains .write (seatFlags_chains _ _ _ _ (.inl hL))

theorem openFloor_chains (hL : L.floor) (reload : Byte) (hbudget : reload = 1 → ∀ n, L.budget n) :
    Body.Chains L (openFloor reload) := by
  intro s
  unfold openFloor
  split
  · exact .refl
  split
  · exact .refl
  · refine .trans ?_ (State.fillRule_chain _)
    refine .trans ?_ (Act.floor _ _ hL).chain
    split
    · next h => exact (s.initialBudgets_chain (hbudget h)).trans (State.fillRule_chain _)
    · exact .refl

theorem closeFloor_chains (hL : L.floor) : Body.Chains L closeFloor := fun s =>
  .trans (.trans (Act.floor s _ hL).chain (State.closeNonChairs_chain _)) (State.bulkRemove_chain ..)

theorem suspendFloor_chains (hL : L.floor) : Body.Chains L suspendFloor := by
  intro s
  unfold suspendFloor
  split
  · exact .refl
  · refine .trans (Act.floor s _ hL).chain (Chain.foldl _ (fun s c => ?_) _ _)
    split
    · exact .refl
    · exact s.addCause_chain c _

theorem resumeFloor_chains (hL : L.floor) : Body.Chains L resumeFloor := by
  intro s
  unfold resumeFloor
  split
  · exact .refl
  · refine .trans ?_ (State.fillRule_chain _)
    exact .trans (Act.floor s _ hL).chain (Chain.foldl _ (fun s c => s.removeCause_chain c _) _ _)

theorem setMode_chains (hL : L.config) (mode : Byte) : Body.Chains L (setMode mode) := by
  intro s
  unfold setMode
  split
  · exact .refl
  · exact s.takeMode_chain hL _

theorem setLimit_chains (hL : L.config) (limit : Byte) : Body.Chains L (setLimit limit) := fun s =>
  s.takeLimit_chain hL (by simp only [clampLimit, clamp]; omega)

theorem setGate_chains (hL : L.config) (gate : Byte) : Body.Chains L (setGate gate) := fun s => s.takeGate_chain hL _

theorem grantBody_chains (seat : Half) (force : Byte) : Body.Chains L (grantBody seat force) := by
  intro s
  unfold grantBody
  split
  · split
    · exact .refl
    · exact s.grantSeat_chain _ _
  · exact .refl

theorem endBody_chains (selector : Byte) (number : Half) : Body.Chains L (endBody selector number) := by
  intro s
  unfold endBody
  split
  · split
    · split
      · exact s.closeSeat_chain _ _
      · exact .refl
    · exact .refl
  split
  · split
    · split
      · exact s.closeAndFill_chain _ _ _
      · exact .refl
    · exact .refl
  · exact .refl

theorem withdrawBody_chains (seat : Half) : Body.Chains L (withdrawBody seat) := by
  intro s
  unfold withdrawBody
  split
  · split
    · exact s.removeEntry_chain _ _
    · exact .refl
  · exact .refl

theorem clearList_chains : Body.Chains L clearList := by
  intro s
  unfold clearList
  split
  · exact .refl
  · exact s.bulkRemove_chain _

theorem reloadBudgets_chains (hbudget : ∀ n, L.budget n) : Body.Chains L reloadBudgets := by
  intro s
  unfold reloadBudgets
  dsimp only
  exact (s.initialBudgets_chain hbudget).trans (State.fillRule_chain _)

theorem nextBody_chains : Body.Chains L nextBody := fun s => s.next_chain

end bodies

end Sys2Proof.Machine
end

section
/-! PROOF. What the management operations answer: one that is neither DONE nor ADJUSTED has no data and leaves the state
as it was (R155). -/

namespace Sys2Proof.Machine

/-- An operation was answered at once, and where the answer is neither DONE nor ADJUSTED it holds no data and nothing was
changed. -/
def Answered (s : State) (p : State × Answer) : Prop :=
  ∃ st data, p.2 = .reply st data ∧ (st ≠ .done → st ≠ .adjusted → data = [] ∧ p.1 = s)

def Body.Answers (b : Body) : Prop := ∀ s, Answered s (b s)

theorem Answered.unchanged (s : State) (st : Status) : Answered s (s, only st) :=
  ⟨st, [], rfl, fun _ _ => ⟨rfl, rfl⟩⟩

theorem Answered.done (s t : State) (data : List Byte) : Answered s (t, .reply .done data) :=
  ⟨.done, data, rfl, fun h => absurd rfl h⟩

theorem Answered.doneOr (s t : State) (adjusted : Bool) (data : List Byte) :
    Answered s (t, .reply (doneOr adjusted) data) := by
  cases adjusted
  · exact .done s t data
  · exact ⟨.adjusted, data, rfl, fun _ h => absurd rfl h⟩

/-- The answers of NEXT: REFUSED_STATE, NOTHING and REFUSED_LIMIT leave the state (R110). -/
theorem State.next_answered (s : State) : Answered s (nextBody s) := by
  unfold nextBody State.next
  split
  · exact .unchanged ..
  split
  · exact .unchanged ..
  split
  · exact .done ..
  split
  · exact .done ..
  split
  · exact .done ..
  · exact .unchanged ..

theorem State.grantSeat_answered (s : State) (n : SeatNo) (force : Bool) : Answered s (s.grantSeat n force) := by
  unfold State.grantSeat
  dsimp only
  split
  · exact .unchanged ..
  split
  · exact .unchanged ..
  split
  · exact .done ..
  split
  · exact .unchanged ..
  split
  · exact .unchanged ..
  · exact .done ..

theorem answers_only (st : Status) : Body.Answers fun s => (s, only st) := fun s => .unchanged s st

theorem held_answers (h : HoldClass) {b : Body} (hb : b.Answers) : Body.Answers (held h b) := by
  intro s
  unfold held
  split
  · exact .unchanged ..
  · exact hb s

theorem identify_answers : Body.Answers identify := by
  intro s
  unfold identify
  exact .done ..

theorem readTable_answers (table : Byte) (first : Half) (count : Byte) : Body.Answers (readTable table first count) := by
  intro s
  unfold readTable
  split
  · exact .unchanged ..
  split
  · exact .unchanged ..
  · exact .doneOr ..

theorem readList_answers (p : Byte) : Body.Answers (readList p) := by
  intro s
  unfold readList
  dsimp only
  split
  · exact .unchanged ..
  · exact .done ..

theorem readFloor_answers (g : Byte) : Body.Answers (readFloor g) := by
  intro s
  unfold readFloor
  split
  · exact .unchanged ..
  · exact .done ..

theorem readCounters_answers (c : Byte) : Body.Answers (readCounters c) := by
  intro s
  unfold readCounters
  split
  · exact .unchanged ..
  · exact .done ..

theorem writeSeatRow_answers (index : Half) (row : List Byte) : Body.Answers (writeSeatRow index row) := by
  unfold writeSeatRow
  split
  · refine held_answers .write fun s => ?_
    dsimp only
    split
    · split
      · exact .unchanged ..
      · exact .doneOr ..
    · exact .unchanged ..
  · exact answers_only _

theorem writeClassRow_answers (index : Half) (row : List Byte) : Body.Answers (writeClassRow index row) := by
  unfold writeClassRow
  split
  · refine held_answers .write fun s => ?_
    split
    · exact .doneOr ..
    · exact .unchanged ..
  · exact answers_only _

theorem writeBranchRow_answers (index : Half) (row : List Byte) : Body.Answers (writeBranchRow index row) := by
  unfold writeBranchRow
  split
  · refine held_answers .write fun s => ?_
    split
    · split
      · exact .unchanged ..
      · exact .doneOr ..
    · exact .unchanged ..
  · exact answers_only _

theorem writeFloorRow_answers (index : Half) (row : List Byte) : Body.Answers (writeFloorRow index row) := by
  unfold writeFloorRow
  split
  · refine held_answers .write fun s => ?_
    split
    · exact .doneOr ..
    · exact .unchanged ..
  · exact answers_only _

theorem writeTableFields_answers (l : List Byte) : Body.Answers (writeTableFields l) := by
  unfold writeTableFields
  split
  · split
    · exact answers_only _
    split
    · split
      · exact writeSeatRow_answers _ _
      split
      · exact writeClassRow_answers _ _
      split
      · exact writeBranchRow_answers _ _
      · exact writeFloorRow_answers _ _
    · exact answers_only _
  · exact answers_only _

theorem seatFlags_answers (first : Half) (count flag : Byte) (a : FlagAction) :
    Body.Answers (seatFlags first count flag a) := by
  intro s
  unfold seatFlags
  dsimp only
  split
  · exact .unchanged ..
  split
  · exact .unchanged ..
  · exact .done ..

theorem seatFlagsByCode_answers (first : Half) (count flag action : Byte) :
    Body.Answers (seatFlagsByCode first count flag action) := by
  unfold seatFlagsByCode
  split
  · exact answers_only _
  · exact seatFlags_answers _ _ _ _
  · exact held_answers .write (seatFlags_answers _ _ _ _)

theorem openFloor_answers (reload : Byte) : Body.Answers (openFloor reload) := by
  intro s
  unfold openFloor
  split
  · exact .unchanged ..
  split
  · exact .unchanged ..
  · exact .done ..

theorem closeFloor_answers : Body.Answers closeFloor := fun _ => .done ..

theorem suspendFloor_answers : Body.Answers suspendFloor := by
  intro s
  unfold suspendFloor
  split
  · exact .unchanged ..
  · exact .done ..

theorem resumeFloor_answers : Body.Answers resumeFloor := by
  intro s
  unfold resumeFloor
  split
  · exact .unchanged ..
  · exact .done ..

theorem setMode_answers (mode : Byte) : Body.Answers (setMode mode) := by
  intro s
  unfold setMode
  split
  · exact .unchanged ..
  · exact .done ..

theorem setLimit_answers (limit : Byte) : Body.Answers (setLimit limit) := fun _ => .doneOr ..

theorem setGate_answers (gate : Byte) : Body.Answers (setGate gate) := fun _ => .doneOr ..

theorem grantBody_answers (seat : Half) (force : Byte) : Body.Answers (grantBody seat force) := by
  intro s
  unfold grantBody
  split
  · split
    · exact .unchanged ..
    · exact s.grantSeat_answered _ _
  · exact .unchanged ..

theorem endBody_answers (selector : Byte) (number : Half) : Body.Answers (endBody selector number) := by
  intro s
  unfold endBody
  split
  · split
    · split
      · exact .done ..
      · exact .unchanged ..
    · exact .unchanged ..
  split
  · split
    · split
      · exact .done ..
      · exact .unchanged ..
    · exact .unchanged ..
  · exact .unchanged ..

theorem withdrawBody_answers (seat : Half) : Body.Answers (withdrawBody seat) := by
  intro s
  unfold withdrawBody
  split
  · split
    · exact .done ..
    · exact .unchanged ..
  · exact .unchanged ..

theorem clearList_answers : Body.Answers clearList := by
  intro s
  unfold clearList
  split
  · exact .unchanged ..
  · exact .done ..

theorem reloadBudgets_answers : Body.Answers reloadBudgets := fun _ => .done ..

/-! ### The operation of a code -/

/-- An act of a licence, answered at once. -/
def Body.Sound (L : Licence) (b : Body) : Prop := b.Chains L ∧ b.Answers

/-- The three operations that are not answered at once: STORE PROFILE, RECALL PROFILE and RESET. -/
def Body.Lasting (b : Body) : Prop :=
  b = held .profile storeProfile ∨ b = held .profile recallProfile ∨ b = held .reset resetBody

theorem Body.Sound.held {L : Licence} {b : Body} (hb : b.Sound L) (h : HoldClass) : Body.Sound L (held h b) :=
  ⟨held_chains h hb.1, held_answers h hb.2⟩

/-- What an operation taken by its bytes may write: by its code, as `Instr.movesFloor`, `Instr.configures` and
`Instr.raisesBudget` say. -/
theorem operation_sound {L : Licence} (code : Byte) (fields : List Byte)
    (hfloor : code ∈ [0x10, 0x11, 0x12, 0x13] → L.floor) (hconfig : code ∈ [0x03, 0x04, 0x14, 0x15, 0x16] → L.config)
    (hbudget : code ∈ [0x03, 0x10, 0x1B] → ∀ n, L.budget n) :
    (operation code fields).Sound L ∨ (operation code fields).Lasting := by
  cases h : Op.ofCode code with
  | none =>
    rw [operation_of_unlisted h]
    exact .inl ⟨chains_only _, answers_only _⟩
  | some o =>
    have hcode := (Op.code_of_ofCode h).symm
    cases hfit : fieldsFit o fields with
    | false =>
      rw [operation_of_unfit h hfit]
      exact .inl ⟨chains_only _, answers_only _⟩
    | true =>
      subst hcode
      unfold operation
      rw [Op.ofCode_code]
      cases o with
      | identify =>
        match fields, hfit with
        | [], _ => exact .inl ⟨identify_chains, identify_answers⟩
      | readTable =>
        match fields, hfit with
        | [_, _, _, _], _ => exact .inl ⟨readTable_chains _ _ _, readTable_answers _ _ _⟩
      | writeTable =>
        exact .inl ⟨writeTableFields_chains (hconfig (by decide)) (hbudget (by decide)) _, writeTableFields_answers _⟩
      | seatFlags =>
        match fields, hfit with
        | [_, _, _, _, _], _ =>
          exact .inl ⟨seatFlagsByCode_chains (hconfig (by decide)) _ _ _ _, seatFlagsByCode_answers _ _ _ _⟩
      | readList =>
        match fields, hfit with
        | [_], _ => exact .inl ⟨readList_chains _, readList_answers _⟩
      | readFloor =>
        match fields, hfit with
        | [_], _ => exact .inl ⟨readFloor_chains _, readFloor_answers _⟩
      | readCounters =>
        match fields, hfit with
        | [_], _ => exact .inl ⟨readCounters_chains _, readCounters_answers _⟩
      | storeProfile =>
        match fields, hfit with
        | [], _ => exact .inr (.inl rfl)
      | recallProfile =>
        match fields, hfit with
        | [], _ => exact .inr (.inr (.inl rfl))
      | reset =>
        match fields, hfit with
        | [], _ => exact .inr (.inr (.inr rfl))
      | openFloor =>
        match fields, hfit with
        | [_], _ =>
          exact .inl (.held ⟨openFloor_chains (hfloor (by decide)) _ fun _ => hbudget (by decide), openFloor_answers _⟩ _)
      | closeFloor =>
        match fields, hfit with
        | [], _ => exact .inl (.held ⟨closeFloor_chains (hfloor (by decide)), closeFloor_answers⟩ _)
      | suspend =>
        match fields, hfit with
        | [], _ => exact .inl (.held ⟨suspendFloor_chains (hfloor (by decide)), suspendFloor_answers⟩ _)
      | resume =>
        match fields, hfit with
        | [], _ => exact .inl (.held ⟨resumeFloor_chains (hfloor (by decide)), resumeFloor_answers⟩ _)
      | setMode =>
        match fields, hfit with
        | [_], _ => exact .inl (.held ⟨setMode_chains (hconfig (by decide)) _, setMode_answers _⟩ _)
      | setLimit =>
        match fields, hfit with
        | [_], _ => exact .inl (.held ⟨setLimit_chains (hconfig (by decide)) _, setLimit_answers _⟩ _)
      | setGate =>
        match fields, hfit with
        | [_], _ => exact .inl (.held ⟨setGate_chains (hconfig (by decide)) _, setGate_answers _⟩ _)
      | grant =>
        match fields, hfit with
        | [_, _, _], _ => exact .inl (.held ⟨grantBody_chains _ _, grantBody_answers _ _⟩ _)
      | endTurn =>
        match fields, hfit with
        | [_, _, _], _ => exact .inl (.held ⟨endBody_chains _ _, endBody_answers _ _⟩ _)
      | withdraw =>
        match fields, hfit with
        | [_, _], _ => exact .inl (.held ⟨withdrawBody_chains _, withdrawBody_answers _⟩ _)
      | clearList =>
        match fields, hfit with
        | [], _ => exact .inl (.held ⟨clearList_chains, clearList_answers⟩ _)
      | reloadBudgets =>
        match fields, hfit with
        | [], _ => exact .inl (.held ⟨reloadBudgets_chains (hbudget (by decide)), reloadBudgets_answers⟩ _)
      | next =>
        match fields, hfit with
        | [], _ => exact .inl (.held ⟨nextBody_chains, State.next_answered⟩ _)

end Sys2Proof.Machine
end

section
/-! PROOF. Every command but a reset is a chain of acts under the licence of its row. -/

namespace Sys2Proof.Machine

/-! ### What an act leaves of the uplink, start-up and the profile -/

/-- The uplink but for its notices, start-up control and the profile store. -/
def State.ControlStands (s t : State) : Prop :=
  t.uplink = { s.uplink with notices := t.uplink.notices } ∧ t.startUp = s.startUp ∧ t.profile = s.profile

theorem State.ControlStands.refl (s : State) : State.ControlStands s s := ⟨rfl, rfl, rfl⟩

theorem State.ControlStands.trans {s t u : State} (h : State.ControlStands s t) (g : State.ControlStands t u) :
    State.ControlStands s u :=
  ⟨g.1.trans (by rw [h.1]), g.2.1.trans h.2.1, g.2.2.trans h.2.2⟩

theorem State.TellFrame.controlStands {s t : State} (h : State.TellFrame s t)
    (hreplies : t.uplink.replies = s.uplink.replies) : State.ControlStands s t :=
  ⟨h.uplink.trans (by rw [hreplies]), h.startUp, h.profile⟩

namespace State

theorem prune_eq_withPorts (s : State) : s.prune = s.withPorts s.prune.ports := rfl

theorem prune_port (s : State) (b : BranchId) :
    s.prune.port b = { s.port b with
      cmdSet := (s.port b).cmdSet.filter fun n => s.branches.branchOf n == some b } := by
  cases b <;> rfl

@[simp] theorem abandonProfile_uplink (s : State) : s.abandonProfile.uplink =
    { s.uplink with replies := s.uplink.replies.filter fun p => !isProfilePlace p } := by
  unfold abandonProfile
  dsimp only
  split <;> rfl

@[simp] theorem abandonProfile_op (s : State) : s.abandonProfile.profile.op = none := by
  unfold abandonProfile
  dsimp only
  split
  · next h => exact h
  · rfl
  · rfl

/-- What abandoning a profile operation may change: the reply queue, the profile and the model's count of free values. -/
theorem abandonProfile_eq (s : State) : s.abandonProfile =
    ((s.withUplink s.abandonProfile.uplink).withProfile s.abandonProfile.profile).withFree s.abandonProfile.free := by
  unfold abandonProfile
  dsimp only
  split <;> rfl

end State

theorem Act.controlStands {L : Licence} (hcontrol : ¬L.control) (hprofile : ¬L.profile) {s t : State} (h : Act L s t) :
    State.ControlStands s t := by
  cases h with
  | mark n => exact (State.mark_frame s n).controlStands (by simp)
  | notice k n c r => exact (State.notice_frame s k n c r).controlStands (by simp)
  | uplink u _ _ hL => exact absurd hL hcontrol
  | startUp u hL => exact absurd hL hcontrol
  | takeOp p tag _ _ _ _ hL => exact absurd hL hcontrol
  | abandon hL => exact absurd hL hcontrol
  | profile p hL => exact absurd hL hprofile
  | complete st hL => exact absurd hL hprofile
  | list | channel | grantOrder | holders | floor | run | runs | refusal | port | mgmt | seatRow | seatCfgs | classes
  | branches | floorCfg | marks | initial => exact .refl s

theorem Chain.controlStands {L : Licence} (hcontrol : ¬L.control) (hprofile : ¬L.profile) {s t : State}
    (h : Chain L s t) : State.ControlStands s t := by
  induction h with
  | refl => exact .refl s
  | tail _ h ih => exact ih.trans (h.controlStands hcontrol hprofile)

/-! ### Management frames -/

/-- The licence of an operation's own act, which leaves the uplink, start-up and the profile. -/
def Licence.body (L : Licence) : Licence := { L with control := False, profile := False }

theorem Chain.of_body {L : Licence} {s t : State} (h : Chain L.body s t) : Chain L s t :=
  h.mono (L := L.body) (M := L) id id (fun _ => id) id False.elim False.elim

namespace State

variable {L : Licence} (s : State)

/-- A place more in a reply queue with room, for anything but a profile operation. -/
theorem pushPlace_chain (hL : L.control) (p : ReplyPlace) (hplace : isProfilePlace p = false)
    (hbuilt : isBuilt p = true → s.uplink.up = true) (hroom : s.uplink.replies.length < 16) :
    Chain L s (s.pushPlace p) := by
  refine Act.chain (.uplink s _ ?_ ?_ hL)
  · rintro ⟨hnotices, -, haudio, hcarrier, hdown⟩
    refine ⟨hnotices, by simpa using hroom, haudio, hcarrier, fun hup => ?_⟩
    obtain ⟨h1, h2, h3⟩ := hdown hup
    refine ⟨h1, h2, ?_⟩
    cases hb : isBuilt p
    · simp [h3, hb]
    · rw [hbuilt hb] at hup
      cases hup
  · simp [UplinkPort.profilePlaces, hplace]

theorem pushReply_chain (hL : L.control) (r : Reply) (hroom : s.uplink.replies.length < 16) :
    Chain L s (s.pushReply r) := by
  unfold pushReply
  split
  · next hup => exact s.pushPlace_chain hL (.built r) rfl (fun _ => hup) hroom
  · exact .refl

theorem countMgmtErr_chain : Chain L s s.countMgmtErr :=
  Act.chain (.mgmt s _ fun h => ⟨by simp only [bump]; omega, h.2⟩)

/-- STORE PROFILE and RECALL PROFILE take their reply place with the profile store idle (R39, R156). -/
theorem takeOp_chain (hL : L.control) (op : Profile) (tag : Byte) {b : Body} (hop : op.op.isSome = true)
    (htakes : s.uplink.up = true ∧ s.uplink.replies.length < 16)
    (hb : b s = (s.withProfile op, .later) ∨ ∃ st, b s = (s, only st)) :
    Chain L s ((held .profile b s).1.answer tag (held .profile b s).2) := by
  have hanswer (st : Status) : Chain L s (s.answer tag (only st)) := s.pushReply_chain hL _ htakes.2
  cases hheld : s.heldOff .profile with
  | some st =>
    rw [held_of_some .profile b s st hheld]
    exact hanswer st
  | none =>
    rw [held_of_none .profile b s hheld]
    obtain hb | ⟨st, hb⟩ := hb
    · rw [hb]
      refine Act.chain (.takeOp s op tag ?_ hop htakes.1 htakes.2 hL)
      unfold heldOff at hheld
      cases hstart : s.startUp.state <;> simp_all
    · rw [hb]
      exact hanswer st

theorem resetBody_chain (hL : L.control) (tag : Byte) (hroom : s.uplink.replies.length < 16) :
    Chain L s ((resetBody s).1.answer tag (resetBody s).2) := by
  refine .trans (.trans (Act.abandon s hL).chain (Act.startUp _ _ hL).chain) (pushReply_chain _ hL _ ?_)
  simp only [withStartUp_uplink, abandonProfile_uplink]
  exact (List.length_filter_le _ _).trans_lt hroom

theorem receive_chain (hL : L.control) (f : Frame) {b : Body} (hb : b.Sound L.body ∨ b.Lasting) :
    Chain L s (s.receive f b) := by
  obtain ⟨-, h⟩ | ⟨-, -, h⟩ | ⟨-, htakes, -, h⟩ | ⟨⟨hup, htakes, -⟩, h⟩ := s.receive_cases f b
  · rw [h]
  · rw [h]
    exact s.countMgmtErr_chain
  · rw [h]
    exact s.pushPlace_chain hL .unanswered rfl (fun h => by cases h) (takesFrame_iff.mp htakes).2.2
  · rw [h]
    have hroom := (takesFrame_iff.mp htakes).2.2
    rcases hb with ⟨hchains, hanswers⟩ | rfl | rfl | rfl
    · obtain ⟨st, data, hanswer, -⟩ := hanswers s
      rw [hanswer]
      refine (hchains s).of_body.trans (pushReply_chain _ hL _ ?_)
      rw [((hchains s).controlStands id id).1]
      exact hroom
    · exact s.takeOp_chain hL _ _ (b := storeProfile) rfl ⟨hup, hroom⟩ (.inl rfl)
    · refine s.takeOp_chain hL { s.profile with op := some (.recall s.now) } _ (b := recallProfile) rfl ⟨hup, hroom⟩ ?_
      unfold recallProfile
      split
      · exact .inl rfl
      · exact .inr ⟨_, rfl⟩
    · exact s.resetBody_chain hL _ hroom

end State

end Sys2Proof.Machine
end

section
/-! PROOF. The other commands as chains, and the licence of each row. -/

namespace Sys2Proof.Machine

/-- The completions of a profile operation and of the recall of start-up. -/
def endsProfileOp : Instr → Bool
  | .storeComplete _ | .recallComplete | .startUpRecallComplete => true
  | _ => false

/-- What the command of a row may write: the floor state, the configuration and the budgets by `Instr.movesFloor`,
`Instr.configures` and `Instr.raisesBudget`. -/
def licence (i : Instr) : Licence where
  floor := i.movesFloor = true
  config := i.configures = true
  budget n := i.raisesBudget n = true
  timer := ∃ c, i = .secondElapsed c
  control := True
  profile := endsProfileOp i = true

namespace State

variable {L : Licence} (s : State)

/-! ### Reception -/

theorem measure_inRange (f : FloorConfig) {d : Detector} (h : d.InRange) (l : List Half) :
    (measure f d (blockLevel l)).InRange := by
  have hlevel : blockLevel l ≤ 32767 := blockLevel_le_iff.mpr fun x _ => magnitude_le x
  refine ⟨hlevel, max_le h.2.1 hlevel, ?_⟩
  change (if _ then 0 else min maxRun (d.run + 1)) ≤ maxRun
  split
  · exact Nat.zero_le _
  · exact min_le_left _ _

theorem measureBlock_chain (c : ChanNo) (n : SeatNo) (l : List Half) : Chain L s (s.measureBlock c n l) := by
  refine .opt ?_ (closeAndFill_chain _ c n _)
  exact Act.chain (.channel s c _ (.inr fun _ h => h) fun h => measure_inRange _ h l)

/-- A waiting place of a channel holds one frame (R40). -/
theorem placeAudio_nodup (x : AudioFrame) {l : List AudioFrame} (h : (l.map AudioFrame.chan).Nodup) :
    ((placeAudio x l).map AudioFrame.chan).Nodup := by
  unfold placeAudio
  split
  · have hsame : (l.map fun y => if y.chan = x.chan then x else y).map AudioFrame.chan = l.map AudioFrame.chan := by
      rw [List.map_map]
      refine List.map_congr_left fun y _ => ?_
      dsimp only [Function.comp]
      split
      · next heq => exact heq.symm
      · rfl
    rwa [hsame]
  · next hnone =>
    have hnot : x.chan ∉ l.map AudioFrame.chan := by
      simpa using hnone
    rw [List.map_append, List.map_singleton]
    exact List.Nodup.append h (List.nodup_singleton _) (List.disjoint_singleton.mpr hnot)

theorem forward_chain (hL : L.control) (x : AudioFrame) : Chain L s (s.forward x) := by
  unfold forward
  split
  · next hup =>
    refine Act.chain (.uplink s _ ?_ rfl hL)
    rintro ⟨hnotices, hreplies, haudio, hcarrier, -⟩
    refine ⟨hnotices, hreplies, placeAudio_nodup x haudio, hcarrier, fun hdown => ?_⟩
    change s.uplink.up = false at hdown
    rw [hup] at hdown
    cases hdown
  · exact .refl

theorem takeBlock_chain (hL : L.control) (c : ChanNo) (n : SeatNo) (l : List Half) : Chain L s (s.takeBlock c n l) := by
  unfold takeBlock
  split
  · exact s.forward_chain hL _
  · exact (s.forward_chain hL _).trans (measureBlock_chain ..)

/-- A change of a port's counters that leaves them in range. -/
theorem countPort_chain (b : BranchId) (f : BranchPort → BranchPort)
    (hok : ∀ p, f p = { p with checkErr := (f p).checkErr, rangeErr := (f p).rangeErr, kindErr := (f p).kindErr
                               audioStray := (f p).audioStray })
    (hcounts : ∀ p : BranchPort, p.CountsOk → (f p).CountsOk) : Chain L s (s.updPort b f) :=
  Act.chain (.port s b _ (fun h => by rw [hok]; exact h) (hcounts _))

theorem bump_le {k : Nat} : bump k ≤ maxCount := by
  unfold bump
  exact min_le_left _ _

theorem seatBlock_chain (hL : L.control) (b : BranchId) (n : SeatNo) (x : Block) : Chain L s (s.seatBlock b n x) := by
  have hstray : Chain L s (s.updPort b fun p => { p with audioStray := bump p.audioStray }) :=
    s.countPort_chain b _ (fun _ => rfl) fun _ h => ⟨h.1, h.2.1, h.2.2.1, bump_le⟩
  unfold seatBlock
  split
  · split
    · exact s.takeBlock_chain hL _ n _
    · exact hstray
  · exact hstray

theorem arrive_chain (hL : L.control) (b : BranchId) (f : Frame) : Chain L s (s.arrive b f) := by
  unfold arrive
  split
  · split
    · exact s.countPort_chain b _ (fun _ => rfl) fun _ h => ⟨bump_le, h.2⟩
    · exact s.countPort_chain b _ (fun _ => rfl) fun _ h => ⟨h.1, h.2.1, bump_le, h.2.2.2⟩
    · exact s.countPort_chain b _ (fun _ => rfl) fun _ h => ⟨h.1, bump_le, h.2.2⟩
    · exact s.takeReport_chain _ _
    · exact s.seatBlock_chain hL b _ _
  · exact .refl

theorem copyProgramme_chain (f : Frame) : Chain L s (s.copyProgramme f) := by
  refine Chain.foldl _ (fun u b => ?_) _ _
  split
  · next h =>
    simp only [Bool.and_eq_true, decide_eq_true_eq] at h
    refine Act.chain (.port u b _ ?_ fun h => h)
    rintro ⟨hnodup, hseats, -, hcarrier, -⟩
    refine ⟨hnodup, hseats, by simpa using h.2, hcarrier, fun hdown => ?_⟩
    change (u.port b).up = false at hdown
    rw [h.1] at hdown
    cases hdown
  · exact .refl

theorem receiveUplink_chain {L : Licence} (s : State) (hL : L.control) (f : Frame)
    (hfloor : carriesOperation [0x10, 0x11, 0x12, 0x13] f = true → L.floor)
    (hconfig : carriesOperation [0x03, 0x04, 0x14, 0x15, 0x16] f = true → L.config)
    (hbudget : carriesOperation [0x03, 0x10, 0x1B] f = true → ∀ n, L.budget n) :
    Chain L s (s.receiveUplink f) := by
  unfold receiveUplink
  split
  · next hkind =>
    have hcarries {codes : List Byte} (h : (payload f).getD 1 0 ∈ codes) : carriesOperation codes f = true := by
      simp only [carriesOperation, hkind, BEq.rfl, Bool.true_and, List.contains_iff_mem, h]
    exact s.receive_chain hL f (operation_sound _ _ (fun h => hfloor (hcarries h)) (fun h => hconfig (hcarries h))
      fun h => hbudget (hcarries h))
  split
  · split
    · exact s.copyProgramme_chain f
    · exact .refl
  · exact .refl

/-! ### Links -/

theorem setPort_setPort (b : BranchId) (p q : BranchPort) : (s.setPort b p).setPort b q = s.setPort b q := by
  cases b <;> rfl

theorem updPort_updPort (b : BranchId) (f g : BranchPort → BranchPort) :
    (s.updPort b f).updPort b g = s.updPort b fun p => g (f p) := by
  cases b <;> rfl

/-- What the transceiver reports is recorded; an UP link that keeps its carrier, or a DOWN one without, stands (R22). -/
theorem execBranchLinkUp_of_up {b : BranchId} (h : (s.port b).up = true) :
    execBranchLinkUp b s = .next (s.updPort b fun p => { p with carrier := true }) := by
  simp only [execBranchLinkUp, updPort, port_setPort_self, h, if_true]

theorem execBranchLinkUp_of_down {b : BranchId} (h : (s.port b).up = false) :
    execBranchLinkUp b s = .next ((s.updPort b fun p => { p with carrier := true, up := true }).notice .link none none
      (some (.linkUp (.branch b)))) := by
  simp only [execBranchLinkUp, raiseBranch, updPort_updPort]
  simp only [updPort, port_setPort_self, h, Bool.false_eq_true, if_false]

theorem execBranchLinkDown_of_up {b : BranchId} (h : (s.port b).up = true) :
    execBranchLinkDown b s = .next (((s.updPort b fun p =>
        { p with carrier := false, up := false, tx := none, cmdSet := [], programme := [] }).notice .link none none
          (some (.linkDown (.branch b)))).cascade
      (s.seatsWhere fun n r => r.run.present && s.branches.branchOf n == some b)) := by
  simp only [execBranchLinkDown, dropBranch, updPort_updPort]
  simp only [updPort, port_setPort_self, h, if_true, seatsWhere, notice_seats, notice_branches, setPort_seats,
    setPort_branches]

theorem execBranchLinkDown_of_down {b : BranchId} (h : (s.port b).up = false) :
    execBranchLinkDown b s = .next (s.updPort b fun p => { p with carrier := false }) := by
  simp only [execBranchLinkDown, updPort, port_setPort_self, h, Bool.false_eq_true, if_false]

theorem execUplinkUp_of_up (h : s.uplink.up = true) :
    execUplinkUp s = .next (s.withUplink { s.uplink with carrier := true }) := by
  simp only [execUplinkUp, withUplink_uplink, h, if_true]

theorem execUplinkUp_of_down (h : s.uplink.up = false) :
    execUplinkUp s = .next ((s.withUplink { s.uplink with carrier := true, up := true }).notice .link none none
      (some (.linkUp .uplink))) := by
  simp only [execUplinkUp, withUplink_uplink, h, Bool.false_eq_true, if_false]
  rfl

theorem execUplinkDown_of_up (h : s.uplink.up = true) :
    execUplinkDown s = .next (((if s.resetReplyWaits then s.resetDue else s).withUplink { s.uplink with
      carrier := false, up := false, tx := none, audio := []
      replies := s.uplink.replies.filter fun p => !isBuilt p }).notice .link none none (some (.linkDown .uplink))) := by
  unfold execUplinkDown
  dsimp only
  rw [if_pos (show (s.withUplink { s.uplink with carrier := false }).uplink.up = true from h)]
  unfold dropUplink
  dsimp only
  split
  · next hwaits =>
    rw [if_pos (show s.resetReplyWaits = true from hwaits)]
    rfl
  · next hwaits =>
    rw [if_neg (show ¬s.resetReplyWaits = true from hwaits)]
    rfl

theorem execUplinkDown_of_down (h : s.uplink.up = false) :
    execUplinkDown s = .next (s.withUplink { s.uplink with carrier := false }) := by
  simp only [execUplinkDown, withUplink_uplink, h, Bool.false_eq_true, if_false]

theorem branchLinkUp_chain {t : State} (b : BranchId) (h : execBranchLinkUp b s = .next t) : Chain L s t := by
  cases hup : (s.port b).up with
  | true =>
    rw [s.execBranchLinkUp_of_up hup] at h
    cases h
    refine Act.chain (.port s b _ ?_ fun h => h)
    rintro ⟨hnodup, hseats, hprogramme, -, hdown⟩
    exact ⟨hnodup, hseats, hprogramme, hup.symm, hdown⟩
  | false =>
    rw [s.execBranchLinkUp_of_down hup] at h
    cases h
    refine .trans ?_ (notice_chain ..)
    refine Act.chain (.port s b _ ?_ fun h => h)
    rintro ⟨hnodup, hseats, hprogramme, -, -⟩
    exact ⟨hnodup, hseats, hprogramme, rfl, fun h => by cases h⟩

theorem branchLinkDown_chain {t : State} (b : BranchId) (h : execBranchLinkDown b s = .next t) : Chain L s t := by
  cases hup : (s.port b).up with
  | true =>
    rw [s.execBranchLinkDown_of_up hup] at h
    obtain rfl := Host.Outcome.next.inj h
    refine .trans ?_ (cascade_chain ..)
    refine .trans ?_ (notice_chain ..)
    refine Act.chain (.port s b _ ?_ fun h => h)
    rintro -
    exact ⟨List.nodup_nil, fun _ h => absurd h List.not_mem_nil, Nat.zero_le _, rfl, fun _ => ⟨rfl, rfl, rfl⟩⟩
  | false =>
    rw [s.execBranchLinkDown_of_down hup] at h
    cases h
    refine Act.chain (.port s b _ ?_ fun h => h)
    rintro ⟨hnodup, hseats, hprogramme, -, hdown⟩
    exact ⟨hnodup, hseats, hprogramme, hup.symm, hdown⟩

theorem uplinkUp_chain (hL : L.control) {t : State} (h : execUplinkUp s = .next t) : Chain L s t := by
  cases hup : s.uplink.up with
  | true =>
    rw [s.execUplinkUp_of_up hup] at h
    cases h
    refine Act.chain (.uplink s _ ?_ rfl hL)
    rintro ⟨hnotices, hreplies, haudio, -, hdown⟩
    exact ⟨hnotices, hreplies, haudio, hup.symm, hdown⟩
  | false =>
    rw [s.execUplinkUp_of_down hup] at h
    cases h
    refine .trans ?_ (notice_chain ..)
    refine Act.chain (.uplink s _ ?_ rfl hL)
    rintro ⟨hnotices, hreplies, haudio, -, -⟩
    exact ⟨hnotices, hreplies, haudio, rfl, fun h => by cases h⟩

theorem uplinkDown_chain (hL : L.control) {t : State} (h : execUplinkDown s = .next t) : Chain L s t := by
  cases hup : s.uplink.up with
  | true =>
    rw [s.execUplinkDown_of_up hup] at h
    cases h
    have huplink : (if s.resetReplyWaits then s.resetDue else s).uplink = s.uplink := by split <;> rfl
    have hdue : Chain L s (if s.resetReplyWaits then s.resetDue else s) := .opt .refl (Act.chain (.startUp s _ hL))
    refine .trans ?_ (notice_chain ..)
    refine hdue.trans (Act.chain (.uplink _ _ ?_ ?_ hL))
    all_goals rw [huplink]
    · rintro ⟨hnotices, hreplies, -, -, -⟩
      refine ⟨hnotices, (List.length_filter_le _ _).trans hreplies, List.nodup_nil, rfl, fun _ => ⟨rfl, rfl, ?_⟩⟩
      simp
    · simp only [UplinkPort.profilePlaces, List.filter_filter]
      congr 1
      refine List.filter_congr fun p _ => ?_
      cases p <;> rfl
  | false =>
    rw [s.execUplinkDown_of_down hup] at h
    cases h
    refine Act.chain (.uplink s _ ?_ rfl hL)
    rintro ⟨hnotices, hreplies, haudio, -, hdown⟩
    exact ⟨hnotices, hreplies, haudio, hup.symm, hdown⟩

end State

end Sys2Proof.Machine
end

section
/-! PROOF. Every command but a reset is a chain of acts. -/

namespace Sys2Proof.Machine

namespace State

variable {L : Licence} (s : State)

/-! ### Transmitters -/

theorem startCommand_chain (b : BranchId) : Chain L s (s.startCommand b) := by
  unfold startCommand
  split
  · exact .refl
  · next n l hset =>
    dsimp only
    refine .trans ?_ (updRun_chain _ n _ fun _ => le_rfl)
    refine Act.chain (.port s b _ ?_ fun h => h)
    rintro ⟨hnodup, hseats, hprogramme, hcarrier, hdown⟩
    rw [hset] at hnodup hseats hdown
    exact ⟨hnodup.of_cons, fun m hm => hseats m (List.mem_cons_of_mem _ hm), hprogramme, hcarrier,
      fun h => absurd (hdown h).1 (List.cons_ne_nil _ _)⟩

theorem startProgramme_chain (b : BranchId) : Chain L s (s.startProgramme b) := by
  unfold startProgramme
  split
  · exact .refl
  · next f l hwaiting =>
    refine Act.chain (.port s b _ ?_ fun h => h)
    rintro ⟨hnodup, hseats, hprogramme, hcarrier, hdown⟩
    rw [hwaiting] at hprogramme hdown
    exact ⟨hnodup, hseats, (Nat.le_succ _).trans hprogramme, hcarrier, fun h => absurd (hdown h).2.1 (List.cons_ne_nil _ _)⟩

theorem endTransmission_chain (b : BranchId) : Chain L s (s.updPort b fun p => { p with tx := none }) := by
  refine Act.chain (.port s b _ ?_ fun h => h)
  rintro ⟨hnodup, hseats, hprogramme, hcarrier, hdown⟩
  exact ⟨hnodup, hseats, hprogramme, hcarrier, fun h => ⟨(hdown h).1, (hdown h).2.1, rfl⟩⟩

/-- A frame that starts on the uplink starts on an UP one (R41). -/
theorem up_of_uplinkFree (h : s.uplinkFree = true) : s.uplink.up = true := by
  simp only [uplinkFree, Bool.and_eq_true] at h
  exact h.1.1

/-- A change of an UP uplink that shortens its queues and reserves no place for a profile operation. -/
theorem shorten_chain (hL : L.control) (hup : s.uplink.up = true) (u : UplinkPort)
    (hnotices : u.notices.length ≤ s.uplink.notices.length) (hreplies : u.replies.length ≤ s.uplink.replies.length)
    (haudio : u.audio.Sublist s.uplink.audio) (hlink : u.carrier = s.uplink.carrier ∧ u.up = s.uplink.up)
    (hplaces : u.profilePlaces = s.uplink.profilePlaces) : Chain L s (s.withUplink u) := by
  refine Act.chain (.uplink s u ?_ hplaces hL)
  rintro ⟨h1, h2, h3, h4, -⟩
  refine ⟨hnotices.trans h1, hreplies.trans h2, (haudio.map _).nodup h3, by rw [hlink.1, hlink.2, h4], fun hdown => ?_⟩
  rw [hlink.2, hup] at hdown
  cases hdown

theorem startAudio_chain (hL : L.control) (hup : s.uplink.up = true) : Chain L s s.startAudio := by
  unfold startAudio
  split
  · exact .refl
  · next x l hwaiting =>
    exact s.shorten_chain hL hup _ le_rfl le_rfl (hwaiting ▸ List.sublist_cons_self x l) ⟨rfl, rfl⟩ rfl

theorem startReply_chain (hL : L.control) (hup : s.uplink.up = true) : Chain L s s.startReply := by
  unfold startReply
  split
  · exact .refl
  · next r hready =>
    refine s.shorten_chain hL hup _ le_rfl (by simp) (.refl _) ⟨rfl, rfl⟩ ?_
    unfold readyReply at hready
    cases hreplies : s.uplink.replies with
    | nil =>
      rw [hreplies] at hready
      cases hready
    | cons p l =>
      rw [hreplies] at hready
      cases p with
      | built q => simp [UplinkPort.profilePlaces, hreplies, isProfilePlace]
      | profileOp tag => cases hready
      | unanswered => cases hready

theorem startNotice_chain (hL : L.control) (hup : s.uplink.up = true) : Chain L s s.startNotice := by
  unfold startNotice
  split
  · exact .refl
  · next x l hwaiting =>
    exact s.shorten_chain hL hup _ (by rw [hwaiting]; exact Nat.le_succ _) le_rfl (.refl _) ⟨rfl, rfl⟩ rfl

theorem completeUplink_chain (hL : L.control) : Chain L s s.completeUplink := by
  unfold completeUplink
  split
  · exact .refl
  · refine .opt ?_ (Act.chain (.startUp _ _ hL))
    refine Act.chain (.uplink s _ ?_ rfl hL)
    rintro ⟨h1, h2, h3, h4, h5⟩
    exact ⟨h1, h2, h3, h4, fun hdown => ⟨(h5 hdown).1, rfl, (h5 hdown).2.2⟩⟩

/-! ### Timed events -/

/-- A change of a channel's timer, by an elapsed second. -/
theorem updTimer_chain (hL : L.timer) (c : ChanNo) (f : Timer → Timer) :
    Chain L s (s.updChan c fun k => { k with timer := f k.timer }) :=
  Act.chain (.channel s c _ (.inl hL) fun h => h)

theorem countDown_chain (hL : L.timer) (c : ChanNo) (n : SeatNo) (k : TurnKind) : Chain L s (s.countDown c n k) := by
  unfold countDown
  dsimp only
  have hstep (v : Mmss) (w : Bool) : Chain L s (s.updChan c fun x => { x with
      timer := { x.timer with value := v, warned := w } }) :=
    s.updTimer_chain hL c fun t => { t with value := v, warned := w }
  split
  · split
    · exact .trans (Chain.opt (hstep _ _) (notice_chain ..)) (closeAndFill_chain ..)
    · refine .trans ?_ (notice_chain ..)
      refine .trans ?_ (updTimer_chain _ hL c fun t => { t with mode := .overtime, value := zeroTime })
      exact Chain.opt (hstep _ _) (notice_chain ..)
  · exact .opt (hstep _ _) (notice_chain ..)

theorem elapse_chain (hL : L.timer) (c : ChanNo) (n : SeatNo) (k : TurnKind) : Chain L s (s.elapse c n k) := by
  unfold elapse
  dsimp only
  have hcount : Chain L s (s.updChan c fun x => { x with
      timer := { x.timer with phase := 0, used := bump x.timer.used } }) :=
    s.updTimer_chain hL c fun t => { t with phase := 0, used := bump t.used }
  split
  · exact (hcount.trans (countDown_chain _ hL c n k)).trans (mark_chain ..)
  · refine .unless ?_ (mark_chain ..)
    exact hcount.trans (updTimer_chain _ hL c fun t => { t with value := _ })

/-! ### Start-up and the end of a profile operation -/

theorem startUpRecall_chain (hL : L.config ∧ L.control ∧ L.profile) (hbudget : ∀ n, L.budget n) :
    Chain L s s.startUpRecall := by
  obtain ⟨hconfig, hcontrol, hprofile⟩ := hL
  unfold startUpRecall
  dsimp only
  refine .trans ?_ (Act.chain (.startUp _ _ hcontrol))
  refine .trans ?_ (initialBudgets_chain _ hbudget)
  refine .trans ?_ (replaceConfiguration_chain _ hconfig hprofile s.profile.recalled_classes_valid
    s.profile.recalled_floorCfg_inRange)
  exact Act.chain (.profile s _ hprofile)

theorem finishStore_chain (hL : L.profile) (found : ReadBack) : Chain L s (s.finishStore found) :=
  .trans (Act.chain (.profile s _ hL)) (Act.chain (.complete _ _ hL))

theorem finishRecall_chain (hL : L.config ∧ L.profile) : Chain L s s.finishRecall := by
  unfold finishRecall
  dsimp only
  split
  · refine .trans ?_ (Act.chain (.complete _ _ hL.2))
    refine .trans ?_ (replaceConfiguration_chain _ hL.1 hL.2 s.profile.recalled_classes_valid
      s.profile.recalled_floorCfg_inRange)
    exact .trans (Act.chain (.profile s _ hL.2)) (Act.chain (.profile _ _ hL.2))
  · exact .trans (Act.chain (.profile s _ hL.2)) (Act.chain (.complete _ _ hL.2))

end State

/-! ### Every command -/

theorem operate_chain {L : Licence} {s t : State} {m : MgmtHead} {o : Op} {fields : List Byte} {b : Body}
    (hL : L.control) (hb : b.Sound L.body ∨ b.Lasting) (h : operate m o fields b s = .next t) : Chain L s t := by
  obtain rfl := Host.Outcome.next.inj h
  exact s.receive_chain hL _ hb

/-- Every command but a reset is a chain of acts under the licence of its row. -/
theorem exec_chain {i : Instr} {s t : State} (h : exec i s = .next t) (hpower : i ≠ .powerUpReset)
    (hcommand : i ≠ .commandReset) : Chain (licence i) s t := by
  cases i with
  | powerUpReset => exact absurd rfl hpower
  | commandReset => exact absurd rfl hcommand
  | seatReport b f | seatAudio b f =>
    obtain rfl := Host.Outcome.next.inj h
    exact s.arrive_chain trivial b f
  | programme f | unknownOperation f =>
    obtain rfl := Host.Outcome.next.inj h
    exact s.receiveUplink_chain trivial f id id fun hf _ => hf
  | branchLinkUp b => exact s.branchLinkUp_chain b h
  | branchLinkDown b => exact s.branchLinkDown_chain b h
  | uplinkUp => exact s.uplinkUp_chain trivial h
  | uplinkDown => exact s.uplinkDown_chain trivial h
  | seatCommand b =>
    obtain rfl := Host.Outcome.next.inj h
    exact .opt .refl (s.startCommand_chain b)
  | programmeTransmit b =>
    obtain rfl := Host.Outcome.next.inj h
    exact .opt .refl (s.startProgramme_chain b)
  | branchTransmitComplete b =>
    obtain rfl := Host.Outcome.next.inj h
    exact s.endTransmission_chain b
  | channelAudioTransmit =>
    obtain rfl := Host.Outcome.next.inj h
    split
    · next hstarts =>
      simp only [State.startsAudio, Bool.and_eq_true] at hstarts
      exact s.startAudio_chain trivial (s.up_of_uplinkFree hstarts.1)
    · exact .refl
  | replyTransmit =>
    obtain rfl := Host.Outcome.next.inj h
    split
    · next hstarts =>
      simp only [State.startsReply, Bool.and_eq_true] at hstarts
      exact s.startReply_chain trivial (s.up_of_uplinkFree hstarts.1.1)
    · exact .refl
  | noticeTransmit =>
    obtain rfl := Host.Outcome.next.inj h
    split
    · next hstarts =>
      simp only [State.startsNotice, Bool.and_eq_true] at hstarts
      exact s.startNotice_chain trivial (s.up_of_uplinkFree hstarts.1.1.1)
    · exact .refl
  | uplinkTransmitComplete =>
    obtain rfl := Host.Outcome.next.inj h
    exact s.completeUplink_chain trivial
  | presenceTimeout n =>
    obtain rfl := Host.Outcome.next.inj h
    exact .opt .refl (s.cascade_chain [n])
  | refusalTimerExpiry n =>
    obtain rfl := Host.Outcome.next.inj h
    refine .opt .refl ?_
    refine .trans ?_ (State.mark_chain ..)
    refine .trans ?_ (Act.chain (.refusal ..))
    exact s.updRun_chain n _ fun _ => le_rfl
  | commandRefresh n =>
    obtain rfl := Host.Outcome.next.inj h
    exact .opt .refl (s.mark_chain n)
  | secondElapsed c =>
    obtain rfl := Host.Outcome.next.inj h
    split
    · exact State.elapse_chain (L := licence (.secondElapsed c)) s ⟨c, rfl⟩ c _ _
    · exact .refl
  | startUpRecallComplete =>
    obtain rfl := Host.Outcome.next.inj h
    exact .opt .refl (s.startUpRecall_chain ⟨rfl, trivial, rfl⟩ fun _ => rfl)
  | startUpReady =>
    obtain rfl := Host.Outcome.next.inj h
    refine .opt .refl (.opt (Act.chain (.startUp s _ trivial)) ?_)
    exact .trans (Act.chain (.floor _ _ rfl)) (State.fillRule_chain _)
  | storeComplete found =>
    obtain rfl := Host.Outcome.next.inj h
    split
    · exact s.finishStore_chain rfl found
    · exact .refl
  | recallComplete =>
    obtain rfl := Host.Outcome.next.inj h
    split
    · exact s.finishRecall_chain ⟨rfl, rfl⟩
    · exact .refl
  | identify m => exact operate_chain trivial (.inl ⟨identify_chains, identify_answers⟩) h
  | readTable m table first count =>
    exact operate_chain trivial (.inl ⟨readTable_chains _ _ _, readTable_answers _ _ _⟩) h
  | writeTableSeat m index row =>
    exact operate_chain trivial (.inl ⟨writeSeatRow_chains rfl _ _ fun n hn => by
      change (index.toNat == n.val) = true
      simpa using hn, writeSeatRow_answers _ _⟩) h
  | writeTableClass m index row =>
    exact operate_chain trivial (.inl ⟨writeClassRow_chains rfl _ _, writeClassRow_answers _ _⟩) h
  | writeTableBranch m index row =>
    exact operate_chain trivial (.inl ⟨writeBranchRow_chains rfl _ _, writeBranchRow_answers _ _⟩) h
  | writeTableFloor m index row =>
    exact operate_chain trivial (.inl ⟨writeFloorRow_chains rfl _ _, writeFloorRow_answers _ _⟩) h
  | seatFlagsTest m first count flag =>
    exact operate_chain trivial (.inl ⟨seatFlags_chains _ _ _ _ (.inr rfl), seatFlags_answers _ _ _ _⟩) h
  | seatFlagsSet m first count flag | seatFlagsClear m first count flag | seatFlagsToggle m first count flag =>
    exact operate_chain trivial (.inl (.held ⟨seatFlags_chains _ _ _ _ (.inl rfl), seatFlags_answers _ _ _ _⟩ _)) h
  | readList m position => exact operate_chain trivial (.inl ⟨readList_chains _, readList_answers _⟩) h
  | readFloor m group => exact operate_chain trivial (.inl ⟨readFloor_chains _, readFloor_answers _⟩) h
  | readCounters m clear => exact operate_chain trivial (.inl ⟨readCounters_chains _, readCounters_answers _⟩) h
  | storeProfile m => exact operate_chain trivial (.inr (.inl rfl)) h
  | recallProfile m => exact operate_chain trivial (.inr (.inr (.inl rfl))) h
  | reset m => exact operate_chain trivial (.inr (.inr (.inr rfl))) h
  | openFloor m reload =>
    refine operate_chain trivial (.inl (.held ⟨openFloor_chains rfl _ fun hreload n => ?_, openFloor_answers _⟩ _)) h
    change (reload == 1) = true
    simpa using hreload
  | closeFloor m => exact operate_chain trivial (.inl (.held ⟨closeFloor_chains rfl, closeFloor_answers⟩ _)) h
  | suspend m => exact operate_chain trivial (.inl (.held ⟨suspendFloor_chains rfl, suspendFloor_answers⟩ _)) h
  | resume m => exact operate_chain trivial (.inl (.held ⟨resumeFloor_chains rfl, resumeFloor_answers⟩ _)) h
  | setMode m mode => exact operate_chain trivial (.inl (.held ⟨setMode_chains rfl _, setMode_answers _⟩ _)) h
  | setLimit m limit => exact operate_chain trivial (.inl (.held ⟨setLimit_chains rfl _, setLimit_answers _⟩ _)) h
  | setGate m gate => exact operate_chain trivial (.inl (.held ⟨setGate_chains rfl _, setGate_answers _⟩ _)) h
  | grant m seat force => exact operate_chain trivial (.inl (.held ⟨grantBody_chains _ _, grantBody_answers _ _⟩ _)) h
  | endTurn m selector number => exact operate_chain trivial (.inl (.held ⟨endBody_chains _ _, endBody_answers _ _⟩ _)) h
  | withdraw m seat => exact operate_chain trivial (.inl (.held ⟨withdrawBody_chains _, withdrawBody_answers _⟩ _)) h
  | clearList m => exact operate_chain trivial (.inl (.held ⟨clearList_chains, clearList_answers⟩ _)) h
  | reloadBudgets m =>
    exact operate_chain trivial (.inl (.held ⟨reloadBudgets_chains fun _ => rfl, reloadBudgets_answers⟩ _)) h
  | nextSpeaker m => exact operate_chain trivial (.inl (.held ⟨nextBody_chains, State.next_answered⟩ _)) h

end Sys2Proof.Machine
end

section
/-! PROOF. What a chain of acts keeps: the floor state and the configuration, budgets, restraint, the class table, timers
and detectors, counters, and the ports. -/

namespace Sys2Proof.Machine

/-! ### Tables by seat -/

namespace State

theorem seatsWhere_eq_filter (s : State) (p : SeatNo → SeatRecord → Bool) :
    s.seatsWhere p = allSeats.filter fun n => p n (s.seat n) := by
  have hzip : List.zip allSeats s.seats.toList = allSeats.map fun n => (n, s.seat n) := by
    have hlength : allSeats.length = 1024 := List.length_finRange
    refine List.ext_getElem (by rw [List.length_zip, List.length_map, hlength, Vector.length_toList, min_self]) fun i h1 h2 => ?_
    rw [List.getElem_zip, List.getElem_map]
    simp only [allSeats, List.getElem_finRange, Vector.getElem_toList]
    rfl
  have hguard (l : List SeatNo) : (l.filterMap fun n => if p n (s.seat n) then some n else none) =
      l.filter fun n => p n (s.seat n) := by
    rw [← List.filterMap_eq_filter]
    exact List.filterMap_congr fun n _ => by simp [Option.guard]
  rw [seatsWhere, hzip, List.filterMap_map]
  exact hguard allSeats

theorem mem_seatsWhere {s : State} {p : SeatNo → SeatRecord → Bool} {n : SeatNo} :
    n ∈ s.seatsWhere p ↔ p n (s.seat n) = true := by
  rw [seatsWhere_eq_filter, List.mem_filter]
  exact and_iff_right (List.mem_finRange n)

theorem seatsWhere_congr {s t : State} {p q : SeatNo → SeatRecord → Bool} (h : ∀ n, p n (s.seat n) = q n (t.seat n)) :
    s.seatsWhere p = t.seatsWhere q := by
  rw [seatsWhere_eq_filter, seatsWhere_eq_filter]
  exact List.filter_congr fun n _ => h n

theorem seat_replaceSeats (s : State) (v : Vector SeatConfig 1024) (n : SeatNo) :
    (s.replaceSeats v).seat n = ⟨v[n], (s.seat n).run⟩ := by
  simp [seat, replaceSeats, seatTable]

end State

/-! ### The floor state and the configuration -/

theorem Act.floor_eq {L : Licence} (hL : ¬L.floor) {s t : State} (h : Act L s t) : t.floor = s.floor := by
  cases h with
  | floor f h => exact absurd h hL
  | mark | notice => simp
  | abandon => rw [State.abandonProfile_eq]; rfl
  | list | channel | grantOrder | holders | run | runs | refusal | port | uplink | mgmt | startUp | takeOp | profile
  | complete | seatRow | seatCfgs | classes | branches | floorCfg | marks | initial => rfl

theorem Chain.floor_eq {L : Licence} (hL : ¬L.floor) {s t : State} (h : Chain L s t) : t.floor = s.floor := by
  induction h with
  | refl => rfl
  | tail _ h ih => exact (h.floor_eq hL).trans ih

/-- The working configuration of two states is the same. -/
def State.SameConfig (s t : State) : Prop :=
  (∀ n : SeatNo, (t.seat n).cfg = (s.seat n).cfg) ∧ t.classes = s.classes ∧ t.branches = s.branches
    ∧ t.floorCfg = s.floorCfg

theorem State.SameConfig.refl (s : State) : State.SameConfig s s := ⟨fun _ => rfl, rfl, rfl, rfl⟩

theorem State.SameConfig.of_seats {s t : State} (h : t.seats = s.seats) (hclasses : t.classes = s.classes)
    (hbranches : t.branches = s.branches) (hfloor : t.floorCfg = s.floorCfg) : State.SameConfig s t :=
  ⟨fun n => by rw [State.seat, State.seat, h], hclasses, hbranches, hfloor⟩

theorem Act.sameConfig {L : Licence} (hL : ¬L.config) {s t : State} (h : Act L s t) : State.SameConfig s t := by
  cases h with
  | mark | notice => exact .of_seats (by simp) (by simp) (by simp) (by simp)
  | abandon => rw [State.abandonProfile_eq]; exact .of_seats rfl rfl rfl rfl
  | run n f => exact ⟨fun m => by rw [State.seat_updRun]; split <;> rfl, rfl, rfl, rfl⟩
  | runs f h => exact ⟨fun m => by rw [State.seat_mapSeats, h], rfl, rfl, rfl⟩
  | initial => exact ⟨fun m => by rw [State.seat_mapSeats]; rfl, rfl, rfl, rfl⟩
  | seatRow n c b h => exact absurd h hL
  | seatCfgs v h => exact absurd h.1 hL
  | classes t h1 h2 h => exact absurd h hL
  | branches t h1 h => exact absurd h hL
  | floorCfg f h1 h2 h => exact absurd h hL
  | marks f h1 h => exact absurd h hL
  | list | channel | grantOrder | holders | floor | refusal | port | uplink | mgmt | startUp | takeOp | profile
  | complete => exact .refl s

theorem Chain.sameConfig {L : Licence} (hL : ¬L.config) {s t : State} (h : Chain L s t) : State.SameConfig s t := by
  induction h with
  | refl => exact .refl s
  | tail _ h ih =>
    obtain ⟨h1, h2, h3, h4⟩ := ih
    obtain ⟨g1, g2, g3, g4⟩ := h.sameConfig hL
    exact ⟨fun n => (g1 n).trans (h1 n), g2.trans h2, g3.trans h3, g4.trans h4⟩

/-- Settles O9: a command is a chain of acts under its licence, and a reset is named among the commands that move the
floor and that configure. -/
theorem floorAndConfigurationChangeOnlyBy : Obligations.FloorAndConfigurationChangeOnlyBy := by
  unfold Obligations.FloorAndConfigurationChangeOnlyBy
  refine ⟨fun i s t h hi => ?_, fun i s t h hi => ?_⟩
  · have hchain := exec_chain h (by rintro rfl; cases hi) (by rintro rfl; cases hi)
    exact hchain.floor_eq (by simp [licence, hi])
  · have hchain := exec_chain h (by rintro rfl; cases hi) (by rintro rfl; cases hi)
    exact hchain.sameConfig (by simp [licence, hi])

/-! ### Budgets -/

theorem Act.budget_le {L : Licence} {n : SeatNo} (hL : ¬L.budget n) {s t : State} (h : Act L s t) :
    (t.seat n).run.budget ≤ (s.seat n).run.budget := by
  cases h with
  | mark | notice => simp
  | abandon => rw [State.abandonProfile_eq]; exact le_rfl
  | run m f hf =>
    rw [State.seat_updRun]
    split
    · exact hf _
    · exact le_rfl
  | runs f hf => rw [State.seat_mapSeats, hf]
  | initial h => exact absurd (h n) hL
  | seatRow m c b _ _ hb =>
    rw [State.seat_setSeat]
    split
    · next hmn =>
      subst hmn
      obtain hb | ⟨hb, -⟩ := hb
      · exact hb
      · exact absurd hb hL
    · exact le_rfl
  | seatCfgs v => rw [State.seat_replaceSeats]
  | list | channel | grantOrder | holders | floor | refusal | port | uplink | mgmt | startUp | takeOp | profile
  | complete | classes | branches | floorCfg | marks => exact le_rfl

theorem Chain.budget_le {L : Licence} {n : SeatNo} (hL : ¬L.budget n) {s t : State} (h : Chain L s t) :
    (t.seat n).run.budget ≤ (s.seat n).run.budget := by
  induction h with
  | refl => exact le_rfl
  | tail _ h ih => exact (h.budget_le hL).trans ih

/-- Settles O10: outside its licence an act writes a budget downwards only. -/
theorem budgetsRiseOnlyBy : Obligations.BudgetsRiseOnlyBy := by
  unfold Obligations.BudgetsRiseOnlyBy
  intro i s t n h hi
  have hchain := exec_chain h (by rintro rfl; cases hi) (by rintro rfl; cases hi)
  exact hchain.budget_le (by simp [licence, hi])

/-! ### Frames that are not carried out -/

/-- The uplink stays UP through the act of an operation. -/
theorem State.answer_reply (s : State) (tag : Byte) (st : Status) (data : List Byte) (h : s.uplink.up = true) :
    s.answer tag (.reply st data) = s.replied tag st data := by
  simp only [State.answer, State.pushReply, h, if_true, State.replied]

/-- Settles O11: an answer that is neither DONE nor ADJUSTED comes with no data and an unchanged state; the operations
that are not answered at once are answered DONE, reserve a place, or are turned away unchanged. -/
theorem refusedFrameChangesNothing : Obligations.RefusedFrameChangesNothing := by
  unfold Obligations.RefusedFrameChangesNothing
  intro i f s t r hf htakes hexec hreplies hdone hadjusted
  rw [exec_of_managementFrame hf] at hexec
  obtain rfl := Host.Outcome.next.inj hexec
  rw [State.receive_of_takes s f _ htakes] at hreplies ⊢
  have hup : s.uplink.up = true := htakes.1
  -- an answer that left the state as it was
  have hsame (st : Status) (data : List Byte)
      (h : (s.answer ((payload f).headD 0) (.reply st data)).uplink.replies = s.uplink.replies ++ [.built r]) :
      r = ⟨(payload f).headD 0, st, data, false⟩ := by
    rw [s.answer_reply _ _ _ hup] at h
    simpa [State.replied] using h.symm
  have honly {st : Status} (p : State × Answer) (hp : p = (s, only st))
      (h : (p.1.answer ((payload f).headD 0) p.2).uplink.replies = s.uplink.replies ++ [.built r]) :
      r.data = [] ∧ p.1.answer ((payload f).headD 0) p.2 = s.replied r.tag r.status [] := by
    subst hp
    obtain rfl := hsame st [] h
    exact ⟨rfl, s.answer_reply _ _ _ hup⟩
  let L : Licence := ⟨True, True, fun _ => True, True, False, False⟩
  rcases operation_sound (L := L) ((payload f).getD 1 0) ((payload f).drop 2) (fun _ => trivial) (fun _ => trivial)
      (fun _ _ => trivial) with ⟨hchains, hanswers⟩ | hlasting
  · obtain ⟨st, data, hanswer, hnothing⟩ := hanswers s
    have hstands := (hchains s).controlStands id id
    change (payloadOperation f s).2 = _ at hanswer
    change State.ControlStands s (payloadOperation f s).1 at hstands
    rw [hanswer, State.answer_reply _ _ _ _ (hstands.1 ▸ hup)] at hreplies
    have hr : r = ⟨(payload f).headD 0, st, data, false⟩ := by
      have : (payloadOperation f s).1.uplink.replies = s.uplink.replies := by rw [hstands.1]
      simpa [State.replied, this] using hreplies.symm
    subst hr
    obtain ⟨hdata, hstate⟩ := hnothing hdone hadjusted
    change (payloadOperation f s).1 = s at hstate
    refine ⟨hdata, ?_⟩
    rw [hanswer, hstate, hdata]
    exact s.answer_reply _ _ _ hup
  · change (payloadOperation f).Lasting at hlasting
    -- a place that stays reserved holds no reply
    have hlater (p : State × Answer) (u : Profile) (hp : p = (s.withProfile u, .later))
        (h : (p.1.answer ((payload f).headD 0) p.2).uplink.replies = s.uplink.replies ++ [.built r]) : False := by
      subst hp
      simp [State.answer, State.pushPlace] at h
    rcases hlasting with hbody | hbody | hbody
    all_goals rw [hbody] at hreplies ⊢
    · cases hheld : s.heldOff .profile with
      | some st => exact honly _ (held_of_some _ _ s st hheld) hreplies
      | none => exact (hlater _ _ (held_of_none _ _ s hheld) hreplies).elim
    · cases hheld : s.heldOff .profile with
      | some st => exact honly _ (held_of_some _ _ s st hheld) hreplies
      | none =>
        rw [held_of_none _ _ s hheld] at hreplies ⊢
        by_cases hallowed : s.recallAllowed = true
        · exact (hlater _ _ (if_pos hallowed) hreplies).elim
        · exact honly _ (if_neg hallowed) hreplies
    · refine absurd ?_ hdone
      have : r = ⟨(payload f).headD 0, .done, [], true⟩ := by
        rw [held_of_none .reset _ s rfl] at hreplies
        have hstart : s.abandonProfile.uplink.up = true := by rw [State.abandonProfile_uplink]; exact hup
        have htail := congrArg List.getLast? hreplies
        simp only [resetBody, State.answer, State.pushReply, State.withStartUp_uplink, hstart, if_true,
          State.withUplink_uplink, List.getLast?_concat, Option.some.injEq, ReplyPlace.built.injEq] at htail
        exact htail.symm
      rw [this]

end Sys2Proof.Machine
end

section
/-! PROOF. The resets: the ports that go UP with their LINK notices, and the after-reset values of every block. -/

namespace Sys2Proof.Machine

namespace State

/-! ### Ports that go UP -/

/-- The notice of a port that goes UP. -/
def linkNotice (s : State) (p : Port) : Notice :=
  ⟨.link, s.mgmt.gap, none, none, some (.linkUp p), s.list.entries.length, s.floor⟩

/-- Every branch port with carrier goes UP, with its LINK notice. -/
def raiseAll (l : List BranchId) (s : State) : State :=
  l.foldl (fun s b => if (s.port b).carrier then s.raiseBranch b else s) s

theorem raiseAll_cons (b : BranchId) (l : List BranchId) (s : State) :
    raiseAll (b :: l) s = raiseAll l (if (s.port b).carrier then s.raiseBranch b else s) := rfl

theorem port_raiseBranch (b x : BranchId) (s : State) :
    (s.raiseBranch b).port x = if b = x then { s.port x with up := true } else s.port x := by
  rw [raiseBranch, notice_port, updPort, port_setPort]
  split
  · next h => rw [h]
  · rfl

/-- What going UP leaves as it was. -/
structure Raised (s t : State) : Prop where
  rest : t = ((s.withPorts t.ports).withUplink t.uplink).withMgmt t.mgmt
  uplink : t.uplink = { s.uplink with notices := t.uplink.notices }
  mgmtErr : t.mgmt.mgmtErr = s.mgmt.mgmtErr

theorem Raised.refl (s : State) : Raised s s := ⟨rfl, rfl, rfl⟩

theorem Raised.trans {s t u : State} (h : Raised s t) (g : Raised t u) : Raised s u where
  rest := g.rest.trans (by rw [h.rest]; rfl)
  uplink := g.uplink.trans (by rw [h.uplink])
  mgmtErr := g.mgmtErr.trans h.mgmtErr

theorem notice_raised (s : State) (k : NoticeKind) (n : Option SeatNo) (c : Option ChanNo) (r : Option Reason) :
    Raised s (s.notice k n c r) := by
  cases hk : s.notifies k with
  | false => rw [notice_of_disabled s n c r hk]; exact .refl s
  | true =>
    by_cases hroom : s.uplink.up = true ∧ s.uplink.notices.length < 32
    · rw [notice_of_room n c r hk hroom.1 hroom.2]
      exact ⟨rfl, rfl, rfl⟩
    · rw [notice_of_no_room n c r hk (by rwa [not_and_or, Bool.not_eq_true, not_lt] at hroom)]
      exact ⟨rfl, rfl, rfl⟩

theorem raiseBranch_raised (b : BranchId) (s : State) : Raised s (s.raiseBranch b) := by
  refine .trans ?_ (notice_raised ..)
  exact ⟨rfl, rfl, rfl⟩

theorem raiseAll_raised (l : List BranchId) (s : State) : Raised s (raiseAll l s) := by
  induction l generalizing s with
  | nil => exact .refl s
  | cons b l ih =>
    rw [raiseAll_cons]
    refine .trans ?_ (ih _)
    split
    · exact s.raiseBranch_raised b
    · exact .refl s

theorem port_raiseAll (l : List BranchId) (s : State) (x : BranchId) :
    (raiseAll l s).port x =
      { s.port x with up := (s.port x).up || (decide (x ∈ l) && (s.port x).carrier) } := by
  induction l generalizing s with
  | nil => simp [raiseAll]
  | cons b l ih =>
    have hstep : (if (s.port b).carrier then s.raiseBranch b else s).port x =
        { s.port x with up := (s.port x).up || (decide (x = b) && (s.port x).carrier) } := by
      by_cases hx : x = b
      · subst hx
        cases hc : (s.port x).carrier <;> simp [port_raiseBranch]
      · simp only [hx, decide_false, Bool.false_and, Bool.or_false]
        split
        · rw [port_raiseBranch, if_neg (Ne.symm hx)]
        · rfl
    rw [raiseAll_cons, ih, hstep]
    simp only [List.mem_cons, Bool.decide_or, Bool.or_assoc, Bool.and_or_distrib_right]

/-- With the uplink UP and room, each LINK notice is kept, in the order of the branches (R42, R168). -/
theorem raiseAll_told (l : List BranchId) {s : State} (hup : s.uplink.up = true) (hkind : s.notifies .link = true)
    (hroom : s.uplink.notices.length + l.length ≤ 32) (hgap : s.mgmt.gap = false) :
    (raiseAll l s).uplink.notices = s.uplink.notices ++
        (l.filter fun b => (s.port b).carrier).map (fun b => s.linkNotice (.branch b))
      ∧ (raiseAll l s).mgmt = s.mgmt := by
  induction l generalizing s with
  | nil => simp [raiseAll]
  | cons b l ih =>
    rw [List.length_cons] at hroom
    rw [raiseAll_cons, List.filter_cons]
    split
    · have hnotice : s.raiseBranch b = ((s.updPort b fun p => { p with up := true }).withUplink { s.uplink with
          notices := s.uplink.notices ++ [s.linkNotice (.branch b)] }).withMgmt { s.mgmt with gap := false } :=
        notice_of_room (s := s.updPort b _) none none _ hkind hup (by simp only [updPort, setPort_uplink]; omega)
      have hport (x : BranchId) : ((s.raiseBranch b).port x).carrier = (s.port x).carrier := by
        rw [port_raiseBranch]
        split <;> rfl
      have hmgmt : (s.raiseBranch b).mgmt = s.mgmt := by
        rw [hnotice, withMgmt_mgmt, ← hgap]
      obtain ⟨h1, h2⟩ := ih (s := s.raiseBranch b) (by rw [hnotice]; exact hup) (by rw [hnotice]; exact hkind)
        (by rw [hnotice]; simp only [withMgmt_uplink, withUplink_uplink, List.length_append, List.length_singleton]; omega)
        (by rw [hmgmt]; exact hgap)
      refine ⟨?_, h2.trans hmgmt⟩
      have hsame (p : Port) : (s.raiseBranch b).linkNotice p = s.linkNotice p := by
        rw [linkNotice, hmgmt, hnotice]
        rfl
      rw [h1]
      simp only [hport, hsame, List.map_cons]
      rw [hnotice]
      simp
    · exact ih hup hkind (by omega) hgap

/-- A DOWN uplink keeps no notice. -/
theorem raiseAll_silent (l : List BranchId) {s : State} (hup : s.uplink.up = false) :
    (raiseAll l s).uplink = s.uplink := by
  induction l generalizing s with
  | nil => rfl
  | cons b l ih =>
    have hstep : (if (s.port b).carrier then s.raiseBranch b else s).uplink = s.uplink := by
      split
      · cases hk : (s.updPort b fun p => { p with up := true }).notifies .link with
        | false => rw [raiseBranch, notice_of_disabled _ _ _ _ hk]; rfl
        | true => rw [raiseBranch, notice_of_no_room _ _ _ hk (.inl hup)]; rfl
      · rfl
    rw [raiseAll_cons, ih (by rw [hstep]; exact hup), hstep]

/-! ### The reset sequence -/

/-- Every block at its after-reset values, before the ports with carrier go UP (R42, R174). -/
def cleared (cause : ResetCause) (status : ProfileStatus) (s : State) : State :=
  { State.reset with
    now := s.now
    seats := everySeat ⟨defaultSeatConfig, resetRun s.now defaultClasses.delegate.initial⟩
    ports := ⟨resetPort s.ports.a.carrier, resetPort s.ports.b.carrier, resetPort s.ports.c.carrier,
      resetPort s.ports.d.carrier⟩
    uplink := resetUplink s.uplink.carrier
    profile := { s.profile with status := status }
    startUp := ⟨.recalling, s.now, cause, .none, false⟩
    free := s.free
    pending := s.pending }

theorem restart_eq (cause : ResetCause) (status : ProfileStatus) (s : State) :
    s.restart cause status = raiseAll branchIds
      (if s.abandonProfile.uplink.carrier then (s.abandonProfile.cleared cause status).raiseUplink
        else s.abandonProfile.cleared cause status) := rfl

theorem port_cleared (cause : ResetCause) (status : ProfileStatus) (s : State) (b : BranchId) :
    (s.cleared cause status).port b = resetPort (s.port b).carrier := by
  cases b <;> rfl

theorem seatTable_toList {α : Type} (l : List α) (h : l.length = 1024) : (seatTable l h).toList = l := rfl

theorem everySeat_getElem {α : Type} (x : α) (n : SeatNo) : (everySeat x)[n] = x := by
  have hmem : (everySeat x)[n] ∈ (everySeat x).toList := by simp
  rw [everySeat, seatTable_toList] at hmem
  exact List.eq_of_mem_replicate hmem

theorem everyChannel_getElem {α : Type} (x : α) (c : ChanNo) : (everyChannel x)[c] = x := by
  have hmem : (everyChannel x)[c] ∈ (everyChannel x).toList := by simp
  exact List.eq_of_mem_replicate hmem

theorem seat_cleared (cause : ResetCause) (status : ProfileStatus) (s : State) (n : SeatNo) :
    (s.cleared cause status).seat n = ⟨defaultSeatConfig, resetRun s.now 1800⟩ :=
  everySeat_getElem _ n

theorem chan_cleared (cause : ResetCause) (status : ProfileStatus) (s : State) (c : ChanNo) :
    (s.cleared cause status).chan c = resetChannel := everyChannel_getElem _ c

theorem refusalOf_cleared (cause : ResetCause) (status : ProfileStatus) (s : State) (n : SeatNo) :
    (s.cleared cause status).refusalOf n = none :=
  everySeat_getElem none n

/-- The uplink with carrier goes UP first, with its LINK notice (R42). -/
def clearedUp (cause : ResetCause) (status : ProfileStatus) (s : State) : State :=
  if s.uplink.carrier then (s.cleared cause status).raiseUplink else s.cleared cause status

theorem clearedUp_of_carrier (cause : ResetCause) (status : ProfileStatus) {s : State} (h : s.uplink.carrier = true) :
    s.clearedUp cause status = (s.cleared cause status).withUplink
      { carrier := true, up := true, audio := [], replies := [], tx := none
        notices := [⟨.link, false, none, none, some (.linkUp .uplink), 0, .closed⟩] } := by
  have hup : (s.cleared cause status).uplink = resetUplink true := by rw [cleared, h]
  rw [clearedUp, if_pos h, raiseUplink, hup]
  exact notice_of_room (s := (s.cleared cause status).withUplink { resetUplink true with up := true }) none none _
    (show (BitVec.allOnes 13).getLsbD 11 = true by decide) rfl (show 0 < 32 by decide)

/-- What both stages of the links leave of the cleared state. -/
theorem raiseAll_clearedUp (cause : ResetCause) (status : ProfileStatus) (s : State) {t : State}
    (ht : t = raiseAll branchIds (s.clearedUp cause status)) :
    let u := s.cleared cause status
    t = ((u.withPorts t.ports).withUplink t.uplink).withMgmt t.mgmt ∧ t.mgmt.mgmtErr = 0
      ∧ ∀ b, t.port b = { resetPort (s.port b).carrier with up := (s.port b).carrier } := by
  intro u
  have hrest : s.clearedUp cause status =
        ((u.withPorts u.ports).withUplink (s.clearedUp cause status).uplink).withMgmt (s.clearedUp cause status).mgmt
      ∧ (s.clearedUp cause status).mgmt.mgmtErr = 0 := by
    cases hc : s.uplink.carrier with
    | true => rw [clearedUp_of_carrier cause status hc]; exact ⟨rfl, rfl⟩
    | false => rw [clearedUp, hc]; exact ⟨rfl, rfl⟩
  have hraised : Raised (s.clearedUp cause status) t := ht ▸ raiseAll_raised branchIds (s.clearedUp cause status)
  have hport (b : BranchId) : (s.clearedUp cause status).port b = resetPort (s.port b).carrier := by
    rw [hrest.1, ← port_cleared cause status]
    cases b <;> rfl
  refine ⟨hraised.rest.trans (by rw [hrest.1]; rfl), hraised.mgmtErr.trans hrest.2, fun b => ?_⟩
  have hall : decide (b ∈ branchIds) = true := by cases b <;> rfl
  rw [ht, port_raiseAll, hport, hall]
  rfl

/-- The notices of the links: none without carrier on the uplink (R42, R168). -/
theorem raiseAll_clearedUp_uplink (cause : ResetCause) (status : ProfileStatus) (s : State) :
    (raiseAll branchIds (s.clearedUp cause status)).uplink =
        { carrier := s.uplink.carrier, up := s.uplink.carrier, audio := [], replies := [], notices := s.resetNotices
          tx := none }
      ∧ (s.uplink.carrier = true →
        (raiseAll branchIds (s.clearedUp cause status)).mgmt = ⟨0, 0, false⟩) := by
  cases hc : s.uplink.carrier with
  | true =>
    have huplink := (raiseAll_raised branchIds (s.clearedUp cause status)).uplink
    rw [clearedUp_of_carrier cause status hc] at huplink ⊢
    obtain ⟨hnotices, hmgmt⟩ := raiseAll_told branchIds (s := (s.cleared cause status).withUplink
        { carrier := true, up := true, audio := [], replies := [], tx := none
          notices := [⟨.link, false, none, none, some (.linkUp .uplink), 0, .closed⟩] }) rfl
      (show (BitVec.allOnes 13).getLsbD 11 = true by decide) (show 1 + 4 ≤ 32 by decide) rfl
    refine ⟨?_, fun _ => hmgmt⟩
    have hport (b : BranchId) : (((s.cleared cause status).withUplink
        { carrier := true, up := true, audio := [], replies := [], tx := none
          notices := [⟨.link, false, none, none, some (.linkUp .uplink), 0, .closed⟩] }).port b).carrier
          = (s.port b).carrier := by
      cases b <;> rfl
    simp only [hport] at hnotices
    rw [huplink, hnotices, resetNotices, if_pos hc, List.map_append, List.map_map]
    rfl
  | false =>
    rw [clearedUp, hc]
    have hdown := raiseAll_silent branchIds (s := s.cleared cause status) rfl
    refine ⟨?_, fun h => by cases h⟩
    simp only [Bool.false_eq_true, if_false]
    rw [hdown, resetNotices, hc, cleared, hc]
    rfl

/-- What either reset leaves, with the profile that the abandoned operation leaves. -/
theorem restart_afterReset (cause : ResetCause) (status : ProfileStatus) (s : State) :
    s.AfterReset (s.restart cause status) cause
      ∧ (s.restart cause status).profile = { s.abandonProfile.profile with status := status } := by
  have heq := s.abandonProfile_eq
  have hports (b : BranchId) : s.abandonProfile.port b = s.port b := by rw [heq]; cases b <;> rfl
  have hnow : s.abandonProfile.now = s.now := by rw [heq]; rfl
  have hpending : s.abandonProfile.pending = s.pending := by rw [heq]; rfl
  have hcarrier : s.abandonProfile.uplink.carrier = s.uplink.carrier := by rw [abandonProfile_uplink]
  have hnotices : s.abandonProfile.resetNotices = s.resetNotices := by
    rw [resetNotices, resetNotices, hcarrier]
    simp only [hports]
  have ht : s.restart cause status = raiseAll branchIds (s.abandonProfile.clearedUp cause status) := rfl
  obtain ⟨hrest, herr, hport⟩ := raiseAll_clearedUp cause status s.abandonProfile ht
  obtain ⟨huplink, hmgmt⟩ := raiseAll_clearedUp_uplink cause status s.abandonProfile
  rw [← ht] at huplink hmgmt
  rw [hcarrier] at huplink hmgmt
  have hseat (n : SeatNo) : (s.restart cause status).seat n = ⟨defaultSeatConfig, resetRun s.now 1800⟩ := by
    rw [hrest, ← hnow]
    exact seat_cleared cause status s.abandonProfile n
  refine ⟨?_, by rw [hrest]; rfl⟩
  exact
    { seats := fun n => by rw [hseat]; rfl
      refusal := fun n => by rw [hrest]; exact refusalOf_cleared cause status s.abandonProfile n
      classes := by rw [hrest]; rfl
      branches := by rw [hrest]; rfl
      floorCfg := by rw [hrest]; rfl
      port := fun b => by rw [hport, hports]; rfl
      uplink := by rw [huplink, hnotices]
      list := by rw [hrest]; rfl
      channel := fun c => by rw [hrest]; exact chan_cleared cause status s.abandonProfile c
      grantOrder := by rw [hrest]; rfl
      holders := by rw [hrest]; rfl
      floor := by rw [hrest]; rfl
      mgmtErr := herr
      mgmt := hmgmt
      startUp := by rw [hrest, ← hnow]; rfl
      op := by rw [hrest]; exact s.abandonProfile_op
      now := by rw [hrest]; exact hnow
      pending := by rw [hrest]; exact hpending }

/-! ### The profile that an abandoned operation leaves -/

theorem abandonProfile_status (s : State) : s.abandonProfile.profile.status = s.profile.status := by
  unfold abandonProfile
  dsimp only
  split <;> rfl

theorem abandonProfile_of_no_store {s : State} (h : ∀ k, s.profile.op ≠ some (.store k)) :
    s.abandonProfile.profile.words = s.profile.words ∧ s.abandonProfile.profile.check = s.profile.check := by
  unfold abandonProfile
  dsimp only
  split
  · exact ⟨rfl, rfl⟩
  · exact ⟨rfl, rfl⟩
  · next k hop => exact absurd hop (h k)

/-- A store that is cut off leaves its first words new and the rest old (R176). -/
theorem abandonProfile_of_store {s : State} {k : Nat} (h : s.profile.op = some (.store k)) :
    ∃ reach : Nat,
      s.abandonProfile.profile.words =
          (profileWords s.configuration).take reach ++ s.profile.words.drop (min reach 1065)
        ∧ s.abandonProfile.profile.check =
          if 1065 < reach then some (checkWord (profileWords s.configuration)) else none := by
  refine ⟨Config.storeReach s.free, ?_⟩
  have hlength := profileWords_length s.configuration
  unfold abandonProfile
  dsimp only
  split
  · next hop => rw [withUplink_profile, h] at hop; cases hop
  · next hop => rw [withUplink_profile, h] at hop; cases hop
  · rw [← hlength]
    exact ⟨rfl, rfl⟩

end State

theorem execCommandReset_of_asked {s : State}
    (h : s.startUp.reset = .due ∨ ∃ x, s.uplink.tx = some x ∧ x.resets = true) :
    execCommandReset s = .next (s.restart .command s.profile.status) := by
  refine congrArg Host.Outcome.next (if_pos ?_)
  obtain h | ⟨x, hx, hresets⟩ := h
  · simp [h]
  · simp [State.sendingReset, hx, hresets]

theorem execCommandReset_of_unasked {s : State} (h : s.startUp.reset ≠ .due)
    (hx : ∀ x, s.uplink.tx = some x → x.resets = false) : execCommandReset s = .next s := by
  refine congrArg Host.Outcome.next (if_neg ?_)
  cases htx : s.uplink.tx with
  | none => simp [State.sendingReset, htx, h]
  | some x => simp [State.sendingReset, htx, h, hx x htx]

/-- Settles O40: both resets are one sequence, the profile as the abandoned operation leaves it. -/
theorem resetsRunTheSequence : Obligations.ResetsRunTheSequence := by
  unfold Obligations.ResetsRunTheSequence
  intro s
  refine ⟨?_, fun h => ?_, execCommandReset_of_unasked⟩
  · obtain ⟨hafter, hprofile⟩ := s.restart_afterReset .power .defaulted
    refine ⟨s.restart .power .defaulted, rfl, hafter, by rw [hprofile], fun hop => ?_, fun k hop => ?_⟩
    · rw [hprofile]
      exact State.abandonProfile_of_no_store hop
    · rw [hprofile]
      exact State.abandonProfile_of_store hop
  · obtain ⟨hafter, hprofile⟩ := s.restart_afterReset .command s.profile.status
    refine ⟨_, execCommandReset_of_asked h, hafter, by rw [hprofile], fun hop => ?_⟩
    rw [hprofile]
    exact State.abandonProfile_of_no_store hop

end Sys2Proof.Machine
end

section
/-! PROOF. The elapsed second of a channel (R130 to R139), and the invariants of timers, detectors and counters. -/

namespace Sys2Proof.Machine

/-! ### The elapsed second -/

theorem warningOf_eq (t : ClassTable) (k : TurnKind) (c : SeatClass) :
    warningOf t k c =
      if timingClass k c = .observer then 0 else (t.record (timingClass k c)).warning.seconds := by
  unfold warningOf
  cases timingClass k c <;> rfl

theorem expiryOf_eq (t : ClassTable) (k : TurnKind) (c : SeatClass) :
    expiryOf t k c = if timingClass k c = .observer then .cut else (t.record (timingClass k c)).expiry := by
  unfold expiryOf
  cases timingClass k c <;> rfl

namespace State

theorem updChan_updChan (s : State) (c : ChanNo) (f g : Channel → Channel) :
    (s.updChan c f).updChan c g = s.updChan c fun k => g (f k) := by
  simp only [updChan, chan_setChan_self]
  simp [setChan]

theorem updChan_congr {s : State} {c : ChanNo} {f g : Channel → Channel} (h : f (s.chan c) = g (s.chan c)) :
    s.updChan c f = s.updChan c g := by
  rw [updChan, updChan, h]

theorem execSecondElapsed_of_passed {s : State} {c : ChanNo} {n : SeatNo} {k : TurnKind}
    (hseat : (s.chan c).seat = some n) (hkind : (s.chan c).kind = some k) (hopen : (s.chan c).state = .opened)
    (hphase : 999 ≤ (s.chan c).timer.phase) : execSecondElapsed c s = .next (s.elapse c n k) := by
  rw [execSecondElapsed, (s.secondPassed_iff c).mpr ⟨hopen, hphase⟩, hseat, hkind]

theorem execSecondElapsed_of_not_passed {s : State} {c : ChanNo}
    (h : (s.chan c).state ≠ .opened ∨ (s.chan c).timer.phase < 999) : execSecondElapsed c s = .next s := by
  have hpassed : s.secondPassed c = false := by
    rw [← Bool.not_eq_true, secondPassed_iff, not_and_or, not_le]
    exact h
  rw [execSecondElapsed, hpassed]

/-- The timer after the decrement and the warning check of an elapsed second (R132, R133, R135). -/
def countedDown (t : Timer) (w : Nat) : Timer :=
  { t with value := t.value.pred, used := bump t.used, phase := 0
           warned := t.warned || (decide (0 < w) && !t.warned && decide (t.value.pred.seconds ≤ w)) }

/-- The elapsed second of a countdown, before its expiry check: the timer, and the WARNING notice. -/
def steppedDown (s : State) (c : ChanNo) (n : SeatNo) (w : Nat) : State :=
  let s1 := s.updChan c fun y => { y with timer := countedDown (s.chan c).timer w }
  if decide (0 < w) && !(s.chan c).timer.warned && decide ((s.chan c).timer.value.pred.seconds ≤ w) then
    s1.notice .warning (some n) (some c) none
  else s1

theorem elapse_of_countdown {s : State} {c : ChanNo} (n : SeatNo) (k : TurnKind)
    (hmode : (s.chan c).timer.mode = .countdown) :
    s.elapse c n k =
      (let w := warningOf s.classes k (s.seat n).cfg.cls
       let s2 := s.steppedDown c n w
       if (s.chan c).timer.value.pred = zeroTime then
         match expiryOf s.classes k (s.seat n).cfg.cls with
         | .cut => s2.closeAndFill c n .timeUp
         | .overrun => (s2.updChan c fun y => { y with timer := { y.timer with mode := .overtime, value := zeroTime } }).notice
             .expired (some n) (some c) none
       else s2).mark n := by
  unfold elapse
  dsimp only
  split
  case h_2 h => exact absurd hmode h
  unfold countDown
  have hchan : ((s.updChan c fun x => { x with timer := { x.timer with phase := 0, used := bump x.timer.used } }).chan c) =
      { s.chan c with timer := { (s.chan c).timer with phase := 0, used := bump (s.chan c).timer.used } } := by
    simp only [updChan, chan_setChan_self]
  have hwarns (v : Mmss) (b : Bool) (f : Channel → Channel) : (s.updChan c f).warns k n b v =
      (decide (0 < warningOf s.classes k (s.seat n).cfg.cls) && !b
        && decide (v.seconds ≤ warningOf s.classes k (s.seat n).cfg.cls)) := rfl
  simp only [hchan, hwarns, updChan_updChan]
  have hclasses (w : Nat) : (s.steppedDown c n w).classes = s.classes := by
    unfold steppedDown
    dsimp only
    split
    · simp [updChan]
    · rfl
  have hseats (w : Nat) : (s.steppedDown c n w).seat n = s.seat n := by
    unfold steppedDown
    dsimp only
    split
    · simp [updChan]
    · rfl
  have hs2 : (if (decide (0 < warningOf s.classes k (s.seat n).cfg.cls) && !(s.chan c).timer.warned
        && decide ((s.chan c).timer.value.pred.seconds ≤ warningOf s.classes k (s.seat n).cfg.cls)) = true then
      (s.updChan c fun x => { x with timer := { x.timer with
        phase := 0, used := bump x.timer.used, value := (s.chan c).timer.value.pred
        warned := (s.chan c).timer.warned || (decide (0 < warningOf s.classes k (s.seat n).cfg.cls)
          && !(s.chan c).timer.warned
          && decide ((s.chan c).timer.value.pred.seconds ≤ warningOf s.classes k (s.seat n).cfg.cls)) } }).notice
            .warning (some n) (some c) none
      else s.updChan c fun x => { x with timer := { x.timer with
        phase := 0, used := bump x.timer.used, value := (s.chan c).timer.value.pred
        warned := (s.chan c).timer.warned || (decide (0 < warningOf s.classes k (s.seat n).cfg.cls)
          && !(s.chan c).timer.warned
          && decide ((s.chan c).timer.value.pred.seconds ≤ warningOf s.classes k (s.seat n).cfg.cls)) } })
      = s.steppedDown c n (warningOf s.classes k (s.seat n).cfg.cls) := rfl
  rw [hs2, hclasses, hseats] <;> rfl

/-- An elapsed second of a count-up (R134). -/
theorem elapse_of_countup {s : State} {c : ChanNo} (n : SeatNo) (k : TurnKind)
    (hmode : (s.chan c).timer.mode ≠ .countdown) :
    s.elapse c n k =
      (let s1 := s.updChan c fun y => { y with timer := { (s.chan c).timer with
        value := (s.chan c).timer.value.succ, used := bump (s.chan c).timer.used, phase := 0 } }
       if (s.chan c).timer.value.succ = (s.chan c).timer.value then s1 else s1.mark n) := by
  unfold elapse
  dsimp only
  split
  case h_1 h => exact absurd h hmode
  rw [updChan_updChan]
  rfl

theorem steppedDown_chan (s : State) (c : ChanNo) (n : SeatNo) (w : Nat) :
    (s.steppedDown c n w).chan c = { s.chan c with timer := countedDown (s.chan c).timer w } := by
  unfold steppedDown
  dsimp only
  split
  · rw [notice_chan, updChan, chan_setChan_self]
  · rw [updChan, chan_setChan_self]

end State

/-- Settles O39: the command is taken where a second has passed, and its act is one of the two closed forms. -/
theorem elapsedSecondStepsTheTimer : Obligations.ElapsedSecondStepsTheTimer := by
  unfold Obligations.ElapsedSecondStepsTheTimer
  intro c s n k hseat hkind t used x w act
  have hw : w = warningOf s.classes k (s.seat n).cfg.cls := (warningOf_eq ..).symm
  have hact : act = expiryOf s.classes k (s.seat n).cfg.cls := (expiryOf_eq ..).symm
  clear_value w act
  subst hw hact
  refine ⟨State.execSecondElapsed_of_not_passed, fun hopen hphase hmode => ?_, fun hopen hphase hmode => ?_⟩
  · intro v warn s1 s2
    have hexec : exec (.secondElapsed c) s = .next (s.elapse c n k) :=
      State.execSecondElapsed_of_passed hseat hkind hopen hphase
    rw [hexec, State.elapse_of_countdown n k hmode]
    have hs2 : s.steppedDown c n (warningOf s.classes k (s.seat n).cfg.cls) = s2 := rfl
    dsimp only
    rw [hs2]
    have hzero (hv : v = ⟨0, 0, 0, 0⟩) : (s.chan c).timer.value.pred = zeroTime := hv
    refine ⟨fun hv => ?_, fun hv hcut => by rw [if_pos (hzero hv), hcut], fun hv hover => ?_⟩
    · rw [if_neg (show ¬(s.chan c).timer.value.pred = zeroTime from hv)]
    rw [if_pos (hzero hv), hover]
    dsimp only
    have hvalue : (s2.chan c).timer.value = zeroTime := by
      rw [← hs2, State.steppedDown_chan]
      exact hv
    rw [State.updChan_congr (s := s2) (c := c) (f := fun y => { y with timer := { y.timer with mode := .overtime } })
      (g := fun y => { y with timer := { y.timer with mode := .overtime, value := zeroTime } }) (by rw [← hvalue])]
  · intro s1
    have hexec : exec (.secondElapsed c) s = .next (s.elapse c n k) :=
      State.execSecondElapsed_of_passed hseat hkind hopen hphase
    rw [hexec, State.elapse_of_countup n k hmode]
    rfl

end Sys2Proof.Machine
end

section
/-! PROOF. The invariants that a chain of acts keeps: restraint, the class table, timers and detectors, counters, the
ports and the ranges. -/

namespace Sys2Proof.Machine

open State in
/-- An abandoned profile operation leaves the ports and all that the floor keeps. -/
theorem State.abandonProfile_rest (s : State) : s.abandonProfile.port = s.port ∧ s.abandonProfile.mgmt = s.mgmt
    ∧ s.abandonProfile.list = s.list ∧ s.abandonProfile.floorCfg = s.floorCfg
    ∧ s.abandonProfile.classes = s.classes ∧ s.abandonProfile.branches = s.branches
    ∧ s.abandonProfile.seat = s.seat ∧ s.abandonProfile.chan = s.chan := by
  rw [abandonProfile_eq]
  exact ⟨funext fun b => by cases b <;> rfl, rfl, rfl, rfl, rfl, rfl, rfl, rfl⟩

/-! ### Restraint -/

/-- The list and the floor configuration record stand within their ranges and in agreement. -/
def State.RestraintKept (s : State) : Prop := s.list.Kept s.floorCfg ∧ s.floorCfg.InRange

theorem State.RestraintKept.iff (s : State) :
    s.RestraintKept ↔ (s.list.entries.map Entry.seat).Nodup ∧ s.RestraintOk ∧ s.FloorCfgOk := by
  unfold RestraintKept RequestList.Kept RestraintOk
  rw [floorCfgOk_iff]
  exact and_assoc

theorem Act.restraintKept {L : Licence} {s t : State} (h : Act L s t) (hs : s.RestraintKept) : t.RestraintKept := by
  obtain ⟨hlist, hcfg⟩ := hs
  have hsame {u : State} (hl : u.list = s.list) (hf : u.floorCfg = s.floorCfg) : u.RestraintKept := by
    unfold State.RestraintKept
    rw [hl, hf]
    exact ⟨hlist, hcfg⟩
  cases h with
  | mark | notice => exact hsame (by simp) (by simp)
  | abandon => exact hsame s.abandonProfile_rest.2.2.1 s.abandonProfile_rest.2.2.2.1
  | list l h => exact ⟨h hlist, hcfg⟩
  | floorCfg f hok hmarks =>
    refine ⟨?_, hok hcfg⟩
    unfold RequestList.Kept at hlist ⊢
    simp only [State.withFloorCfg_floorCfg, State.withFloorCfg_list]
    rw [hmarks.1, hmarks.2]
    exact hlist
  | marks f hok =>
    have hf := hok hcfg
    refine ⟨⟨hlist.1, hf.2.2.1, ?_, ?_⟩, hf⟩
    all_goals
      simp only [State.withList_list, State.withList_floorCfg, State.withFloorCfg_floorCfg, restraintAfterMarks]
      have := hf.2.2.1
    · split
      · omega
      · split
        · intro h
          cases h
        · omega
    · intro h
      rw [if_pos h]
  | channel | grantOrder | holders | floor | run | runs | refusal | port | uplink | mgmt | startUp | takeOp | profile
  | complete | seatRow | seatCfgs | classes | branches | initial => exact hsame rfl rfl

theorem Chain.restraintKept {L : Licence} {s t : State} (h : Chain L s t) (hs : s.RestraintKept) : t.RestraintKept := by
  induction h with
  | refl => exact hs
  | tail _ h ih => exact h.restraintKept ih

/-! ### Timers and detectors -/

def State.TimersKept (s : State) : Prop := s.ClassesOk ∧ ∀ c, (s.chan c).TimerOk

theorem Act.timersKept {L : Licence} (hL : ¬L.timer) {s t : State} (h : Act L s t) (hs : s.TimersKept) :
    t.TimersKept := by
  obtain ⟨hclasses, htimers⟩ := hs
  have hsame {u : State} (hc : u.classes = s.classes) (hk : ∀ c, u.chan c = s.chan c) : u.TimersKept := by
    refine ⟨?_, fun c => ?_⟩
    · unfold State.ClassesOk
      rw [hc]
      exact hclasses
    · rw [hk]
      exact htimers c
  cases h with
  | mark | notice => exact hsame (by simp) (by simp)
  | abandon => exact hsame s.abandonProfile_rest.2.2.2.2.1 (congrFun s.abandonProfile_rest.2.2.2.2.2.2.2)
  | channel c k htimer =>
    refine ⟨hclasses, fun x => ?_⟩
    rw [State.chan_setChan]
    split
    · exact htimer.resolve_left hL hclasses (htimers c)
    · exact htimers x
  | classes u hok => exact ⟨hok hclasses, htimers⟩
  | list | grantOrder | holders | floor | run | runs | refusal | port | uplink | mgmt | startUp | takeOp | profile
  | complete | seatRow | seatCfgs | branches | floorCfg | marks | initial => exact hsame rfl fun _ => rfl

theorem Chain.timersKept {L : Licence} (hL : ¬L.timer) {s t : State} (h : Chain L s t) (hs : s.TimersKept) :
    t.TimersKept := by
  induction h with
  | refl => exact hs
  | tail _ h ih => exact h.timersKept hL ih

theorem Act.detectorsOk {L : Licence} {s t : State} (h : Act L s t) (hs : ∀ c, (s.chan c).detector.InRange) (c : ChanNo) :
    (t.chan c).detector.InRange := by
  cases h with
  | mark | notice => simpa using hs c
  | abandon => rw [s.abandonProfile_rest.2.2.2.2.2.2.2]; exact hs c
  | channel x k _ hdetector =>
    rw [State.chan_setChan]
    split
    · exact hdetector (hs x)
    · exact hs c
  | list | grantOrder | holders | floor | run | runs | refusal | port | uplink | mgmt | startUp | takeOp | profile
  | complete | seatRow | seatCfgs | classes | branches | floorCfg | marks | initial => exact hs c

theorem Chain.detectorsOk {L : Licence} {s t : State} (h : Chain L s t) (hs : ∀ c, (s.chan c).detector.InRange) :
    ∀ c, (t.chan c).detector.InRange := by
  induction h with
  | refl => exact hs
  | tail _ h ih => exact h.detectorsOk ih

/-! ### Counters and budgets -/

theorem State.counters_le_iff (s : State) :
    (∀ k ∈ s.counters, k ≤ maxCount) ↔ (∀ b, (s.port b).CountsOk) ∧ s.mgmt.CountsOk := by
  simp only [State.counters, branchIds, List.flatMap_cons, List.flatMap_nil, List.append_nil, List.mem_append,
    List.mem_cons, List.not_mem_nil, or_false]
  constructor
  · intro h
    exact ⟨fun b => ⟨h _ (by cases b <;> simp), h _ (by cases b <;> simp), h _ (by cases b <;> simp),
      h _ (by cases b <;> simp)⟩, h _ (by simp), h _ (by simp)⟩
  · rintro ⟨hports, herr, hdrop⟩ k hk
    obtain ⟨a1, a2, a3, a4⟩ := hports .branchA
    obtain ⟨b1, b2, b3, b4⟩ := hports .branchB
    obtain ⟨c1, c2, c3, c4⟩ := hports .branchC
    obtain ⟨d1, d2, d3, d4⟩ := hports .branchD
    rcases hk with ((rfl | rfl | rfl | rfl) | (rfl | rfl | rfl | rfl) | (rfl | rfl | rfl | rfl) | rfl | rfl | rfl | rfl) | rfl | rfl
    all_goals assumption

/-- The counters, the budgets and the initial budgets are in range: `State.CountsOk` by port and record. -/
structure State.CountsKept (s : State) : Prop where
  ports : ∀ b, (s.port b).CountsOk
  mgmt : s.mgmt.CountsOk
  budgets : ∀ n, (s.seat n).run.budget ≤ maxCount
  initial : ∀ c, (s.classes.record c).initial ≤ maxCount

theorem State.CountsKept.iff (s : State) : s.CountsKept ↔ s.CountsOk := by
  unfold CountsOk
  rw [counters_le_iff]
  exact ⟨fun ⟨h1, h2, h3, h4⟩ => ⟨⟨h1, h2⟩, h3, h4⟩, fun ⟨⟨h1, h2⟩, h3, h4⟩ => ⟨h1, h2, h3, h4⟩⟩

theorem State.notice_countsOk (s : State) (k : NoticeKind) (n : Option SeatNo) (c : Option ChanNo) (r : Option Reason)
    (h : s.mgmt.CountsOk) : (s.notice k n c r).mgmt.CountsOk := by
  cases hk : s.notifies k with
  | false => rwa [notice_of_disabled s n c r hk]
  | true =>
    by_cases hroom : s.uplink.up = true ∧ s.uplink.notices.length < 32
    · rw [notice_of_room n c r hk hroom.1 hroom.2]
      exact h
    · rw [notice_of_no_room n c r hk (by rwa [not_and_or, Bool.not_eq_true, not_lt] at hroom)]
      exact ⟨h.1, min_le_left _ _⟩

theorem Act.countsKept {L : Licence} {s t : State} (h : Act L s t) (hs : s.CountsKept) : t.CountsKept := by
  obtain ⟨hports, hmgmt, hbudgets, hinitial⟩ := hs
  cases h with
  | mark n =>
    refine ⟨fun b => ?_, by simpa using hmgmt, fun m => by simpa using hbudgets m, by simpa using hinitial⟩
    rw [(s.mark_frame n).port b]
    exact hports b
  | notice k n c r =>
    exact ⟨fun b => by simpa using hports b, s.notice_countsOk k n c r hmgmt, fun m => by simpa using hbudgets m,
      by simpa using hinitial⟩
  | abandon =>
    obtain ⟨h1, h2, -, -, h5, -, h7, -⟩ := s.abandonProfile_rest
    exact ⟨by rw [h1]; exact hports, by rw [h2]; exact hmgmt, by rw [h7]; exact hbudgets, by rw [h5]; exact hinitial⟩
  | run n f hf =>
    refine ⟨hports, hmgmt, fun m => ?_, hinitial⟩
    rw [State.seat_updRun]
    split
    · exact (hf _).trans (hbudgets m)
    · exact hbudgets m
  | runs f hf => exact ⟨hports, hmgmt, fun m => by rw [State.seat_mapSeats, hf]; exact hbudgets m, hinitial⟩
  | port b p _ hcounts =>
    refine ⟨fun x => ?_, hmgmt, hbudgets, hinitial⟩
    rw [State.port_setPort]
    split
    · exact hcounts (hports b)
    · exact hports x
  | mgmt m hcounts => exact ⟨hports, hcounts hmgmt, hbudgets, hinitial⟩
  | seatRow n c b _ _ hb =>
    refine ⟨hports, hmgmt, fun m => ?_, hinitial⟩
    rw [State.seat_setSeat]
    split
    · obtain hb | ⟨-, hb⟩ := hb
      · exact hb.trans (hbudgets n)
      · exact hb
    · exact hbudgets m
  | seatCfgs v => exact ⟨hports, hmgmt, fun m => by rw [State.seat_replaceSeats]; exact hbudgets m, hinitial⟩
  | classes u _ hcounts => exact ⟨hports, hmgmt, hbudgets, hcounts hinitial⟩
  | branches u => exact ⟨fun b => by rw [State.prune_port]; exact hports b, hmgmt, hbudgets, hinitial⟩
  | initial => exact ⟨hports, hmgmt, fun m => by rw [State.seat_mapSeats]; exact hinitial _, hinitial⟩
  | list | channel | grantOrder | holders | floor | refusal | uplink | startUp | takeOp | profile | complete | floorCfg
  | marks => exact ⟨hports, hmgmt, hbudgets, hinitial⟩

theorem Chain.countsKept {L : Licence} {s t : State} (h : Chain L s t) (hs : s.CountsKept) : t.CountsKept := by
  induction h with
  | refl => exact hs
  | tail _ h ih => exact h.countsKept ih

/-! ### The ports -/

theorem Act.portsOk {L : Licence} {s t : State} (h : Act L s t) (hs : s.PortsOk) : t.PortsOk := by
  change ∀ b, (s.port b).Ok s.branches b at hs
  change ∀ b, (t.port b).Ok t.branches b
  intro b
  cases h with
  | mark n =>
    obtain ⟨hnodup, hseats, hprogramme, hcarrier, hdown⟩ := hs b
    rw [State.mark_port, State.mark_branches]
    refine ⟨?_, ?_, hprogramme, hcarrier, fun h => ?_⟩
    all_goals
      simp only [State.markedSet]
      split
    · next hmarks => exact List.Nodup.append hnodup (List.nodup_singleton n) (List.disjoint_singleton.mpr hmarks.2.2)
    · exact hnodup
    · next hmarks =>
      intro m hm
      rcases List.mem_append.mp hm with hm | hm
      · exact hseats m hm
      · exact List.mem_singleton.mp hm ▸ hmarks.1
    · exact hseats
    · next hmarks =>
      change (s.port b).up = false at h
      rw [hmarks.2.1] at h
      cases h
    · exact hdown h
  | notice => simpa using hs b
  | abandon =>
    obtain ⟨h1, -, -, -, -, h6, -⟩ := s.abandonProfile_rest
    rw [h1, h6]
    exact hs b
  | port x p hok =>
    rw [State.port_setPort]
    split
    · next hx => exact hx ▸ hok (hs x)
    · exact hs b
  | branches u =>
    obtain ⟨hnodup, hseats, hprogramme, hcarrier, hdown⟩ := hs b
    rw [State.prune_port]
    refine ⟨hnodup.filter _, fun m hm => ?_, hprogramme, hcarrier, fun h => ⟨?_, (hdown h).2⟩⟩
    · exact eq_of_beq (List.mem_filter.mp hm).2
    · change (s.port b).cmdSet.filter _ = []
      rw [(hdown h).1]
      rfl
  | list | channel | grantOrder | holders | floor | run | runs | refusal | uplink | mgmt | startUp | takeOp | profile
  | complete | seatRow | seatCfgs | classes | floorCfg | marks | initial => exact hs b

theorem Chain.portsOk {L : Licence} {s t : State} (h : Chain L s t) (hs : s.PortsOk) : t.PortsOk := by
  induction h with
  | refl => exact hs
  | tail _ h ih => exact h.portsOk ih

/-! ### The uplink and the place of a profile operation -/

theorem State.completeProfile_places (st : Status) (s : State) : (s.completeProfile st).uplink.profilePlaces = 0 := by
  unfold completeProfile UplinkPort.profilePlaces
  rw [withUplink_uplink, List.length_eq_zero_iff, List.filter_eq_nil_iff]
  dsimp only
  split
  · intro p hp
    obtain ⟨q, -, rfl⟩ := List.mem_map.mp hp
    cases q <;> simp [isProfilePlace]
  · intro p hp
    simpa using (List.mem_filter.mp hp).2

theorem State.completeProfile_uplinkOk (st : Status) (s : State) (h : s.uplink.Ok) : (s.completeProfile st).uplink.Ok := by
  obtain ⟨hnotices, hreplies, haudio, hcarrier, hdown⟩ := h
  refine ⟨hnotices, ?_, haudio, hcarrier, fun hup => ⟨(hdown hup).1, (hdown hup).2.1, ?_⟩⟩
  · unfold completeProfile
    rw [withUplink_uplink]
    dsimp only
    split
    · rwa [List.length_map]
    · exact (List.length_filter_le _ _).trans hreplies
  · change s.uplink.up = false at hup
    unfold completeProfile
    rw [withUplink_uplink, hup]
    have hbuilt := (hdown hup).2.2
    rw [List.any_eq_false] at hbuilt ⊢
    exact fun p hp => hbuilt p (List.mem_of_mem_filter hp)

theorem Act.uplinkOk {L : Licence} {s t : State} (h : Act L s t) (hs : s.uplink.Ok) : t.uplink.Ok := by
  cases h with
  | mark => simpa using hs
  | notice k n c r =>
    have hraised := (State.notice_raised s k n c r).uplink
    rw [hraised]
    exact ⟨State.notice_notices_length s k n c r hs.1, hs.2⟩
  | uplink u hok => exact hok hs
  | takeOp p tag _ _ hup hroom =>
    obtain ⟨hnotices, -, haudio, hcarrier, -⟩ := hs
    refine ⟨hnotices, by simpa [State.pushPlace] using hroom, haudio, hcarrier, fun hdown => ?_⟩
    change s.uplink.up = false at hdown
    rw [hup] at hdown
    cases hdown
  | abandon =>
    obtain ⟨hnotices, hreplies, haudio, hcarrier, hdown⟩ := hs
    rw [State.abandonProfile_uplink]
    refine ⟨hnotices, (List.length_filter_le _ _).trans hreplies, haudio, hcarrier, fun hup => ?_⟩
    obtain ⟨h1, h2, h3⟩ := hdown hup
    rw [List.any_eq_false] at h3
    exact ⟨h1, h2, List.any_eq_false.mpr fun p hp => h3 p (List.mem_of_mem_filter hp)⟩
  | complete st => exact s.completeProfile_uplinkOk st hs
  | list | channel | grantOrder | holders | floor | run | runs | refusal | port | mgmt | startUp | profile | seatRow
  | seatCfgs | classes | branches | floorCfg | marks | initial => exact hs

theorem Chain.uplinkOk {L : Licence} {s t : State} (h : Chain L s t) (hs : s.uplink.Ok) : t.uplink.Ok := by
  induction h with
  | refl => exact hs
  | tail _ h ih => exact h.uplinkOk ih

theorem Act.profilePlaceOk {L : Licence} (hL : ¬L.profile) {s t : State} (h : Act L s t) (hs : s.ProfilePlaceOk) :
    t.ProfilePlaceOk := by
  have hsame {u : State} (hu : u.uplink.profilePlaces = s.uplink.profilePlaces) (hp : u.profile = s.profile) :
      u.ProfilePlaceOk := by
    unfold State.ProfilePlaceOk
    rw [hp]
    exact hu.trans hs
  cases h with
  | mark => exact hsame (by simp) (by simp)
  | notice => exact hsame (by simp [UplinkPort.profilePlaces]) (by simp)
  | uplink u _ hplaces => exact hsame hplaces rfl
  | takeOp p tag hnone hsome =>
    unfold State.ProfilePlaceOk at hs ⊢
    rw [hnone] at hs
    change ((s.uplink.replies ++ [ReplyPlace.profileOp tag]).filter State.isProfilePlace).length = if p.op.isSome then 1 else 0
    rw [List.filter_append, List.length_append, hs, hsome]
    rfl
  | abandon =>
    unfold State.ProfilePlaceOk
    rw [State.abandonProfile_op, State.abandonProfile_uplink]
    simp [List.filter_filter]
  | profile p h => exact absurd h hL
  | complete st h => exact absurd h hL
  | list | channel | grantOrder | holders | floor | run | runs | refusal | port | mgmt | startUp | seatRow
  | seatCfgs | classes | branches | floorCfg | marks | initial => exact hs

theorem Chain.profilePlaceOk {L : Licence} (hL : ¬L.profile) {s t : State} (h : Chain L s t) (hs : s.ProfilePlaceOk) :
    t.ProfilePlaceOk := by
  induction h with
  | refl => exact hs
  | tail _ h ih => exact h.profilePlaceOk hL ih

/-! ### Ranges and chairs -/

/-- The seats of a class, counted with one seat apart. -/
theorem State.chairCount_eq (s : State) (n : SeatNo) :
    chairCount s = s.otherChairs n + if (s.seat n).cfg.cls = .chair then 1 else 0 := by
  have hsplit (l : List SeatNo) (hl : l.Nodup) (p : SeatNo → Bool) :
      (l.filter p).length = (l.filter fun k => k != n && p k).length + if n ∈ l ∧ p n = true then 1 else 0 := by
    induction l with
    | nil => simp
    | cons k l ih =>
      obtain ⟨hk, hl⟩ := List.nodup_cons.mp hl
      have := ih hl
      by_cases hkn : k = n
      · subst hkn
        cases hp : p k <;> simp_all
      · have hnk : ¬n = k := fun h => hkn h.symm
        cases hp : p k <;> simp_all
        omega
  rw [chairCount, otherChairs, seatsWhere_eq_filter, seatsWhere_eq_filter,
    hsplit allSeats (List.nodup_finRange 1024) fun k => (s.seat k).cfg.cls == .chair]
  simp [allSeats, List.mem_finRange]

theorem State.chairCount_congr {s t : State} (h : ∀ n, (t.seat n).cfg.cls = (s.seat n).cfg.cls) :
    chairCount t = chairCount s := by
  unfold chairCount
  rw [seatsWhere_congr (s := t) (t := s) (q := fun _ r => r.cfg.cls == .chair) fun n => by rw [h]]

/-- The branch ranges are apart and at most eight seats are CHAIR. -/
def State.RangesKept (s : State) : Prop := s.branches.Valid ∧ chairCount s ≤ 8

theorem Act.rangesKept {L : Licence} (hL : ¬L.profile) {s t : State} (h : Act L s t) (hs : s.RangesKept) :
    t.RangesKept := by
  obtain ⟨hbranches, hchairs⟩ := hs
  have hsame {u : State} (hb : u.branches = s.branches) (hc : ∀ n, (u.seat n).cfg.cls = (s.seat n).cfg.cls) :
      u.RangesKept := ⟨hb ▸ hbranches, (State.chairCount_congr hc).trans_le hchairs⟩
  cases h with
  | mark | notice => exact hsame (by simp) (by simp)
  | abandon =>
    obtain ⟨-, -, -, -, -, h6, h7, -⟩ := s.abandonProfile_rest
    exact hsame h6 fun n => by rw [h7]
  | run n f => exact hsame rfl fun m => by rw [State.seat_updRun]; split <;> rfl
  | runs f hf => exact hsame rfl fun m => by rw [State.seat_mapSeats, hf]
  | initial => exact hsame rfl fun m => by rw [State.seat_mapSeats]; rfl
  | seatRow n c b _ hchair =>
    refine ⟨hbranches, ?_⟩
    have hother : (s.setSeat n ⟨c, { (s.seat n).run with budget := b }⟩).otherChairs n = s.otherChairs n := by
      unfold State.otherChairs
      refine congrArg List.length (State.seatsWhere_congr fun k => ?_)
      rw [State.seat_setSeat]
      split
      · next hk => simp [hk]
      · rfl
    have hold := s.chairCount_eq n
    rw [State.chairCount_eq _ n, hother, State.seat_setSeat_self]
    by_cases hc : c.cls = .chair
    · rcases hchair hc with h | h
      · rw [if_pos h] at hold
        rw [if_pos hc]
        omega
      · rw [if_pos hc]
        omega
    · rw [if_neg hc]
      omega
  | seatCfgs v h => exact absurd h.2 hL
  | branches u hvalid => exact ⟨hvalid.resolve_left hL hbranches, hchairs⟩
  | list | channel | grantOrder | holders | floor | refusal | port | uplink | mgmt | startUp | takeOp | profile
  | complete | classes | floorCfg | marks => exact hsame rfl fun _ => rfl

theorem Chain.rangesKept {L : Licence} (hL : ¬L.profile) {s t : State} (h : Chain L s t) (hs : s.RangesKept) :
    t.RangesKept := by
  induction h with
  | refl => exact hs
  | tail _ h ih => exact h.rangesKept hL ih

end Sys2Proof.Machine
end

section
/-! PROOF. The after-reset values meet every invariant, and every command keeps restraint, timers, counters, the ports and
the ranges. -/

namespace Sys2Proof.Machine

namespace State.AfterReset

variable {s t : State} {cause : ResetCause}

/-! ### The invariants after a reset -/

theorem restraintKept (h : s.AfterReset t cause) : t.RestraintKept := by
  unfold RestraintKept
  rw [h.list, h.floorCfg]
  exact ⟨⟨List.nodup_nil, by decide, fun h => absurd h Bool.false_ne_true, fun h => absurd h (by decide)⟩, ⟨by decide, by decide⟩,
    ⟨by decide, by decide⟩, by decide, ⟨by decide, by decide, by decide⟩, by decide, by decide, by decide, by decide⟩

theorem busy_eq (h : s.AfterReset t cause) (c : ChanNo) : (t.chan c).busy = false := by
  rw [h.channel c]
  rfl

theorem timersKept (h : s.AfterReset t cause) : t.TimersKept := by
  refine ⟨fun c => ?_, fun c => ?_⟩
  · rw [h.classes]
    exact defaultClasses_valid c
  · rw [h.channel c]
    exact ⟨⟨by decide, by decide, by decide, by decide⟩, by decide, by decide, by decide, fun hb => by cases hb⟩

theorem detectorsOk (h : s.AfterReset t cause) (c : ChanNo) : (t.chan c).detector.InRange := by
  rw [h.channel c]
  exact ⟨by decide, by decide, by decide⟩

theorem countsKept (h : s.AfterReset t cause) (hdrop : t.mgmt.noticeDrop ≤ maxCount) : t.CountsKept where
  ports b := by
    rw [h.port b]
    exact ⟨Nat.zero_le _, Nat.zero_le _, Nat.zero_le _, Nat.zero_le _⟩
  mgmt := ⟨h.mgmtErr.trans_le (Nat.zero_le _), hdrop⟩
  budgets n := by
    rw [h.seats n]
    exact show 1800 ≤ maxCount by decide
  initial c := by
    rw [h.classes]
    exact (defaultClasses_valid c).2.2.2.2

theorem portsOk (h : s.AfterReset t cause) : t.PortsOk := by
  intro b
  rw [h.port b]
  exact ⟨List.nodup_nil, fun _ hn => absurd hn List.not_mem_nil, Nat.zero_le _, rfl, fun _ => ⟨rfl, rfl, rfl⟩⟩

theorem uplinkOk (h : s.AfterReset t cause) : t.uplink.Ok := by
  rw [h.uplink]
  refine ⟨?_, Nat.zero_le _, List.nodup_nil, rfl, fun _ => ⟨rfl, rfl, rfl⟩⟩
  change s.resetNotices.length ≤ 32
  unfold resetNotices
  split
  · have hle := List.length_filter_le (fun b => (s.port b).carrier) branchIds
    have hfour : branchIds.length = 4 := rfl
    simp only [List.length_map, List.length_append, List.length_singleton]
    omega
  · exact Nat.zero_le _

theorem profilePlaceOk (h : s.AfterReset t cause) : t.ProfilePlaceOk := by
  unfold ProfilePlaceOk
  rw [h.uplink, h.op]
  rfl

theorem chairCount_eq (h : s.AfterReset t cause) : chairCount t = 0 := by
  rw [chairCount, seatsWhere_eq_filter, List.length_eq_zero_iff, List.filter_eq_nil_iff]
  intro n _
  rw [h.seats n]
  exact Bool.false_ne_true

theorem rangesKept (h : s.AfterReset t cause) : t.RangesKept :=
  ⟨h.branches ▸ Tests.defaultBranches_valid, h.chairCount_eq.trans_le (Nat.zero_le _)⟩

/-- Every seat is IDLE and ABSENT, every channel FREE, the list and the holder set empty and the floor CLOSED. -/
theorem floorOk (h : s.AfterReset t cause) : t.FloorOk := by
  have hentries : t.list.entries = [] := by rw [h.list]
  have hno (c : ChanNo) : ¬(t.chan c).busy = true := by rw [h.busy_eq c]; exact Bool.false_ne_true
  refine ⟨⟨?_, ?_, ?_⟩, ?_, fun n => ⟨?_, fun c => ?_, ?_⟩, fun c => ⟨fun _ => ?_, fun hb => absurd hb (hno c)⟩,
    ⟨?_, fun c => ?_⟩, fun n => ⟨fun _ => ?_, ?_⟩, ⟨?_, ?_⟩, fun c hb => absurd hb (hno c),
    fun _ => ⟨hentries, fun c hb => absurd hb (hno c)⟩,
    fun _ => ⟨h.floor, hentries, h.holders, h.busy_eq⟩, fun _ n => ?_⟩
  · rw [hentries]; exact Nat.zero_le _
  · rw [hentries]; exact List.nodup_nil
  · rw [hentries]; exact List.Pairwise.nil
  · unfold EntriesOk
    rw [hentries]
    exact fun _ he => absurd he List.not_mem_nil
  · rw [h.seats n, hentries]
    simp
  · rw [h.seats n, h.busy_eq c]
    simp
  · rw [h.seats n]
    simp
  · rw [h.channel c]
    exact ⟨rfl, rfl, rfl, rfl⟩
  · rw [h.grantOrder]; exact List.nodup_nil
  · rw [h.grantOrder, h.busy_eq c]
    simp
  · rw [h.seats n, h.holders]
    simp
  · rw [h.seats n, h.refusal n]
    rfl
  · rw [h.holders]; exact List.Pairwise.nil
  · rw [h.holders]
    exact fun _ hn => absurd hn List.not_mem_nil
  · rw [h.seats n]

end State.AfterReset

/-- The power-up state is its own after-reset state. -/
theorem reset_afterReset : State.reset.AfterReset State.reset .power where
  seats n := by
    have hseat : State.reset.seat n = ⟨defaultSeatConfig, resetRun 0 1800⟩ := State.everySeat_getElem _ n
    rw [hseat]
    rfl
  refusal n := State.everySeat_getElem _ n
  classes := rfl
  branches := rfl
  floorCfg := rfl
  port b := by cases b <;> rfl
  uplink := rfl
  list := rfl
  channel c := State.everyChannel_getElem _ c
  grantOrder := rfl
  holders := rfl
  floor := rfl
  mgmtErr := rfl
  mgmt _ := rfl
  startUp := rfl
  op := rfl
  now := rfl
  pending := rfl

/-- Settles O8: the power-up state holds the after-reset values, which meet every invariant. -/
theorem resetMeetsTheInvariants : Obligations.ResetMeetsTheInvariants := by
  unfold Obligations.ResetMeetsTheInvariants
  have h := reset_afterReset
  obtain ⟨-, hrestraint, hcfg⟩ := (State.RestraintKept.iff _).mp h.restraintKept
  exact ⟨h.floorOk, hcfg, hrestraint, h.timersKept.1, h.timersKept.2, h.portsOk, h.uplinkOk, h.profilePlaceOk,
    (State.CountsKept.iff _).mp (h.countsKept (Nat.zero_le _)), h.detectorsOk, Tests.defaultBranches_valid, h.chairCount_eq⟩

/-! ### Resets among the commands -/

theorem State.raiseAll_countsOk (l : List BranchId) {s : State} (h : s.mgmt.CountsOk) :
    (raiseAll l s).mgmt.CountsOk := by
  induction l generalizing s with
  | nil => exact h
  | cons b l ih =>
    rw [raiseAll_cons]
    refine ih ?_
    split
    · exact notice_countsOk _ _ _ _ _ h
    · exact h

theorem State.restart_countsOk (cause : ResetCause) (status : ProfileStatus) (s : State) :
    (s.restart cause status).mgmt.CountsOk := by
  rw [restart_eq]
  refine raiseAll_countsOk _ ?_
  split
  · exact notice_countsOk _ _ _ _ _ ⟨Nat.zero_le _, Nat.zero_le _⟩
  · exact ⟨Nat.zero_le _, Nat.zero_le _⟩

/-- A command is a chain of acts under its licence, or a reset, which leaves the after-reset values. -/
theorem exec_chain_or_reset {i : Instr} {s t : State} (h : exec i s = .next t) :
    Chain (licence i) s t ∨ ∃ cause, s.AfterReset t cause ∧ t.mgmt.CountsOk := by
  by_cases hpower : i = .powerUpReset
  · subst hpower
    obtain rfl := Host.Outcome.next.inj h
    exact .inr ⟨_, (s.restart_afterReset _ _).1, s.restart_countsOk _ _⟩
  by_cases hcommand : i = .commandReset
  · subst hcommand
    obtain rfl := Host.Outcome.next.inj h
    split
    · exact .inr ⟨_, (s.restart_afterReset _ _).1, s.restart_countsOk _ _⟩
    · exact .inl .refl
  · exact .inl (exec_chain h hpower hcommand)

/-! ### The invariants -/

/-- Settles O3: each act keeps the list and the marks in agreement. -/
theorem restraintFollowsTheFill : Obligations.RestraintFollowsTheFill := by
  unfold Obligations.RestraintFollowsTheFill
  intro i s t hlist hcfg hrestraint h
  have hkept : t.RestraintKept := by
    obtain hchain | ⟨cause, hafter, -⟩ := exec_chain_or_reset h
    · exact hchain.restraintKept ((State.RestraintKept.iff s).mpr ⟨hlist.2.1, hrestraint, hcfg⟩)
    · exact hafter.restraintKept
  obtain ⟨-, hrestraint', hcfg'⟩ := (State.RestraintKept.iff t).mp hkept
  exact ⟨hcfg', hrestraint'⟩

/-! ### Timers over an elapsed second -/

/-- A licence for nothing beside what every command may write. -/
def noLicence : Licence := ⟨False, False, fun _ => False, False, False, False⟩

theorem succ_display (n : Nat) : (display n).succ = display (n + 1) := by
  rcases Nat.lt_trichotomy n 5999 with hlt | heq | hgt
  · have hseconds := seconds_display (show n < 6000 by omega)
    obtain ⟨hvalid, hsucc⟩ := Mmss.succ_valid_seconds (display_valid n) (by omega)
    exact Mmss.eq_of_seconds_eq hvalid (display_valid _)
      (by rw [hsucc, hseconds, seconds_display (show n + 1 < 6000 by omega)])
  · subst heq
    decide
  · rw [display_of_ge hgt, display_of_ge (show 6000 ≤ n + 1 by omega), Mmss.succ_last]

/-- A count-up that is saturated has long reached 99:59 (R130, R134). -/
theorem succ_display_bump {used a : Nat} (ha : a ≤ 5999) (hle : a ≤ used) :
    (display (used - a)).succ = display (bump used - a) := by
  rw [succ_display]
  unfold bump maxCount
  rcases Nat.lt_or_ge used 65535 with hlt | hge
  · rw [min_eq_right (by omega), Nat.sub_add_comm hle]
  · rw [min_eq_left (by omega), display_of_ge (by omega), display_of_ge (by omega)]

namespace State

variable {s : State} {c : ChanNo}

theorem timersKept_of_chan {u : State} (hs : s.TimersKept) (hclasses : u.classes = s.classes)
    (hother : ∀ x, x ≠ c → u.chan x = s.chan x) (hc : (u.chan c).TimerOk) : u.TimersKept := by
  refine ⟨fun x => hclasses ▸ hs.1 x, fun x => ?_⟩
  by_cases hx : x = c
  · exact hx ▸ hc
  · rw [hother x hx]
    exact hs.2 x

theorem steppedDown_chan_of_ne (s : State) {x c : ChanNo} (hx : x ≠ c) (n : SeatNo) (w : Nat) :
    (s.steppedDown c n w).chan x = s.chan x := by
  unfold steppedDown
  dsimp only
  split
  · rw [notice_chan, chan_updChan_of_ne s c x _ (Ne.symm hx)]
  · rw [chan_updChan_of_ne s c x _ (Ne.symm hx)]

@[simp] theorem steppedDown_classes (s : State) (c : ChanNo) (n : SeatNo) (w : Nat) :
    (s.steppedDown c n w).classes = s.classes := by
  unfold steppedDown
  dsimp only
  split
  · rw [notice_classes]
    rfl
  · rfl

/-- The fields of a countdown's timer after its step stay in their ranges. -/
theorem countedDown_inRange {k : Channel} (hk : k.TimerOk) (hbusy : k.busy = true)
    (hmode : k.timer.mode = .countdown) (w : Nat) :
    (countedDown k.timer w).value.Valid ∧ (countedDown k.timer w).allowance ≤ 5999
      ∧ (countedDown k.timer w).used ≤ maxCount ∧ (countedDown k.timer w).phase ≤ 999
      ∧ (countedDown k.timer w).value.seconds + (countedDown k.timer w).used = k.timer.allowance := by
  obtain ⟨hvalue, hallowance, hused, -, hrun⟩ := hk
  have hrunning := hrun hbusy
  rw [Timer.Running, hmode] at hrunning
  obtain ⟨hsum, hpos⟩ := hrunning
  obtain ⟨hvalid, hpred⟩ := Mmss.pred_valid_seconds hvalue hpos
  refine ⟨hvalid, hallowance, bump_le, Nat.zero_le _, ?_⟩
  change k.timer.value.pred.seconds + bump k.timer.used = k.timer.allowance
  rw [bump, maxCount, min_eq_right (by omega)]
  omega

theorem elapse_of_countdown_timersKept (hs : s.TimersKept) {n : SeatNo} {k : TurnKind} (hseat : (s.chan c).seat = some n)
    (hbusy : (s.chan c).busy = true) (hmode : (s.chan c).timer.mode = .countdown) : (s.elapse c n k).TimersKept := by
  rw [elapse_of_countdown n k hmode]
  refine Chain.timersKept (L := noLicence) id (mark_chain _ n) ?_
  dsimp only
  generalize warningOf s.classes k (s.seat n).cfg.cls = w
  obtain ⟨hvalue, hallowance, hused, hphase, hsum⟩ := countedDown_inRange (hs.2 c) hbusy hmode w
  have hchan := s.steppedDown_chan c n w
  split
  · next hzero =>
    split
    · -- the turn ends
      have hclose : (s.steppedDown c n w).canClose c n = true := by
        rw [canClose, hchan]
        exact Bool.and_eq_true_iff.mpr ⟨hbusy, beq_iff_eq.mpr hseat⟩
      rw [closeAndFill, if_pos hclose]
      refine Chain.timersKept (L := noLicence) id (fillRule_chain _) ?_
      obtain ⟨hchans, -, -⟩ := closeChannel_taken _ c n .timeUp hclose
      refine timersKept_of_chan (c := c) hs
        (((closeChannel_chain (L := noLicence) _ c n .timeUp).sameConfig id).2.1.trans (s.steppedDown_classes c n w)) (fun x hx => ?_) ?_
      · rw [hchans x, if_neg (Ne.symm hx), steppedDown_chan_of_ne s hx]
      · rw [hchans c, if_pos rfl, hchan]
        exact ⟨hvalue, hallowance, hused, hphase, fun h => by cases h⟩
    · -- the turn runs on in overtime
      refine Chain.timersKept (L := noLicence) id (notice_chain ..) ?_
      refine timersKept_of_chan (c := c) hs (s.steppedDown_classes c n w)
        (fun x hx => by rw [chan_updChan_of_ne _ c x _ (Ne.symm hx), steppedDown_chan_of_ne s hx]) ?_
      rw [updChan, chan_setChan_self, hchan]
      have hspent : (countedDown (s.chan c).timer w).value = zeroTime := hzero
      have hseconds : zeroTime.seconds = 0 := rfl
      rw [hspent, hseconds] at hsum
      refine ⟨hspent ▸ hvalue, hallowance, hused, hphase, fun _ => ⟨?_, ?_⟩⟩
      · exact (Nat.zero_add _ ▸ hsum).ge
      · change zeroTime = display ((countedDown (s.chan c).timer w).used - (s.chan c).timer.allowance)
        rw [← hsum, Nat.zero_add, Nat.sub_self]
        rfl
  · next hzero =>
    refine timersKept_of_chan (c := c) hs (s.steppedDown_classes c n w) (fun x hx => steppedDown_chan_of_ne s hx n w) ?_
    rw [hchan]
    refine ⟨hvalue, hallowance, hused, hphase, fun _ => ?_⟩
    have hrunning : (countedDown (s.chan c).timer w).mode = .countdown := hmode
    change (countedDown (s.chan c).timer w).Running
    rw [Timer.Running, hrunning]
    refine ⟨hsum, Nat.one_le_iff_ne_zero.mpr fun h => hzero ?_⟩
    exact Mmss.eq_of_seconds_eq hvalue ⟨by decide, by decide, by decide, by decide⟩ h

theorem elapse_of_countup_timersKept (hs : s.TimersKept) {n : SeatNo} {k : TurnKind}
    (hbusy : (s.chan c).busy = true) (hmode : (s.chan c).timer.mode ≠ .countdown) : (s.elapse c n k).TimersKept := by
  have hstep : (s.updChan c fun y => { y with timer := { (s.chan c).timer with
      value := (s.chan c).timer.value.succ, used := bump (s.chan c).timer.used, phase := 0 } }).TimersKept := by
    refine timersKept_of_chan (c := c) hs rfl (fun x hx => chan_updChan_of_ne _ c x _ (Ne.symm hx)) ?_
    rw [updChan, chan_setChan_self]
    obtain ⟨hvalue, hallowance, hused, -, hrun⟩ := hs.2 c
    have hrunning := hrun hbusy
    suffices h : ∃ a, a ≤ 5999 ∧ a ≤ (s.chan c).timer.used ∧ (s.chan c).timer.value = display ((s.chan c).timer.used - a)
        ∧ (∀ v u, v = display (u - a) → (s.chan c).timer.used ≤ u →
          ({ (s.chan c).timer with value := v, used := u, phase := 0 } : Timer).Running) by
      obtain ⟨a, ha, hle, hdisplay, hrun⟩ := h
      have hsucc : (s.chan c).timer.value.succ = display (bump (s.chan c).timer.used - a) := by
        rw [hdisplay, succ_display_bump ha hle]
      refine ⟨hsucc ▸ display_valid _, hallowance, bump_le, Nat.zero_le _, fun _ => hrun _ _ hsucc ?_⟩
      unfold bump
      exact le_min hused (Nat.le_succ _)
    rw [Timer.Running] at hrunning
    cases hm : (s.chan c).timer.mode with
    | countdown => exact absurd hm hmode
    | overtime =>
      rw [hm] at hrunning
      obtain ⟨hle, hdisplay⟩ := hrunning
      exact ⟨_, hallowance, hle, hdisplay, fun v u hv hu => by
        rw [Timer.Running]
        simp only [hm]
        exact ⟨hle.trans hu, hv⟩⟩
    | elapsed =>
      rw [hm] at hrunning
      obtain ⟨hzero, hdisplay⟩ := hrunning
      exact ⟨0, Nat.zero_le _, Nat.zero_le _, hdisplay, fun v u hv hu => by
        rw [Timer.Running]
        simp only [hm]
        exact ⟨hzero, hv⟩⟩
  rw [elapse_of_countup n k hmode]
  dsimp only
  split
  · exact hstep
  · exact Chain.timersKept (L := noLicence) id (mark_chain _ n) hstep

theorem execSecondElapsed_timersKept {t : State} (hs : s.TimersKept) (h : execSecondElapsed c s = .next t) :
    t.TimersKept := by
  unfold execSecondElapsed at h
  split at h
  · next n k hpassed hseat hkind =>
    obtain rfl := Host.Outcome.next.inj h
    have hbusy : (s.chan c).busy = true := by simp [Channel.busy, ((s.secondPassed_iff c).mp hpassed).1]
    by_cases hmode : (s.chan c).timer.mode = .countdown
    · exact elapse_of_countdown_timersKept hs hseat hbusy hmode
    · exact elapse_of_countup_timersKept hs hbusy hmode
  · obtain rfl := Host.Outcome.next.inj h
    exact hs

end State

/-- Settles O4: each act keeps the ranges, but for the timer of an elapsed second, which has its own closed forms. -/
theorem timersAndCountersStayInRange : Obligations.TimersAndCountersStayInRange := by
  unfold Obligations.TimersAndCountersStayInRange
  refine ⟨fun i s t hclasses htimers h => ?_, fun i s t hcounts hdetectors h => ?_⟩
  · have hs : s.TimersKept := ⟨hclasses, htimers⟩
    by_cases hi : ∃ c, i = .secondElapsed c
    · obtain ⟨c, rfl⟩ := hi
      exact State.execSecondElapsed_timersKept hs h
    · obtain hchain | ⟨cause, hafter, -⟩ := exec_chain_or_reset h
      · exact hchain.timersKept hi hs
      · exact hafter.timersKept
  · rw [← State.CountsKept.iff] at hcounts ⊢
    obtain hchain | ⟨cause, hafter, hmgmt⟩ := exec_chain_or_reset h
    · exact ⟨hchain.countsKept hcounts, hchain.detectorsOk hdetectors⟩
    · exact ⟨hafter.countsKept hmgmt.2, hafter.detectorsOk⟩

/-! ### The ports, and the place of a profile operation -/

theorem State.completeProfile_placeOk (st : Status) {s : State} (h : s.profile.op = none) :
    (s.completeProfile st).ProfilePlaceOk := by
  have hop : (s.completeProfile st).profile.op = none := h
  unfold ProfilePlaceOk
  rw [hop]
  exact s.completeProfile_places st

theorem execStoreComplete_placeOk {found : ReadBack} {s t : State} (hs : s.ProfilePlaceOk)
    (h : execStoreComplete found s = .next t) : t.ProfilePlaceOk := by
  obtain rfl := Host.Outcome.next.inj h
  split
  · exact State.completeProfile_placeOk _ rfl
  · exact hs

/-- A licence for the configuration. -/
def configLicence : Licence := ⟨False, True, fun _ => False, False, False, False⟩

/-- The replacement of the configuration leaves the profile store and the reply places as they were. -/
theorem State.replaceConfiguration_controlStands (s : State) (p : Profile) :
    State.ControlStands s (s.replaceConfiguration p.recalled) :=
  (s.replaceConfiguration_chain_loaded (L := configLicence) trivial p.recalled_floorCfg_inRange).controlStands id id

theorem execRecallComplete_placeOk {s t : State} (hs : s.ProfilePlaceOk) (h : execRecallComplete s = .next t) :
    t.ProfilePlaceOk := by
  obtain rfl := Host.Outcome.next.inj h
  split
  · unfold State.finishRecall
    dsimp only
    split
    · refine State.completeProfile_placeOk _ ?_
      rw [(State.replaceConfiguration_controlStands _ s.profile).2.2]
      rfl
    · exact State.completeProfile_placeOk _ rfl
  · exact hs

theorem execStartUpRecallComplete_placeOk {s t : State} (hs : s.ProfilePlaceOk)
    (h : execStartUpRecallComplete s = .next t) : t.ProfilePlaceOk := by
  obtain rfl := Host.Outcome.next.inj h
  split
  · unfold State.startUpRecall
    dsimp only
    have hreplace := State.replaceConfiguration_controlStands
      (s.withProfile { s.profile with status := s.profile.recalledStatus }) s.profile
    have hbudgets := (State.initialBudgets_chain (L := ⟨False, False, fun _ => True, False, False, False⟩)
      ((s.withProfile { s.profile with status := s.profile.recalledStatus }).replaceConfiguration s.profile.recalled)
      fun _ => trivial).controlStands id id
    obtain ⟨huplink, -, hprofile⟩ := hreplace.trans hbudgets
    unfold State.ProfilePlaceOk
    rw [State.withStartUp_uplink, State.withStartUp_profile, huplink, hprofile]
    exact hs
  · exact hs

/-- Settles O5: each act keeps the ports and the queues, and the end of a profile operation frees its place. -/
theorem portsAndQueuesStayBounded : Obligations.PortsAndQueuesStayBounded := by
  unfold Obligations.PortsAndQueuesStayBounded
  intro i s t hports huplink hplace h
  obtain hchain | ⟨cause, hafter, -⟩ := exec_chain_or_reset h
  · refine ⟨hchain.portsOk hports, hchain.uplinkOk huplink, ?_⟩
    cases hi : endsProfileOp i with
    | false => exact hchain.profilePlaceOk (by simp [licence, hi]) hplace
    | true =>
      cases i with
      | storeComplete found => exact execStoreComplete_placeOk hplace h
      | recallComplete => exact execRecallComplete_placeOk hplace h
      | startUpRecallComplete => exact execStartUpRecallComplete_placeOk hplace h
      | _ => cases hi
  · exact ⟨hafter.portsOk, hafter.uplinkOk, hafter.profilePlaceOk⟩

/-! ### The ranges -/

/-- A recall loads ranges and chairs of the profile, and its other consequences keep them. -/
theorem State.replaceConfiguration_rangesKept (s : State) (p : Profile) (hbranches : p.recalled.branches.Valid)
    (hchairs : (p.recalled.seats.toList.filter fun c => c.cls == .chair).length ≤ 8) :
    (s.replaceConfiguration p.recalled).RangesKept := by
  refine (s.replaceConfiguration_chain_loaded (L := configLicence) trivial p.recalled_floorCfg_inRange).rangesKept id
    ⟨hbranches, ?_⟩
  have hseats : p.recalled.seats.toList = allSeats.map fun n => p.recalled.seats[n] := by
    have hlength : allSeats.length = 1024 := List.length_finRange
    refine List.ext_getElem (by rw [Vector.length_toList, List.length_map, hlength]) fun i h1 h2 => ?_
    rw [List.getElem_map]
    simp only [allSeats, List.getElem_finRange, Vector.getElem_toList]
    rfl
  rw [hseats, List.filter_map, List.length_map] at hchairs
  rw [chairCount, seatsWhere_eq_filter]
  refine le_of_eq_of_le (congrArg List.length (List.filter_congr fun n _ => ?_)) hchairs
  exact congrArg (fun c : SeatConfig => c.cls == .chair) (congrArg SeatRecord.cfg (s.seat_replaceSeats p.recalled.seats n))

theorem State.completeProfile_rangesKept (st : Status) {s : State} (h : s.RangesKept) :
    (s.completeProfile st).RangesKept := h

theorem State.withStartUp_rangesKept (u : StartUp) {s : State} (h : s.RangesKept) : (s.withStartUp u).RangesKept := h

/-- Settles O7: each act keeps the ranges and the count of the chairs, but for a recall, which loads those of the
profile. -/
theorem rangesAndChairsStayLegal : Obligations.RangesAndChairsStayLegal := by
  unfold Obligations.RangesAndChairsStayLegal
  intro i s t hbranches hchairs hpbranches hpchairs h
  change t.RangesKept
  have hs : s.RangesKept := ⟨hbranches, hchairs⟩
  obtain hchain | ⟨cause, hafter, -⟩ := exec_chain_or_reset h
  · cases hi : endsProfileOp i with
    | false => exact hchain.rangesKept (by simp [licence, hi]) hs
    | true =>
      cases i with
      | storeComplete found =>
        obtain rfl := Host.Outcome.next.inj h
        split
        · exact hs
        · exact hs
      | recallComplete =>
        obtain rfl := Host.Outcome.next.inj h
        split
        · unfold State.finishRecall
          dsimp only
          split
          · exact State.completeProfile_rangesKept _
              (State.replaceConfiguration_rangesKept _ s.profile hpbranches hpchairs)
          · exact hs
        · exact hs
      | startUpRecallComplete =>
        obtain rfl := Host.Outcome.next.inj h
        split
        · unfold State.startUpRecall
          dsimp only
          have hbudgets (u : State) := u.initialBudgets_chain (L := ⟨False, False, fun _ => True, False, False, False⟩)
            fun _ => trivial
          exact State.withStartUp_rangesKept _ <| (hbudgets _).rangesKept id (State.replaceConfiguration_rangesKept _ s.profile hpbranches hpchairs)
        · exact hs
      | _ => cases hi
  · exact hafter.rangesKept

end Sys2Proof.Machine
end

section
/-! PROOF. The idle step: one millisecond, the phases it advances, and the events that have then fallen due. -/

namespace Sys2Proof.Machine

namespace State

/-! ### The seats an event is due for -/

theorem zip_allSeats {α : Type} (v : Vector α 1024) :
    List.zip allSeats v.toList = allSeats.map fun n : SeatNo => (n, v[n]) := by
  have hlength : allSeats.length = 1024 := List.length_finRange
  refine List.ext_getElem (by rw [List.length_zip, List.length_map, hlength, Vector.length_toList, min_self])
    fun i h1 h2 => ?_
  rw [List.getElem_zip, List.getElem_map]
  simp only [allSeats, List.getElem_finRange, Vector.getElem_toList]
  rfl

theorem filterMap_ite_some {α : Type} (p : α → Bool) (l : List α) :
    (l.filterMap fun x => if p x then some x else none) = l.filter p := by
  induction l with
  | nil => rfl
  | cons x l ih => cases h : p x <;> simp [h, ih]

theorem refusalDue_eq_filter (s : State) : s.refusalDue = allSeats.filter s.refusalExpired := by
  unfold refusalDue
  rw [zip_allSeats, List.filterMap_map, ← filterMap_ite_some]
  refine List.filterMap_congr fun n _ => ?_
  simp only [Function.comp, refusalExpired, refusalOf]
  split <;> simp_all

theorem allSeats_sorted : allSeats.Pairwise (· < ·) := List.pairwise_lt_finRange 1024

theorem seatsWhere_sorted (s : State) (p : SeatNo → SeatRecord → Bool) : (s.seatsWhere p).Pairwise (· < ·) := by
  rw [seatsWhere_eq_filter]
  exact allSeats_sorted.filter _

theorem refusalDue_sorted (s : State) : s.refusalDue.Pairwise (· < ·) := by
  rw [refusalDue_eq_filter]
  exact allSeats_sorted.filter _

theorem secondsDue_sorted (s : State) : s.secondsDue.Pairwise (· < ·) :=
  (List.pairwise_lt_finRange 16).filter _

theorem mem_secondsDue {s : State} {c : ChanNo} :
    c ∈ s.secondsDue ↔ (s.chan c).state = .opened ∧ 999 ≤ (s.chan c).timer.phase := by
  rw [secondsDue, List.mem_filter, secondPassed_iff]
  exact and_iff_right (List.mem_finRange c)

theorem mem_presenceDue {s : State} {n : SeatNo} :
    n ∈ s.presenceDue ↔
      (s.seat n).run.present = true ∧ s.floorCfg.presenceMs ≤ s.now - (s.seat n).run.lastHeard := by
  rw [presenceDue, mem_seatsWhere, Bool.and_eq_true, decide_eq_true_iff]

theorem mem_refusalDue {s : State} {n : SeatNo} :
    n ∈ s.refusalDue ↔ ∃ k, s.refusalOf n = some k ∧ k + 2000 ≤ s.now := by
  rw [refusalDue_eq_filter, List.mem_filter, refusalExpired_iff]
  exact and_iff_right (List.mem_finRange n)

theorem mem_refreshDue {s : State} {n : SeatNo} :
    n ∈ s.refreshDue ↔ (s.seat n).run.present = true ∧ 5000 ≤ s.now - (s.seat n).run.lastCommand
      ∧ ∃ b, s.branches.branchOf n = some b ∧ (s.port b).up = true ∧ n ∉ (s.port b).cmdSet := by
  rw [refreshDue, mem_seatsWhere, Bool.and_eq_true, Bool.and_eq_true, decide_eq_true_iff, and_assoc]
  refine and_congr_right fun _ => and_congr_right fun _ => ?_
  cases hb : s.branches.branchOf n with
  | none => simp
  | some b => simp

/-! ### What each transmitter has to start -/

/-- The command a free branch transmitter waits for. -/
def branchDue (s : State) (b : BranchId) : List Instr :=
  if s.startsProgramme b then [.programmeTransmit b] else if s.startsCommand b then [.seatCommand b] else []

/-- The command the free uplink transmitter waits for. -/
def uplinkDue (s : State) : List Instr :=
  if s.startsAudio then [.channelAudioTransmit] else if s.startsReply then [.replyTransmit]
  else if s.startsNotice then [.noticeTransmit] else []

theorem branchDue_eq (s : State) (b : BranchId) :
    s.branchDue b =
      if (s.port b).up = false ∨ (s.port b).tx ≠ none then []
      else if (s.port b).programme ≠ [] then [.programmeTransmit b]
      else if (s.port b).cmdSet ≠ [] then [.seatCommand b] else [] := by
  unfold branchDue startsProgramme startsCommand branchFree
  cases (s.port b).up <;> cases (s.port b).tx <;> cases (s.port b).programme <;> cases (s.port b).cmdSet <;> simp

theorem uplinkDue_eq {s : State} (h : s.startUp.reset ≠ .due) :
    s.uplinkDue =
      if s.uplink.up = false ∨ s.uplink.tx ≠ none then []
      else if s.uplink.audio ≠ [] then [.channelAudioTransmit]
      else match s.uplink.replies with
        | .built _ :: _ => [.replyTransmit]
        | _ => if s.uplink.notices ≠ [] then [.noticeTransmit] else [] := by
  have hreset : (s.startUp.reset != .due) = true := bne_iff_ne.mpr h
  unfold uplinkDue startsAudio startsReply startsNotice uplinkFree readyReply
  rw [hreset]
  cases s.uplink.up <;> cases s.uplink.tx <;> cases s.uplink.audio <;> try simp
  rcases s.uplink.replies with _ | ⟨_ | _ | _, _⟩ <;> cases s.uplink.notices <;> simp

theorem transmitDue_eq (s : State) :
    s.transmitDue = s.branchDue .branchA ++ s.branchDue .branchB ++ s.branchDue .branchC ++ s.branchDue .branchD
      ++ s.uplinkDue := by
  unfold transmitDue
  simp only [branchIds, List.flatMap_cons, List.flatMap_nil, List.append_nil, List.append_assoc]
  rfl

/-! ### The millisecond -/

/-- The state one millisecond later, before the events that have fallen due wait. -/
def later (s : State) : State := (s.withNow (s.now + 1)).advancePhases

theorem tick_eq (s : State) : s.tick = s.later.withPending (s.pending ++ s.later.dueEvents s.secondsDue) := rfl

theorem chan_later (s : State) (c : ChanNo) :
    s.later.chan c = if (s.chan c).state = .opened then
        { s.chan c with timer := { (s.chan c).timer with phase := min 999 ((s.chan c).timer.phase + 1) } }
      else s.chan c := by
  have hphases : s.later.chan c = advancePhase (s.chan c) := by simp [chan, later, advancePhases]
  exact hphases

end State

/-- Settles O2: the time base and the phases advance, and each kind of due event is the list of its seats, channels or
ports. -/
theorem idleStepPassesOneMillisecond : Obligations.IdleStepPassesOneMillisecond := by
  unfold Obligations.IdleStepPassesOneMillisecond
  intro s hidle
  have hstep : Machine.step s = .next s.tick := by
    unfold Machine.step
    rw [hidle]
  have hpending : s.tick.pending = s.later.dueEvents s.secondsDue := by
    rw [State.tick_eq, hidle, List.nil_append]
    rfl
  refine ⟨s.tick, hstep, rfl, s.chan_later, rfl, fun hdue => ?_, fun hdue => ?_⟩
  · rw [hpending]
    exact if_pos hdue
  · refine ⟨s.secondsDue, s.later.presenceDue, s.later.refusalDue, s.later.refreshDue, ?_, s.secondsDue_sorted,
      State.seatsWhere_sorted _ _, State.refusalDue_sorted _, State.seatsWhere_sorted _ _,
      fun c => State.mem_secondsDue, fun n => State.mem_presenceDue, fun n => State.mem_refusalDue,
      fun n => State.mem_refreshDue⟩
    rw [hpending, State.dueEvents, if_neg (by exact hdue), State.transmitDue_eq]
    simp only [State.branchDue_eq]
    rw [State.uplinkDue_eq (by exact hdue)]
    rfl

end Sys2Proof.Machine
end

section
/-! PROOF. Links and transmitters: what a DOWN uplink discards, and what each transmitter starts. -/

namespace Sys2Proof.Machine

namespace State

variable {s : State}

/-! ### The uplink goes DOWN -/

/-- A LINK notice with the uplink DOWN is counted where its kind is enabled (R24, R168). -/
theorem linkNotice_of_down (h : s.uplink.up = false) (r : Option Reason) :
    s.notice .link none none r = s.withMgmt (if s.floorCfg.enables.getLsbD 11 then
      { s.mgmt with noticeDrop := min 65535 (s.mgmt.noticeDrop + 1), gap := true } else s.mgmt) := by
  split
  · next hkind => exact notice_of_no_room none none r hkind (.inl h)
  · next hkind => exact notice_of_disabled s none none r (eq_false_of_ne_true hkind)

theorem resetReplyWaits_iff :
    s.resetReplyWaits = true ↔
      (∃ r : Reply, r.resets = true ∧ .built r ∈ s.uplink.replies) ∨ ∃ x, s.uplink.tx = some x ∧ x.resets = true := by
  have hqueue : s.uplink.replies.any isResetReply = true ↔ ∃ r : Reply, r.resets = true ∧ .built r ∈ s.uplink.replies := by
    rw [List.any_eq_true]
    constructor
    · rintro ⟨p, hp, hreset⟩
      cases p with
      | built r => exact ⟨r, hreset, hp⟩
      | profileOp tag => cases hreset
      | unanswered => cases hreset
    · rintro ⟨r, hreset, hr⟩
      exact ⟨_, hr, hreset⟩
  have htx : (s.uplink.tx.map UplinkTx.resets).getD false = true ↔ ∃ x, s.uplink.tx = some x ∧ x.resets = true := by
    cases s.uplink.tx <;> simp
  rw [resetReplyWaits, Bool.or_eq_true, hqueue, htx]

/-! ### What a transmitter chooses -/

theorem branchFree_iff {b : BranchId} : s.branchFree b = true ↔ (s.port b).up = true ∧ (s.port b).tx = none := by
  rw [branchFree, Bool.and_eq_true, Option.isNone_iff_eq_none]

theorem uplinkFree_iff :
    s.uplinkFree = true ↔ s.uplink.up = true ∧ s.uplink.tx = none ∧ s.startUp.reset ≠ .due := by
  rw [uplinkFree, Bool.and_eq_true, Bool.and_eq_true, Option.isNone_iff_eq_none, bne_iff_ne, and_assoc]

theorem branch_silent {b : BranchId} (h : (s.port b).up = false ∨ (s.port b).tx ≠ none) :
    s.startsProgramme b = false ∧ s.startsCommand b = false := by
  have hfree : s.branchFree b = false := by
    rw [← Bool.not_eq_true, branchFree_iff]
    rintro ⟨hup, htx⟩
    rcases h with h | h
    · rw [hup] at h
      cases h
    · exact h htx
  simp only [startsProgramme, startsCommand, hfree, Bool.false_and, and_self]

theorem startProgramme_of_cons {b : BranchId} {f : Frame} {l : List Frame} (h : (s.port b).programme = f :: l) :
    s.startProgramme b = s.updPort b fun p => { p with programme := l, tx := some f } := by
  rw [startProgramme, h]

theorem startCommand_of_cons {b : BranchId} {n : SeatNo} {l : List SeatNo} (h : (s.port b).cmdSet = n :: l) :
    s.startCommand b = (s.updPort b fun p => { p with cmdSet := l, tx := some (seatCommandFrame n (s.seatShow n)) }).updRun n
      fun r => { r with lastCommand := s.now } := by
  rw [startCommand, h]

theorem readyReply_of_cons {r : Reply} {l : List ReplyPlace} (h : s.uplink.replies = .built r :: l) :
    s.readyReply = some r := by
  simp [readyReply, h]

theorem readyReply_eq_none (h : ∀ r : Reply, s.uplink.replies.head? ≠ some (.built r)) : s.readyReply = none := by
  unfold readyReply
  split
  · next hr => exact absurd hr (h _)
  · rfl

end State

/-- Settles O35: each of the five ports with carrier coming or going, by whether its link is UP. -/
theorem linksFollowTheirCarriers : Obligations.LinksFollowTheirCarriers := by
  unfold Obligations.LinksFollowTheirCarriers
  refine ⟨fun b s => ⟨s.execBranchLinkUp_of_down, s.execBranchLinkUp_of_up, s.execBranchLinkDown_of_up,
    s.execBranchLinkDown_of_down⟩, fun s => ⟨s.execUplinkUp_of_down, s.execUplinkUp_of_up, s.execUplinkDown_of_down,
    fun hup => ?_⟩⟩
  have hstart : (if s.resetReplyWaits then s.resetDue else s) =
      s.withStartUp (if s.resetReplyWaits then { s.startUp with reset := .due } else s.startUp) := by split <;> rfl
  have hreplies : (s.uplink.replies.filter fun p => !State.isBuilt p) =
      s.uplink.replies.filter fun p => match p with | .built _ => false | _ => true := by
    refine List.filter_congr fun p _ => ?_
    cases p <;> rfl
  refine ⟨_, s.execUplinkDown_of_up hup, ?_⟩
  rw [State.linkNotice_of_down (by rfl), hstart, hreplies]
  refine ⟨rfl, rfl, fun hreset => ?_, fun hqueue htx => ?_, rfl⟩
  · exact if_pos (State.resetReplyWaits_iff.2 hreset)
  · refine if_neg ?_
    rw [State.resetReplyWaits_iff]
    rintro (⟨r, hr, hmem⟩ | ⟨x, hx, hr⟩)
    · rw [hqueue r hmem] at hr
      cases hr
    · rw [htx x hx] at hr
      cases hr

/-- Settles O36: by what waits at the transmitter that is free. -/
theorem transmittersSendInTheirOrder : Obligations.TransmittersSendInTheirOrder := by
  unfold Obligations.TransmittersSendInTheirOrder
  have hchosen {p : Bool} {s t u : State} (hp : p = true) (ht : t = u) :
      (.next (if p then t else s) : Out) = .next u := by rw [if_pos hp, ht]
  have hunchosen {p : Bool} {s t : State} (hp : p = false) : (.next (if p then t else s) : Out) = .next s := by
    rw [hp]
    rfl
  refine ⟨fun b s => ⟨fun hup htx => ⟨fun f l hprogramme => ?_, fun n l hprogramme hset => ?_⟩, fun h => ?_, rfl⟩,
    fun s => ⟨fun hup htx hreset => ⟨fun x l haudio => ?_, fun r l haudio hreplies => ?_,
      fun x l haudio hreplies hnotices => ?_⟩, fun x hx => ?_⟩⟩
  · have hfree : s.branchFree b = true := State.branchFree_iff.2 ⟨hup, htx⟩
    exact ⟨hchosen (by simp [State.startsProgramme, hfree, hprogramme]) (State.startProgramme_of_cons hprogramme),
      hunchosen (by simp [State.startsCommand, hprogramme])⟩
  · have hfree : s.branchFree b = true := State.branchFree_iff.2 ⟨hup, htx⟩
    exact ⟨hchosen (by simp [State.startsCommand, hfree, hprogramme, hset]) (State.startCommand_of_cons hset),
      hunchosen (by simp [State.startsProgramme, hprogramme])⟩
  · obtain ⟨hprogramme, hcommand⟩ := State.branch_silent h
    exact ⟨hunchosen hprogramme, hunchosen hcommand⟩
  · have hfree : s.uplinkFree = true := State.uplinkFree_iff.2 ⟨hup, htx, hreset⟩
    refine ⟨hchosen (by simp [State.startsAudio, hfree, haudio]) ?_, hunchosen (by simp [State.startsReply, haudio]),
      hunchosen (by simp [State.startsNotice, haudio])⟩
    rw [State.startAudio, haudio]
  · have hfree : s.uplinkFree = true := State.uplinkFree_iff.2 ⟨hup, htx, hreset⟩
    have hready := State.readyReply_of_cons hreplies
    refine ⟨hchosen (by simp [State.startsReply, hfree, haudio, hready]) ?_,
      hunchosen (by simp [State.startsNotice, hready])⟩
    rw [State.startReply, hready, hreplies]
    rfl
  · have hfree : s.uplinkFree = true := State.uplinkFree_iff.2 ⟨hup, htx, hreset⟩
    have hready := State.readyReply_eq_none hreplies
    refine ⟨hchosen (by simp [State.startsNotice, hfree, haudio, hready, hnotices]) ?_,
      hunchosen (by simp [State.startsReply, hready])⟩
    rw [State.startNotice, hnotices]
  · change (.next s.completeUplink : Out) = _
    rw [State.completeUplink, hx]
    rfl

end Sys2Proof.Machine
end

section
/-! PROOF. What the acts of a report and the absence cascade leave outside the floor. -/

namespace Sys2Proof.Machine

namespace State

/-! ### Outside the floor -/

/-- What no act of a report and no absence cascade changes: the time base, the configuration but for the seats, the
floor state, the links with their waiting frames but for command sets and notices, the profile and start-up. -/
structure OuterFrame (s t : State) : Prop where
  now : t.now = s.now
  classes : t.classes = s.classes
  branches : t.branches = s.branches
  floorCfg : t.floorCfg = s.floorCfg
  floor : t.floor = s.floor
  port : ∀ b : BranchId, t.port b = { s.port b with cmdSet := (t.port b).cmdSet }
  uplink : t.uplink = { s.uplink with notices := t.uplink.notices }
  mgmtErr : t.mgmt.mgmtErr = s.mgmt.mgmtErr
  profile : t.profile = s.profile
  startUp : t.startUp = s.startUp
  free : t.free = s.free
  pending : t.pending = s.pending

variable {s t u : State}

theorem OuterFrame.refl (s : State) : OuterFrame s s :=
  ⟨rfl, rfl, rfl, rfl, rfl, fun _ => rfl, rfl, rfl, rfl, rfl, rfl, rfl⟩

theorem OuterFrame.trans (h : OuterFrame s t) (g : OuterFrame t u) : OuterFrame s u where
  now := g.now.trans h.now
  classes := g.classes.trans h.classes
  branches := g.branches.trans h.branches
  floorCfg := g.floorCfg.trans h.floorCfg
  floor := g.floor.trans h.floor
  port b := by rw [g.port b, h.port b]
  uplink := by rw [g.uplink, h.uplink]
  mgmtErr := g.mgmtErr.trans h.mgmtErr
  profile := g.profile.trans h.profile
  startUp := g.startUp.trans h.startUp
  free := g.free.trans h.free
  pending := g.pending.trans h.pending

theorem OuterFrame.foldl {α : Type} (f : State → α → State) (h : ∀ s x, OuterFrame s (f s x)) (l : List α) (s : State) :
    OuterFrame s (l.foldl f s) := by
  induction l generalizing s with
  | nil => exact .refl s
  | cons x l ih => exact (h s x).trans (ih _)

theorem FloorFrame.outer (h : FloorFrame s t) (hcfg : t.floorCfg = s.floorCfg) (hfloor : t.floor = s.floor)
    (hreplies : t.uplink.replies = s.uplink.replies) : OuterFrame s t where
  now := h.now
  classes := h.classes
  branches := h.branches
  floorCfg := hcfg
  floor := hfloor
  port := h.port
  uplink := by rw [h.uplink, hreplies]
  mgmtErr := h.mgmtErr
  profile := h.profile
  startUp := h.startUp
  free := h.free
  pending := h.pending

theorem GrantFrame.outer (h : GrantFrame s t) : OuterFrame s t := h.frame.outer h.floorCfg h.floor h.replies

theorem HoldFrame.outer (h : HoldFrame s t) : OuterFrame s t := h.frame.outer h.floorCfg h.floor h.replies

theorem updRun_outer (s : State) (n : SeatNo) (f : SeatRun → SeatRun) : OuterFrame s (s.updRun n f) :=
  ⟨rfl, rfl, rfl, rfl, rfl, fun _ => rfl, rfl, rfl, rfl, rfl, rfl, rfl⟩

theorem setRefusal_outer (s : State) (n : SeatNo) (x : Option Nat) : OuterFrame s (s.setRefusal n x) :=
  ⟨rfl, rfl, rfl, rfl, rfl, fun _ => rfl, rfl, rfl, rfl, rfl, rfl, rfl⟩

/-! ### The acts of a report -/

/-- What a press act leaves: besides the outer frame, of each seat everything but its floor state, its channel, its
budget and its refusal display. -/
structure KeyFrame (s t : State) : Prop extends OuterFrame s t where
  seat : ∀ n : SeatNo, t.seat n = ⟨(s.seat n).cfg, { (s.seat n).run with
    floor := (t.seat n).run.floor, chan := (t.seat n).run.chan, budget := (t.seat n).run.budget
    refusalShown := (t.seat n).run.refusalShown }⟩

theorem KeyFrame.refl (s : State) : KeyFrame s s := ⟨.refl s, fun _ => rfl⟩

theorem KeyFrame.trans (h : KeyFrame s t) (g : KeyFrame t u) : KeyFrame s u where
  toOuterFrame := h.toOuterFrame.trans g.toOuterFrame
  seat n := by rw [g.seat n, h.seat n]

theorem GrantFrame.key (h : GrantFrame s t) : KeyFrame s t := ⟨h.outer, fun n => by rw [h.frame.seat n]⟩

theorem HoldFrame.key (h : HoldFrame s t) : KeyFrame s t := ⟨h.outer, fun n => by rw [h.frame.seat n]⟩

theorem KeyFrame.opt {p : Prop} [Decidable p] (ht : KeyFrame s t) (hu : KeyFrame s u) :
    KeyFrame s (if p then t else u) := by
  split
  · exact ht
  · exact hu

variable (s)

/-- A change of a refusal display and its timer (R58, R59). -/
theorem setDisplay_keyFrame (n : SeatNo) (v : Bool) (x : Option Nat) :
    KeyFrame s ((s.updRun n fun r => { r with refusalShown := v }).setRefusal n x) where
  toOuterFrame := (s.updRun_outer n _).trans (setRefusal_outer _ n x)
  seat n' := by
    rw [setRefusal_seat, seat_updRun]
    split <;> rfl

theorem refuse_keyFrame (n : SeatNo) (r : Reason) : KeyFrame s (s.refuse n r) :=
  (s.setDisplay_keyFrame n true _).trans ((mark_grantFrame _ n).trans (notice_grantFrame ..)).key

theorem endDisplay_keyFrame (n : SeatNo) : KeyFrame s (s.endDisplay n) :=
  .opt ((s.setDisplay_keyFrame n false none).trans (mark_grantFrame _ n).key) (.refl s)

theorem newRequest_keyFrame (n : SeatNo) (k : RequestKind) (claimed : Level) : KeyFrame s (s.newRequest n k claimed) := by
  unfold newRequest
  dsimp only
  split
  · exact s.refuse_keyFrame n _
  · exact ((s.insertEntry_grantFrame _).trans ((notice_grantFrame ..).trans (handOn_grantFrame ..))).key

theorem upgrade_keyFrame (n : SeatNo) (claimed : Level) : KeyFrame s (s.upgrade n claimed) := by
  unfold upgrade
  refine .opt (s.refuse_keyFrame n _) (GrantFrame.key ?_)
  exact (s.withList_grantFrame _).trans ((reposition_grantFrame _ n).trans
    ((refreshExhausted_grantFrame _ n).trans ((notice_grantFrame ..).trans (handOn_grantFrame ..))))

theorem key1Act_keyFrame (n : SeatNo) (claimed : Level) : KeyFrame s (s.key1Act n claimed) := by
  unfold key1Act
  dsimp only
  split
  · exact .opt (.opt (s.refuse_keyFrame n _) (s.chairGrant_grantFrame n _).key) (s.newRequest_keyFrame n _ _)
  · exact (s.removeEntry_grantFrame n _).key
  · exact .opt (s.closeSeat_grantFrame n _).key (.refl s)

theorem key2Act_keyFrame (n : SeatNo) (claimed : Level) : KeyFrame s (s.key2Act n claimed) := by
  unfold key2Act
  split
  · exact s.key1Act_keyFrame n claimed
  · split
    · exact s.newRequest_keyFrame n _ _
    · split
      · exact s.upgrade_keyFrame n claimed
      · exact (s.removeEntry_grantFrame n _).key
      · exact .refl s
    · exact .refl s

theorem priorityKey_keyFrame (n : SeatNo) (down wasDown : Bool) : KeyFrame s (s.priorityKey n down wasDown) := by
  unfold priorityKey
  have hgrant : KeyFrame s (if (s.seat n).run.floor = .speaking then s else s.chairGrant n true) :=
    .opt (.refl s) (s.chairGrant_grantFrame n _).key
  exact .opt (.opt (.refl s) (.opt (.opt (.refl s) (s.refuse_keyFrame n _))
    (hgrant.trans (joinHolders_holdFrame _ n).key))) (s.leaveHolders_holdFrame n).key

theorem chairNext_keyFrame (n : SeatNo) : KeyFrame s (s.chairNext n) :=
  .opt (s.refuse_keyFrame n _) s.next_grantFrame.key

theorem takeActs_keyFrame (n : SeatNo) (r : Report) (d1 d2 d3 : BitVec 4) (was : Bool) :
    KeyFrame s (s.takeActs n r d1 d2 d3 was) := by
  have hmark (u : State) (b : Bool) : KeyFrame u (if b then u.mark n else u) := .opt (mark_grantFrame u n).key (.refl u)
  have hkey1 (u : State) (b : Bool) : KeyFrame u (if b then (u.endDisplay n).key1Act n r.claimed else u) :=
    .opt ((u.endDisplay_keyFrame n).trans (key1Act_keyFrame ..)) (.refl u)
  have hkey2 (u : State) (b : Bool) : KeyFrame u (if (s.seat n).cfg.cls = .chair then u.priorityKey n r.down2 was
      else if b then (u.endDisplay n).key2Act n r.claimed else u) :=
    .opt (u.priorityKey_keyFrame n _ _) (.opt ((u.endDisplay_keyFrame n).trans (key2Act_keyFrame ..)) (.refl u))
  have hkey3 (u : State) (b : Bool) : KeyFrame u (if b then (u.endDisplay n).chairNext n else u) :=
    .opt ((u.endDisplay_keyFrame n).trans (chairNext_keyFrame ..)) (.refl u)
  exact .trans (.trans (.trans (hmark s _) (hkey1 _ _)) (hkey2 _ _)) (hkey3 _ _)

end State

/-! ### The absence cascade -/

/-- The record of a seat that is ABSENT: nothing of its unit is shown (R17). -/
def SeatRun.gone (r : SeatRun) : SeatRun :=
  { r with present := false, unitKind := none, mismatch := false, down1 := false, down2 := false, down3 := false
           refusalShown := false }

namespace State

/-- What the absence cascade leaves: the outer frame, and each seat but for its floor state, channel and budget, with
the seats of the group gone. -/
structure CascadeFrame (group : List SeatNo) (s t : State) : Prop extends OuterFrame s t where
  seat : ∀ n : SeatNo, t.seat n = ⟨(s.seat n).cfg, { (if n ∈ group then (s.seat n).run.gone else (s.seat n).run) with
    floor := (t.seat n).run.floor, chan := (t.seat n).run.chan, budget := (t.seat n).run.budget }⟩
  refusalOf : ∀ n : SeatNo, t.refusalOf n = if n ∈ group then none else s.refusalOf n

variable {s t u : State}

theorem CascadeFrame.refl (s : State) : CascadeFrame [] s s := ⟨.refl s, fun _ => rfl, fun _ => rfl⟩

theorem CascadeFrame.trans {l m : List SeatNo} (h : CascadeFrame l s t) (g : CascadeFrame m t u) :
    CascadeFrame (l ++ m) s u where
  toOuterFrame := h.toOuterFrame.trans g.toOuterFrame
  seat n := by
    rw [g.seat n, h.seat n]
    by_cases hl : n ∈ l <;> by_cases hm : n ∈ m <;> simp [hl, hm, SeatRun.gone]
  refusalOf n := by
    rw [g.refusalOf n, h.refusalOf n]
    by_cases hl : n ∈ l <;> by_cases hm : n ∈ m <;> simp [hl, hm]

theorem GrantFrame.cascade (h : GrantFrame s t) : CascadeFrame [] s t where
  toOuterFrame := h.outer
  seat n := by rw [h.frame.seat n, if_neg List.not_mem_nil]
  refusalOf n := by rw [if_neg List.not_mem_nil, refusalOf, h.frame.refusal, refusalOf]

theorem goAbsent_frame (s : State) (n : SeatNo) : CascadeFrame [n] s (s.goAbsent n) where
  toOuterFrame := (s.updRun_outer n _).trans ((setRefusal_outer _ n none).trans
    ((leaveHolders_holdFrame _ n).outer.trans (removeEntry_grantFrame _ n _).outer))
  seat m := by
    rw [goAbsent_seat]
    by_cases hm : n = m
    · subst hm
      simp [SeatRun.gone]
    · simp [hm, Ne.symm hm]
  refusalOf m := by
    have hsame : (s.goAbsent n).refusalOf m = ((s.updRun n SeatRun.gone).setRefusal n none).refusalOf m := by
      unfold goAbsent
      simp only [refusalOf, (removeEntry_grantFrame _ _ _).frame.refusal, (leaveHolders_holdFrame _ _).frame.refusal]
      rfl
    rw [hsame, refusalOf_setRefusal]
    by_cases hm : n = m
    · simp [hm]
    · rw [if_neg hm, if_neg (by simpa using Ne.symm hm)]
      rfl

theorem foldl_goAbsent_frame (group : List SeatNo) (s : State) :
    CascadeFrame group s (group.foldl (fun s n => s.goAbsent n) s) := by
  induction group generalizing s with
  | nil => exact .refl s
  | cons n l ih => exact (s.goAbsent_frame n).trans (ih _)

/-- What the acts after the first pass leave. -/
theorem cascade_grantFrame (s : State) (group : List SeatNo) :
    GrantFrame (group.foldl (fun s n => s.goAbsent n) s) (s.cascade group) :=
  .trans (.trans (GrantFrame.foldl _ (fun t m => closeSeat_grantFrame t m _) _ _)
    (GrantFrame.foldl _ (fun t _ => notice_grantFrame t _ _ _ _) _ _)) (markAll_grantFrame _ _)

theorem cascade_frame (s : State) (group : List SeatNo) : CascadeFrame group s (s.cascade group) := by
  have h := (foldl_goAbsent_frame group s).trans (s.cascade_grantFrame group).cascade
  rwa [List.append_nil] at h

end State
end Sys2Proof.Machine
end

section
/-! PROOF. Seat reports: how a report reaches its acts, and what each key does by the seat's floor state. -/

namespace Sys2Proof.Machine

namespace State

variable {s : State} {b : BranchId} {f : Frame} {n : SeatNo} {r : Report}

/-! ### From the port to the acts -/

theorem Hears.inBranch (h : Hears s b f n r) : s.inBranch b r.seat = some n := by
  simp [State.inBranch, h.seat, h.range]

theorem Hears.inspect (h : Hears s b f n r) : s.inspect b f = .report n r := by
  simp [State.inspect, sortFrame, h.sound, h.kind, h.length, h.fields, h.inBranch]

theorem Hears.exec (h : Hears s b f n r) : exec (.seatReport b f) s = .next (s.takeReport n r) := by
  rw [exec_branch_frame s (.inl rfl)]
  simp [arrive, h.up, h.enabled, h.inspect]

theorem recordReport_eq (s : State) (n : SeatNo) (r : Report) : s.recordReport n r = s.recorded n r := by
  unfold recordReport recorded
  cases r.unit <;> rfl

theorem endDisplay_eq (s : State) (n : SeatNo) : s.endDisplay n = s.undisplayed n := rfl

theorem refuse_eq (s : State) (n : SeatNo) (q : Reason) : s.refuse n q = s.refused n q := rfl

theorem recorded_seat (s : State) (n : SeatNo) (r : Report) : (s.recorded n r).seat n = ⟨(s.seat n).cfg,
    { (s.seat n).run with
      present := true, lastHeard := s.now, unitKind := some r.unit, mismatch := ((s.recorded n r).seat n).run.mismatch
      ref1 := r.count1, ref2 := r.count2, ref3 := r.count3, down1 := r.down1, down2 := r.down2, down3 := r.down3 }⟩ := by
  rw [recorded, seat_updRun_self]

theorem recorded_cfg (s : State) (n m : SeatNo) (r : Report) : ((s.recorded n r).seat m).cfg = (s.seat m).cfg :=
  cfg_updRun s n m _

theorem isCancelled_iff (d : BitVec 4) : isCancelled d = true ↔ d ≠ 0 ∧ d.getLsbD 0 = false := by
  rw [isCancelled, Bool.and_eq_true, Bool.not_eq_true', bne_iff_ne, and_comm]

theorem takeReport_of_ordinary (hstart : s.startUp.state ≠ .recalling) (hpresent : (s.seat n).run.present = true)
    (hattach : r.attach = false) : s.takeReport n r = s.ordinaryReport n r := by
  unfold takeReport
  rw [if_neg hstart, if_neg (by simp [hpresent]), if_neg (by simp [hattach])]

/-- An ordinary report in READY is recorded, and its acts follow in their order (R14, R47). -/
theorem ordinaryReport_of_ready (hready : s.startUp.state = .ready) :
    s.ordinaryReport n r = (s.recorded n r).takeActs n r (r.count1 - (s.seat n).run.ref1)
      (r.count2 - (s.seat n).run.ref2) (r.count3 - (s.seat n).run.ref3) (s.seat n).run.down2 := by
  rw [← recordReport_eq]
  exact if_pos hready

theorem HearsOrdinary.exec (h : HearsOrdinary s b f n r) :
    exec (.seatReport b f) s = .next ((s.recorded n r).takeActs n r (r.count1 - (s.seat n).run.ref1)
      (r.count2 - (s.seat n).run.ref2) (r.count3 - (s.seat n).run.ref3) (s.seat n).run.down2) := by
  rw [h.toHears.exec, takeReport_of_ordinary (by simp [h.ready]) h.present h.noAttach, ordinaryReport_of_ready h.ready]

/-! ### A report that makes its seat PRESENT -/

/-- Becoming PRESENT (R13): the record, the KEY2 level of a CHAIR seat, the mark and the notice. -/
theorem becomePresent_eq (s : State) (n : SeatNo) (r : Report) :
    s.becomePresent n r =
      (((if (s.seat n).cfg.cls = .chair ∧ s.startUp.state ≠ .rollCall then (s.recorded n r).priorityKey n r.down2 false
        else s.recorded n r).mark n).notice .seatPresent (some n) none none) := by
  unfold becomePresent
  rw [recordReport_eq]
  dsimp only
  rw [recorded_cfg, show (s.recorded n r).startUp = s.startUp from rfl]
  simp only [Bool.and_eq_true, decide_eq_true_iff, bne_iff_ne]

/-- A report of an ABSENT seat, or one that attaches again, makes its seat PRESENT outside RECALLING (R13, R15). -/
theorem takeReport_of_arrival (hstart : s.startUp.state ≠ .recalling)
    (h : (s.seat n).run.present = false ∨ r.attach = true) :
    s.takeReport n r = (if (s.seat n).run.present then s.cascade [n] else s).becomePresent n r := by
  unfold takeReport
  rw [if_neg hstart]
  cases hpresent : (s.seat n).run.present with
  | false => rfl
  | true =>
    have hattach : r.attach = true := h.resolve_left (by simp [hpresent])
    simp [hattach]

/-! ### The acts of one report, one key at a time -/

/-- The KEY1 press of a report that has one, once the display has ended (R47, R48, R59). -/
theorem takeActs_key1 {d1 d2 d3 : BitVec 4} {was : Bool} (h1 : d1.getLsbD 0 = true) (h2 : d2 = 0) (h3 : d3 = 0)
    (hkeys : (s.seat n).cfg.cls = .chair → ((s.undisplayed n).key1Act n r.claimed).priorityKey n r.down2 was =
      (s.undisplayed n).key1Act n r.claimed) :
    s.takeActs n r d1 d2 d3 was = (s.undisplayed n).key1Act n r.claimed := by
  subst h2 h3
  have hnone : isCancelled d1 = false := by rw [isCancelled, h1]; rfl
  have hpress : isPress (0 : BitVec 4) = false := rfl
  have hcancel : isCancelled (0 : BitVec 4) = false := rfl
  have hodd : isPress d1 = true := h1
  unfold takeActs
  simp only [hnone, hcancel, hpress, hodd, endDisplay_eq, Bool.or_self, Bool.false_and, if_true,
    Bool.false_eq_true, if_false]
  split
  · next hchair => exact hkeys hchair
  · rfl

/-- The KEY2 press of a seat that is not CHAIR (R47, R49). -/
theorem takeActs_key2 {d1 d2 d3 : BitVec 4} {was : Bool} (h1 : d1 = 0) (h2 : d2.getLsbD 0 = true) (h3 : d3 = 0)
    (hcls : (s.seat n).cfg.cls ≠ .chair) :
    s.takeActs n r d1 d2 d3 was = (s.undisplayed n).key2Act n r.claimed := by
  subst h1 h3
  have hnone : isCancelled d2 = false := by rw [isCancelled, h2]; rfl
  have hpress : isPress (0 : BitVec 4) = false := rfl
  have hcancel : isCancelled (0 : BitVec 4) = false := rfl
  have hodd : isPress d2 = true := h2
  unfold takeActs
  simp only [hnone, hcancel, hpress, hodd, endDisplay_eq, Bool.or_self, if_true, hcls,
    Bool.false_eq_true, if_false, decide_false, Bool.and_false]

/-- The KEY2 level of a CHAIR seat, and its KEY3 press (R47, R50, R51). -/
theorem takeActs_chair {d1 d2 d3 : BitVec 4} {was : Bool} (h1 : d1 = 0) (h2 : isCancelled d2 = false)
    (h3 : isCancelled d3 = false) (hcls : (s.seat n).cfg.cls = .chair) :
    s.takeActs n r d1 d2 d3 was =
      if d3.getLsbD 0 then ((s.priorityKey n r.down2 was).undisplayed n).chairNext n
      else s.priorityKey n r.down2 was := by
  subst h1
  have hpress : isPress (0 : BitVec 4) = false := rfl
  have hcancel : isCancelled (0 : BitVec 4) = false := rfl
  unfold takeActs
  simp only [h2, h3, hcancel, hpress, endDisplay_eq, Bool.or_self, if_true, hcls,
    Bool.false_eq_true, if_false, decide_true, Bool.and_true]
  rfl

/-- A KEY2 level that agrees with the holder set changes nothing (R50). -/
theorem priorityKey_of_agreeing (was : Bool) (h : r.down2 = decide (n ∈ s.holders)) :
    s.priorityKey n r.down2 was = s := by
  unfold priorityKey leaveHolders
  rw [h]
  by_cases hmem : n ∈ s.holders <;> simp [hmem]

/-! ### What a record or a display leaves for the checks -/

/-- What a recorded report whose display has ended leaves for the acts: all but what the record and the display hold. -/
structure SameForActs (n : SeatNo) (s t : State) : Prop where
  list : t.list = s.list
  holders : t.holders = s.holders
  floor : t.floor = s.floor
  classes : t.classes = s.classes
  cfg : ∀ m, (t.seat m).cfg = (s.seat m).cfg
  seatFloor : (t.seat n).run.floor = (s.seat n).run.floor
  chan : (t.seat n).run.chan = (s.seat n).run.chan
  budget : ∀ m, (t.seat m).run.budget = (s.seat m).run.budget

theorem recorded_sameForActs (s : State) (n : SeatNo) (r : Report) : SameForActs n s (s.recorded n r) where
  list := rfl
  holders := rfl
  floor := rfl
  classes := rfl
  cfg m := s.recorded_cfg n m r
  seatFloor := by rw [recorded_seat]
  chan := by rw [recorded_seat]
  budget m := by
    rw [recorded, seat_updRun]
    split <;> rfl

theorem undisplayed_sameForActs (s : State) (n : SeatNo) (r : Report) :
    SameForActs n s ((s.recorded n r).undisplayed n) := by
  have h := s.recorded_sameForActs n r
  unfold undisplayed
  split
  · constructor
    · simp [h.list]
    · simp [h.holders]
    · simp [h.floor]
    · simp [h.classes]
    · intro m
      simp [h.cfg]
    · simp [h.seatFloor]
    · simp [h.chan]
    · intro m
      rw [mark_seat, setRefusal_seat, seat_updRun]
      split <;> exact h.budget m
  · exact h

theorem SameForActs.admissionRefusal {t : State} (h : SameForActs n s t) (l : Level) :
    t.admissionRefusal n l = s.admissionRefusal n l := by
  unfold State.admissionRefusal fill
  rw [h.floor, h.cfg, h.list]

theorem SameForActs.entryOf {t : State} (h : SameForActs n s t) (m : SeatNo) : t.entryOf m = s.entryOf m := by
  simp only [State.entryOf, h.list]

/-- A new request, by the refusal of its checks (R53, R54). -/
theorem newRequest_eq (s : State) (n : SeatNo) (k : RequestKind) (claimed : Level) :
    s.newRequest n k claimed =
      match s.admissionRefusal n (max claimed ((s.seat n).cfg.entitled k)) with
      | some q => s.refused n q
      | none => s.admitted n k claimed ((s.seat n).cfg.entitled k) := rfl

theorem newRequest_of_refusal {k : RequestKind} {claimed : Level} {q : Reason}
    (h : s.admissionRefusal n (max claimed ((s.seat n).cfg.entitled k)) = some q) :
    s.newRequest n k claimed = s.refused n q := by
  rw [newRequest_eq, h]

theorem newRequest_of_none {k : RequestKind} {claimed : Level}
    (h : s.admissionRefusal n (max claimed ((s.seat n).cfg.entitled k)) = none) :
    s.newRequest n k claimed = s.admitted n k claimed ((s.seat n).cfg.entitled k) := by
  rw [newRequest_eq, h]


/-! ### The KEY1 press act by the floor state -/

theorem key1Act_of_idle (claimed : Level) (hidle : (s.seat n).run.floor = .idle) (hcls : (s.seat n).cfg.cls ≠ .chair) :
    s.key1Act n claimed = s.newRequest n .speak claimed := by
  unfold key1Act
  simp only [hidle, if_neg hcls]

theorem key1Act_of_chair (claimed : Level) (hidle : (s.seat n).run.floor = .idle) (hcls : (s.seat n).cfg.cls = .chair) :
    s.key1Act n claimed = if (s.seat n).cfg.barred then s.refused n .barred else s.chairGrant n false := by
  unfold key1Act
  simp only [hidle, if_pos hcls, refuse_eq]

theorem key1Act_of_waiting (claimed : Level) (hwaiting : (s.seat n).run.floor = .waiting) :
    s.key1Act n claimed = s.removeEntry n .withdrawn := by
  unfold key1Act
  simp only [hwaiting]

theorem key1Act_of_speaking (claimed : Level) {c : ChanNo} (hspeaking : (s.seat n).run.floor = .speaking)
    (hc : (s.seat n).run.chan = some c) :
    s.key1Act n claimed = if (s.seat n).cfg.keyClose then s.closeAndFill c n .seatClosed else s := by
  unfold key1Act closeSeat
  simp only [hspeaking, hc]

theorem key1Act_holders (s : State) (n : SeatNo) (claimed : Level) (h : (s.seat n).cfg.cls = .chair) :
    (s.key1Act n claimed).holders = s.holders := by
  unfold key1Act
  dsimp only
  split
  · rw [if_pos h]
    split
    · simp [refuse]
    · exact (s.chairGrant_grantFrame n _).holders
  · exact (s.removeEntry_grantFrame n _).holders
  · split
    · exact (s.closeSeat_grantFrame n _).holders
    · rfl

/-- A KEY1 press act, or the KEY2 press act of a seat without an order level, of an ordinary report (R47 to R49). -/
theorem HearsOrdinary.exec_key1 (h : HearsOrdinary s b f n r) (h3 : r.count3 = (s.seat n).run.ref3)
    (hkey : ((r.count1 - (s.seat n).run.ref1).getLsbD 0 = true ∧ r.count2 = (s.seat n).run.ref2)
      ∨ (r.count1 = (s.seat n).run.ref1 ∧ (r.count2 - (s.seat n).run.ref2).getLsbD 0 = true
        ∧ (s.seat n).cfg.cls ≠ .chair ∧ (s.seat n).cfg.order = none))
    (hlevel : (s.seat n).cfg.cls = .chair → r.down2 = decide (n ∈ s.holders)) :
    Machine.exec (.seatReport b f) s = .next (((s.recorded n r).undisplayed n).key1Act n r.claimed) := by
  rw [h.exec]
  have hd3 : r.count3 - (s.seat n).run.ref3 = 0 := sub_eq_zero_of_eq h3
  have hsame := s.undisplayed_sameForActs n r
  obtain ⟨h1, h2⟩ | ⟨h1, h2, hcls, horder⟩ := hkey
  · rw [takeActs_key1 h1 (sub_eq_zero_of_eq h2) hd3]
    intro hchair
    rw [recorded_cfg] at hchair
    refine priorityKey_of_agreeing _ ?_
    rw [key1Act_holders _ _ _ (by rwa [hsame.cfg]), hsame.holders]
    exact hlevel hchair
  · rw [takeActs_key2 (sub_eq_zero_of_eq h1) h2 hd3 (by rwa [recorded_cfg]), key2Act, hsame.cfg, horder]

end State

/-- Settles O30: by the floor state of the seat, where the report has reached the KEY1 press act. -/
theorem firstKeyFollowsTheFloorState : Obligations.FirstKeyFollowsTheFloorState := by
  unfold Obligations.FirstKeyFollowsTheFloorState
  intro b f s n r h h3 hkey hlevel s1 speak
  have hsame : State.SameForActs n s s1 := s.undisplayed_sameForActs n r
  have hexec : Machine.exec (.seatReport b f) s = .next (s1.key1Act n r.claimed) := h.exec_key1 h3 hkey hlevel
  have hcfg : (s1.seat n).cfg = (s.seat n).cfg := hsame.cfg n
  rw [hexec]
  clear_value s1
  refine ⟨fun hidle hcls => ?_, fun hidle hchair => ?_, fun hwaiting => ?_, fun c hspeaking hc => ?_⟩
  · have hentitled : (s1.seat n).cfg.entitled .speak = speak := by rw [hcfg]; rfl
    rw [State.key1Act_of_idle _ (by rw [hsame.seatFloor, hidle]) (by rwa [hcfg])]
    refine ⟨fun q hq => ?_, fun hnone => ?_⟩
    · rw [State.newRequest_of_refusal (by rw [hentitled, hsame.admissionRefusal]; exact hq)]
    · rw [State.newRequest_of_none (by rw [hentitled, hsame.admissionRefusal]; exact hnone), hentitled]
  · rw [State.key1Act_of_chair _ (by rw [hsame.seatFloor, hidle]) (by rwa [hcfg]), hcfg]
  · rw [State.key1Act_of_waiting _ (by rw [hsame.seatFloor, hwaiting])]
  · rw [State.key1Act_of_speaking _ (by rw [hsame.seatFloor, hspeaking]) (by rw [hsame.chan, hc]), hcfg]

end Sys2Proof.Machine
end

section
/-! PROOF. An entry changed in its place or moved by R65: the upgrade of a SPEAK entry, and the keys of a seat with an
order level and of a CHAIR seat. -/

namespace Sys2Proof.Machine

namespace State

/-! ### Positions and marks under a change of the list -/

theorem positionIn_congr {l l' : List Entry} (h : l.map Entry.seat = l'.map Entry.seat) (n : SeatNo) :
    positionIn l n = positionIn l' n := by
  have hfind (l : List Entry) : (l.findIdx? fun e => e.seat == n) = (l.map Entry.seat).findIdx? (· == n) := by
    rw [List.findIdx?_map]
    rfl
  unfold positionIn
  rw [hfind, hfind, h]

variable {s : State} {n : SeatNo}

theorem mark_withList (s : State) (l : RequestList) (n : SeatNo) : (s.withList l).mark n = (s.mark n).withList l := by
  unfold mark
  rw [withList_branches]
  cases s.branches.branchOf n with
  | none => rfl
  | some b =>
    dsimp only
    rw [withList_port]
    split <;> rfl

theorem markAll_withList (l : RequestList) (ns : List SeatNo) (s : State) :
    (s.withList l).markAll ns = (s.markAll ns).withList l := by
  induction ns generalizing s with
  | nil => rfl
  | cons n ns ih =>
    rw [markAll, List.foldl_cons, mark_withList]
    exact ih _

/-- A later write of the list that keeps its seats leaves the same marks (R69). -/
theorem markMoved_withList (s : State) {l : RequestList} {before before' : List Entry}
    (hbefore : before.map Entry.seat = before'.map Entry.seat)
    (hnow : s.list.entries.map Entry.seat = l.entries.map Entry.seat) :
    (s.markMoved before).withList l = (s.withList l).markMoved before' := by
  unfold markMoved
  rw [markAll_withList, withList_list, hnow]
  congr 2
  refine List.filter_congr fun m _ => ?_
  rw [positionIn_congr hbefore, positionIn_congr hnow]

theorem markMoved_congr {before before' : List Entry} (hbefore : before.map Entry.seat = before'.map Entry.seat) :
    s.markMoved before = s.markMoved before' := by
  have h := s.markMoved_withList (l := s.list) hbefore rfl
  rwa [show (s.markMoved before).withList s.list = s.markMoved before by rw [← markMoved_list s before]; rfl] at h

theorem without_replaceEntry (l : List Entry) (n : SeatNo) {f : Entry → Entry} (hf : ∀ e, (f e).seat = e.seat) :
    without (replaceEntry l n f) n = without l n := by
  unfold without replaceEntry
  induction l with
  | nil => rfl
  | cons x l ih =>
    by_cases hx : x.seat = n
    · simp [hx, hf, ih]
    · simp [hx, ih]

theorem placeEntry_map_seat {e e' : Entry} (hseat : e.seat = e'.seat) (heffective : e.effective = e'.effective)
    (l : List Entry) : (placeEntry e l).map Entry.seat = (placeEntry e' l).map Entry.seat := by
  induction l with
  | nil => simp [placeEntry, hseat]
  | cons x l ih =>
    unfold placeEntry
    rw [heffective]
    split
    · simp [ih]
    · simp [hseat]

/-- A change of the placed entry that keeps its level is a placing of the changed entry. -/
theorem replaceEntry_placeEntry {e : Entry} {l : List Entry} {g : Entry → Entry} (hseat : e.seat = n)
    (hothers : ∀ x ∈ l, x.seat ≠ n) (hlevel : (g e).effective = e.effective) :
    replaceEntry (placeEntry e l) n g = placeEntry (g e) l := by
  have hid : replaceEntry l n g = l := by
    refine (List.map_congr_left fun x hx => ?_).trans (List.map_id l)
    exact if_neg (hothers x hx)
  induction l with
  | nil => simp [replaceEntry, placeEntry, hseat]
  | cons x l ih =>
    have hx : x.seat ≠ n := hothers x List.mem_cons_self
    have hidl : replaceEntry l n g = l := by
      rw [replaceEntry, List.map_cons] at hid
      exact (List.cons.inj hid).2
    unfold placeEntry
    rw [hlevel]
    split
    · rw [← ih (fun y hy => hothers y (List.mem_cons_of_mem _ hy)) hidl]
      simp [replaceEntry, hx]
    · rw [replaceEntry, List.map_cons, if_pos hseat]
      exact congrArg _ hid

theorem seat_ne_of_mem_without {l : List Entry} {x : Entry} (h : x ∈ without l n) : x.seat ≠ n := by
  have := (List.mem_filter.1 h).2
  simpa using this

/-- The entry that `find?` meets for the seat of a changed entry. -/
theorem find_replaceEntry {l : List Entry} {e : Entry} {f : Entry → Entry} (hf : ∀ e, (f e).seat = e.seat)
    (h : (l.find? fun x => x.seat == n) = some e) : ((replaceEntry l n f).find? fun x => x.seat == n) = some (f e) := by
  induction l with
  | nil => cases h
  | cons x l ih =>
    by_cases hx : x.seat = n
    · rw [List.find?_cons_of_pos (by simpa using hx)] at h
      obtain rfl := Option.some.inj h
      simp [replaceEntry, hx, hf]
    · rw [List.find?_cons_of_neg (by simpa using hx)] at h
      simpa [replaceEntry, hx] using ih h

/-- An entry changed in its place, moved to the place its level has, and its EXHAUSTED flag refreshed: one placing of
the entry so changed, and the marks of R69. -/
theorem refresh_reposition_replace {e : Entry} {f : Entry → Entry} (hf : ∀ e, (f e).seat = e.seat)
    (he : s.entryOf n = some e) :
    (((s.withList { s.list with entries := replaceEntry s.list.entries n f }).reposition n).refreshExhausted n) =
      (s.withList { s.list with
        entries := placeEntry { f e with exhausted := s.isExhausted n } (without s.list.entries n) }).markMoved
          s.list.entries := by
  have hen : e.seat = n := by simpa using List.find?_some he
  have hentry : (s.withList { s.list with entries := replaceEntry s.list.entries n f }).entryOf n = some (f e) :=
    find_replaceEntry hf he
  unfold reposition
  rw [hentry]
  dsimp only
  rw [withList_list, without_replaceEntry _ _ hf]
  unfold refreshExhausted
  rw [markMoved_withList (before' := s.list.entries) _ (replaceEntry_seats _ _ _ hf)]
  · rw [markMoved_list, withList_list, replaceEntry_placeEntry (by rw [hf, hen]) (fun x => seat_ne_of_mem_without) rfl]
    congr 1
    have hexhausted : (markMoved (replaceEntry s.list.entries n f)
        ((s.withList { s.list with entries := replaceEntry s.list.entries n f }).withList
          { s.list with entries := placeEntry (f e) (without s.list.entries n) })).isExhausted n = s.isExhausted n := by
      simp only [isExhausted, applies, markMoved_seat, markMoved_classes]
      rfl
    simp only at hexhausted ⊢
    rw [hexhausted]
    rfl
  · rw [markMoved_list, withList_list]
    refine (replaceEntry_seats _ _ _ ?_).symm
    exact fun _ => rfl

/-! ### The KEY2 press act by the entry -/

/-- An upgrade that is made (R56): the entry as it is then, at its place, its notice, and the entry handed on. -/
theorem upgrade_of_entry {e : Entry} (claimed : Level) (he : s.entryOf n = some e) (hbarred : (s.seat n).cfg.barred = false) :
    s.upgrade n claimed =
      let entitled := (s.seat n).cfg.entitled .order
      ((((s.withList { s.list with
        entries := placeEntry { e with
          kind := .order, claimed := claimed, effective := effectiveLevel claimed entitled
          clamped := isClamped claimed entitled, upgraded := true, exhausted := s.isExhausted n }
            (without s.list.entries n) }).markMoved s.list.entries).notice .listed (some n) none none).handOn n) := by
  unfold upgrade
  rw [if_neg (by simp [hbarred])]
  exact congrArg (fun u : State => (u.notice .listed (some n) none none).handOn n)
    (refresh_reposition_replace (fun _ => rfl) he)

theorem upgrade_of_barred (claimed : Level) (hbarred : (s.seat n).cfg.barred = true) :
    s.upgrade n claimed = s.refused n .barred := if_pos hbarred

theorem key2Act_of_idle {o : Level} (claimed : Level) (horder : (s.seat n).cfg.order = some o)
    (hidle : (s.seat n).run.floor = .idle) : s.key2Act n claimed = s.newRequest n .order claimed := by
  unfold key2Act
  simp only [horder, hidle]

theorem key2Act_of_speaking {o : Level} (claimed : Level) (horder : (s.seat n).cfg.order = some o)
    (hspeaking : (s.seat n).run.floor = .speaking) : s.key2Act n claimed = s := by
  unfold key2Act
  simp only [horder, hspeaking]

theorem key2Act_of_entry {o : Level} {e : Entry} (claimed : Level) (horder : (s.seat n).cfg.order = some o)
    (hwaiting : (s.seat n).run.floor = .waiting) (he : s.entryOf n = some e) :
    s.key2Act n claimed = match e.kind with
      | .speak => s.upgrade n claimed
      | .order => s.removeEntry n .withdrawn := by
  unfold key2Act
  simp only [horder, hwaiting, he, Option.map_some]
  cases e.kind <;> rfl

theorem SameForActs.isExhausted {t : State} (h : SameForActs n s t) (m : SeatNo) :
    t.isExhausted m = s.isExhausted m := by
  simp only [State.isExhausted, applies, h.classes, h.cfg, h.budget]

theorem HearsOrdinary.exec_key2 {b : BranchId} {f : Frame} {r : Report} (h : HearsOrdinary s b f n r)
    (hcls : (s.seat n).cfg.cls ≠ .chair) (h1 : r.count1 = (s.seat n).run.ref1) (h3 : r.count3 = (s.seat n).run.ref3)
    (h2 : (r.count2 - (s.seat n).run.ref2).getLsbD 0 = true) :
    Machine.exec (.seatReport b f) s = .next (((s.recorded n r).undisplayed n).key2Act n r.claimed) := by
  rw [h.exec, takeActs_key2 (sub_eq_zero_of_eq h1) h2 (sub_eq_zero_of_eq h3) (by rwa [recorded_cfg])]

/-! ### The keys of a CHAIR seat -/

theorem priorityKey_of_up (was : Bool) : s.priorityKey n false was = s.leaveHolders n := rfl

theorem priorityKey_of_holder (was : Bool) (h : n ∈ s.holders) : s.priorityKey n true was = s := by
  simp [priorityKey, h]

theorem priorityKey_of_barred (was : Bool) (h : n ∉ s.holders) (hbarred : (s.seat n).cfg.barred = true) :
    s.priorityKey n true was = if was then s else s.refused n .barred := by
  simp [priorityKey, h, hbarred, refuse_eq]

theorem priorityKey_of_down (was : Bool) (h : n ∉ s.holders) (hbarred : (s.seat n).cfg.barred = false) :
    s.priorityKey n true was =
      (if (s.seat n).run.floor = .speaking then s else s.chairGrant n true).joinHolders n := by
  simp [priorityKey, h, hbarred]

end State

/-- Settles O31: by the floor state of the seat, and by the kind of the entry it waits with. -/
theorem secondKeyFollowsTheEntry : Obligations.SecondKeyFollowsTheEntry := by
  unfold Obligations.SecondKeyFollowsTheEntry
  intro b f s n r o h hlist hcls horder h1 h3 h2 s1
  have hsame : State.SameForActs n s s1 := s.undisplayed_sameForActs n r
  have hcfg : (s1.seat n).cfg = (s.seat n).cfg := hsame.cfg n
  have hexec : Machine.exec (.seatReport b f) s = .next (s1.key2Act n r.claimed) := h.exec_key2 hcls h1 h3 h2
  have horder1 : (s1.seat n).cfg.order = some o := by rw [hcfg, horder]
  have hentitled : (s1.seat n).cfg.entitled .order = o := by rw [SeatConfig.entitled, horder1]; rfl
  rw [hexec]
  clear_value s1
  refine ⟨fun hidle => ?_, fun e he hseat hwaiting => ?_, fun hspeaking => ?_⟩
  · rw [State.key2Act_of_idle _ horder1 (by rw [hsame.seatFloor, hidle])]
    refine ⟨fun q hq => ?_, fun hnone => ?_⟩
    · rw [State.newRequest_of_refusal (by rw [hentitled, hsame.admissionRefusal, hq])]
    · rw [State.newRequest_of_none (by rw [hentitled, hsame.admissionRefusal, hnone]), hentitled]
  · have hentry : s1.entryOf n = some e := by rw [hsame.entryOf, ← hseat, State.entryOf_of_mem hlist he]
    rw [State.key2Act_of_entry _ horder1 (by rw [hsame.seatFloor, hwaiting]) hentry]
    refine ⟨fun hkind => ?_, fun hkind hbarred => ?_, fun hkind hbarred => ?_⟩
    · rw [hkind]
    · rw [hkind]
      exact congrArg _ (State.upgrade_of_barred _ (by rw [hcfg, hbarred]))
    · rw [hkind]
      dsimp only
      rw [State.upgrade_of_entry _ hentry (by rw [hcfg, hbarred]), hentitled, hsame.isExhausted, hsame.list]
      rfl
  · rw [State.key2Act_of_speaking _ horder1 (by rw [hsame.seatFloor, hspeaking])]

/-- Settles O32: KEY2 by its level and the holder set, and KEY3 where the level agrees with the set. -/
theorem chairKeysHoldAndAdvance : Obligations.ChairKeysHoldAndAdvance := by
  unfold Obligations.ChairKeysHoldAndAdvance
  intro b f s n r h hcls h1 h2 s1
  have hsame : State.SameForActs n s s1 := s.recorded_sameForActs n r
  have hcfg : (s1.seat n).cfg = (s.seat n).cfg := hsame.cfg n
  have hkey2 : isCancelled (r.count2 - (s.seat n).run.ref2) = false := by
    obtain h2 | h2 := h2
    · rw [h2, sub_self]
      rfl
    · rw [isCancelled, h2]
      rfl
  have hexec {d3 : BitVec 4} (hd3 : r.count3 - (s.seat n).run.ref3 = d3) (h3 : isCancelled d3 = false) :
      Machine.exec (.seatReport b f) s = .next
        (if d3.getLsbD 0 then ((s1.priorityKey n r.down2 (s.seat n).run.down2).undisplayed n).chairNext n
        else s1.priorityKey n r.down2 (s.seat n).run.down2) := by
    rw [h.exec, hd3, State.takeActs_chair (sub_eq_zero_of_eq h1) hkey2 h3 (by rwa [State.recorded_cfg])]
  refine ⟨fun h3 => ?_, fun h3 hlevel => ?_⟩
  · rw [hexec (sub_eq_zero_of_eq h3) rfl]
    change (_ → _ → _ → Host.Outcome.next (s1.priorityKey n r.down2 (s.seat n).run.down2) = _) ∧ (_ → _ → _ →
      Host.Outcome.next (s1.priorityKey n r.down2 (s.seat n).run.down2) = _) ∧ (_ → _ →
      Host.Outcome.next (s1.priorityKey n r.down2 (s.seat n).run.down2) = _) ∧ (_ →
      Host.Outcome.next (s1.priorityKey n r.down2 (s.seat n).run.down2) = _)
    clear_value s1
    rw [← hsame.holders, ← hcfg, ← hsame.seatFloor]
    refine ⟨fun hdown hout hbarred => ?_, fun hdown hout hbarred => ?_, fun hdown hin => ?_, fun hup => ?_⟩
    · rw [hdown, State.priorityKey_of_barred _ hout hbarred]
    · rw [hdown, State.priorityKey_of_down _ hout hbarred]
    · rw [hdown, State.priorityKey_of_holder _ hin]
    · rw [hup, State.priorityKey_of_up]
  · intro s2
    have h3' : isCancelled (r.count3 - (s.seat n).run.ref3) = false := by
      rw [isCancelled, h3]
      rfl
    rw [hexec rfl h3', if_pos h3, State.priorityKey_of_agreeing _ (by rw [hlevel, hsame.holders])]
    have hbarred : (s2.seat n).cfg.barred = (s.seat n).cfg.barred := by
      rw [(s.undisplayed_sameForActs n r).cfg]
    rw [← hbarred]
    rfl

end Sys2Proof.Machine
end

section
/-! PROOF. Reports that make a seat PRESENT, only record, or act with several keys; and the timed events of a seat. -/

namespace Sys2Proof.Machine

namespace State

variable {s : State} {n : SeatNo} {r : Report}

/-- In ROLL_CALL an ordinary report only records (R175). -/
theorem ordinaryReport_of_rollCall (h : s.startUp.state = .rollCall) : s.ordinaryReport n r = s.recorded n r := by
  rw [← recordReport_eq]
  exact if_neg (by rw [show (s.recordReport n r).startUp = s.startUp from rfl, h]; decide)

/-- Without a press, and without the keys of a CHAIR seat, the acts are the mark of an even difference (R46). -/
theorem takeActs_of_no_press {d1 d2 d3 : BitVec 4} {was : Bool} (hcls : (s.seat n).cfg.cls ≠ .chair)
    (h1 : d1.getLsbD 0 = false) (h2 : d2.getLsbD 0 = false) :
    s.takeActs n r d1 d2 d3 was =
      if isCancelled d1 || isCancelled d2 || isCancelled d3 then s.mark n else s := by
  have h1' : isPress d1 = false := h1
  have h2' : isPress d2 = false := h2
  unfold takeActs
  simp only [h1', h2', hcls, if_false, Bool.false_eq_true, decide_false, Bool.and_false]

/-- The acts of a report one after another (R47). -/
theorem takeActs_eq (s : State) (n : SeatNo) (r : Report) (d1 d2 d3 : BitVec 4) (was : Bool) :
    s.takeActs n r d1 d2 d3 was =
      let marked := if isCancelled d1 || isCancelled d2 || isCancelled d3 then s.mark n else s
      let first := if d1.getLsbD 0 then (marked.undisplayed n).key1Act n r.claimed else marked
      let second := if (s.seat n).cfg.cls = .chair then first.priorityKey n r.down2 was
        else if d2.getLsbD 0 then (first.undisplayed n).key2Act n r.claimed else first
      if d3.getLsbD 0 = true ∧ (s.seat n).cfg.cls = .chair then (second.undisplayed n).chairNext n else second := by
  unfold takeActs
  simp only [isPress, Bool.and_eq_true, decide_eq_true_iff]
  rfl

theorem sub_ne_zero_iff {a b : BitVec 4} : a - b ≠ 0 ↔ a ≠ b := sub_ne_zero

end State

/-- Settles O28: by presence, the attach flag and the start-up state, and in READY by the acts in their order. -/
theorem reportsRecordTheSeat : Obligations.ReportsRecordTheSeat := by
  unfold Obligations.ReportsRecordTheSeat
  refine ⟨fun b f s n r h hstart harrive => ?_, fun b f s n r h => ⟨fun hrecalling => ?_, fun hroll hpresent hattach => ?_,
    fun hready hpresent hattach hcls h1 h2 => ?_⟩, fun b f s n r h => ?_⟩
  · intro s0 s1 s2
    have hframe : (s0.seat n).cfg = (s.seat n).cfg ∧ s0.startUp = s.startUp := by
      unfold s0
      split
      · exact ⟨by rw [(s.cascade_frame [n]).seat n], (s.cascade_frame [n]).startUp⟩
      · exact ⟨rfl, rfl⟩
    have hready : s.startUp.state ≠ .rollCall ↔ s.startUp.state = .ready := by
      cases hs : s.startUp.state with
      | recalling => exact absurd hs hstart
      | rollCall => decide
      | ready => decide
    rw [h.exec, State.takeReport_of_arrival hstart harrive, State.becomePresent_eq, hframe.1, hframe.2]
    simp only [hready]
    rfl
  · rw [h.exec, State.takeReport, if_pos hrecalling]
  · rw [h.exec, State.takeReport_of_ordinary (by simp [hroll]) hpresent hattach, State.ordinaryReport_of_rollCall hroll]
  · rw [h.exec, State.takeReport_of_ordinary (by simp [hready]) hpresent hattach, State.ordinaryReport_of_ready hready,
      State.takeActs_of_no_press (by rwa [State.recorded_cfg]) h1 h2]
    simp only [Bool.or_eq_true, State.isCancelled_iff, State.sub_ne_zero_iff, h1, h2, and_true, or_assoc]
  · intro d1 d2 d3 even
    have heven : (isCancelled d1 || isCancelled d2 || isCancelled d3) = true ↔ even d1 ∨ even d2 ∨ even d3 := by
      simp only [Bool.or_eq_true, State.isCancelled_iff, or_assoc, even]
    refine ⟨if isCancelled d1 || isCancelled d2 || isCancelled d3 then (s.recorded n r).mark n else s.recorded n r,
      _, _, _, fun hmark => if_pos (heven.2 hmark), fun hmark => if_neg (mt heven.1 hmark), rfl, rfl, rfl, ?_⟩
    rw [h.exec, State.takeActs_eq, State.recorded_cfg]

/-- Settles O38: each event against its time; the expiry after a report against the moment the report recorded. -/
theorem timedSeatEvents : Obligations.TimedSeatEvents := by
  unfold Obligations.TimedSeatEvents
  intro n s
  refine ⟨fun hpresent htime => ?_, fun h => ?_, fun hpresent htime => ?_, fun h => ?_, fun k hk => ⟨fun htime => ?_,
    fun htime => ?_⟩, fun hnone => ?_, fun b f r h => ?_⟩
  · exact congrArg Host.Outcome.next (if_pos ((State.presenceExpired_iff s n).2 ⟨hpresent, htime⟩))
  · refine congrArg Host.Outcome.next (if_neg ?_)
    rw [State.presenceExpired_iff]
    rintro ⟨hpresent, htime⟩
    rcases h with h | h
    · simp [h] at hpresent
    · omega
  · exact congrArg Host.Outcome.next (if_pos ((State.refreshPassed_iff s n).2 ⟨hpresent, htime⟩))
  · refine congrArg Host.Outcome.next (if_neg ?_)
    rw [State.refreshPassed_iff]
    rintro ⟨hpresent, htime⟩
    rcases h with h | h
    · simp [h] at hpresent
    · omega
  · exact congrArg Host.Outcome.next (if_pos ((State.refusalExpired_iff s n).2 ⟨k, hk, htime⟩))
  · refine congrArg Host.Outcome.next (if_neg ?_)
    rw [State.refusalExpired_iff]
    rintro ⟨k', hk', htime'⟩
    rw [hk, Option.some.injEq] at hk'
    omega
  · refine congrArg Host.Outcome.next (if_neg ?_)
    rw [State.refusalExpired_iff]
    rintro ⟨k', hk', -⟩
    rw [hnone] at hk'
    cases hk'
  · refine ⟨_, h.exec, fun k hk => ?_⟩
    generalize ht : (s.recorded n r).takeActs n r (r.count1 - (s.seat n).run.ref1) (r.count2 - (s.seat n).run.ref2)
      (r.count3 - (s.seat n).run.ref3) (s.seat n).run.down2 = t
    have hframe : State.KeyFrame (s.recorded n r) t := ht ▸ State.takeActs_keyFrame ..
    have hpresent : (t.seat n).run.present = true := by rw [hframe.seat n, s.recorded_seat n r]
    have hheard : (t.seat n).run.lastHeard = s.now := by rw [hframe.seat n, s.recorded_seat n r]
    have hcfg : t.floorCfg = s.floorCfg := hframe.floorCfg
    have hexpired : (t.withNow k).presenceExpired n = decide (s.floorCfg.presenceMs ≤ k - s.now) := by
      rw [Bool.eq_iff_iff, State.presenceExpired_iff, decide_eq_true_iff]
      change (t.seat n).run.present = true ∧ t.floorCfg.presenceMs ≤ k - (t.seat n).run.lastHeard ↔ _
      rw [hpresent, hheard, hcfg]
      exact and_iff_right rfl
    change Host.Outcome.next (if (t.withNow k).presenceExpired n then _ else _) = _
    rw [hexpired]
    simp only [decide_eq_true_iff]

end Sys2Proof.Machine
end

section
/-! PROOF. The profile: a store and its completion, and the RESET that abandons an operation. -/

namespace Sys2Proof.Machine

namespace State

variable {s : State}

/-! ### The reply place of a profile operation -/

/-- The queue with the place of the profile operation filled. -/
def placesFilled (st : Status) (l : List ReplyPlace) : List ReplyPlace :=
  l.map fun p => match p with
    | .profileOp tag => .built ⟨tag, st, [], false⟩
    | p => p

/-- The queue with the place of the profile operation gone. -/
def placesFreed (l : List ReplyPlace) : List ReplyPlace :=
  l.filter fun p => match p with
    | .profileOp _ => false
    | _ => true

theorem filter_isProfilePlace (l : List ReplyPlace) : (l.filter fun p => !isProfilePlace p) = placesFreed l := by
  refine List.filter_congr fun p _ => ?_
  cases p <;> rfl

theorem completeProfile_of_up (st : Status) (h : s.uplink.up = true) :
    s.completeProfile st = s.withUplink { s.uplink with replies := placesFilled st s.uplink.replies } := by
  unfold completeProfile
  rw [if_pos h]
  rfl

theorem completeProfile_of_down (st : Status) (h : s.uplink.up = false) :
    s.completeProfile st = s.withUplink { s.uplink with replies := placesFreed s.uplink.replies } := by
  unfold completeProfile
  rw [if_neg (by simp [h]), filter_isProfilePlace]

/-! ### STORE -/

theorem exec_storeComplete {since : Nat} (found : ReadBack) (h : s.profile.op = some (.store since)) :
    exec (.storeComplete found) s = .next (s.finishStore found) := by
  change Host.Outcome.next (match s.profile.op with | some (.store _) => s.finishStore found | _ => s) = _
  rw [h]

/-- The memory left equal to the working configuration, with its check word: VALID and DONE (R171). -/
theorem finishStore_of_good {found : ReadBack} (hwords : leftWords (profileWords s.configuration) found.words = profileWords s.configuration)
    (hcheck : found.check = .written) :
    s.finishStore found = (s.withProfile ⟨profileWords s.configuration, some (checkWord (profileWords s.configuration)),
      .valid, none⟩).completeProfile .done := by
  unfold finishStore
  simp [hwords, hcheck, checkLeft]

/-- A word or the check word that did not take its write: INVALID and FAILED (R171). -/
theorem finishStore_of_bad {found : ReadBack}
    (h : leftWords (profileWords s.configuration) found.words ≠ profileWords s.configuration
      ∨ checkLeft found.check (checkWord (profileWords s.configuration)) ≠ some (checkWord (profileWords s.configuration))) :
    s.finishStore found = (s.withProfile ⟨leftWords (profileWords s.configuration) found.words,
      checkLeft found.check (checkWord (profileWords s.configuration)), .invalid, none⟩).completeProfile .failed := by
  have hbad : (leftWords (profileWords s.configuration) found.words == profileWords s.configuration
      && checkLeft found.check (checkWord (profileWords s.configuration))
        == some (checkWord (profileWords s.configuration))) = false := by
    rw [Bool.and_eq_false_iff, beq_eq_false_iff_ne, beq_eq_false_iff_ne]
    exact h
  unfold finishStore
  simp only [hbad, Bool.false_eq_true, if_false]

theorem heldOff_profile (hstart : s.startUp.state ≠ .recalling) (hop : s.profile.op = none) :
    s.heldOff .profile = none := by
  unfold heldOff
  cases hs : s.startUp.state with
  | recalling => exact absurd hs hstart
  | rollCall => simp [hop]
  | ready => simp [hop]

theorem heldOff_write (hstart : s.startUp.state ≠ .recalling) (hop : s.profile.op = none) :
    s.heldOff .write = none := by
  unfold heldOff
  cases hs : s.startUp.state with
  | recalling => exact absurd hs hstart
  | rollCall => simp [hop]
  | ready => simp [hop]

theorem heldOff_reset : s.heldOff .reset = none := by
  unfold heldOff
  cases s.startUp.state <;> rfl

end State

/-- Settles O51: the start by the hold-off, the completion by what the memory was left with. -/
theorem storeWritesTheWorkingConfiguration : Obligations.StoreWritesTheWorkingConfiguration := by
  unfold Obligations.StoreWritesTheWorkingConfiguration
  refine fun s => ⟨fun m htakes hstart hop => ?_, fun since hop => ?_⟩
  · refine (operate_of_takes m .storeProfile [] (held .profile storeProfile) s htakes).trans ?_
    rw [held_of_none _ _ _ (State.heldOff_profile hstart hop)]
    rfl
  · intro words answered
    refine ⟨fun hup => ?_, fun hup => ?_, fun k v hk hv hup => ?_, fun hup => ?_⟩
    · rw [State.exec_storeComplete _ hop, State.finishStore_of_good rfl rfl]
      exact congrArg Host.Outcome.next (State.completeProfile_of_down _ hup)
    · rw [State.exec_storeComplete _ hop, State.finishStore_of_good rfl rfl]
      exact congrArg Host.Outcome.next (State.completeProfile_of_up _ hup)
    · have hset : leftWords words [(k, v)] = words.set k v := rfl
      have hne : words.set k v ≠ words := fun h => hv (by
        have := List.getElem_set_self (l := words) (i := k) (a := v) (by simpa using hk)
        rw [← this]
        simp only [h])
      rw [State.exec_storeComplete _ hop, State.finishStore_of_bad (.inl (by rw [hset]; exact hne))]
      exact congrArg Host.Outcome.next (State.completeProfile_of_up _ hup)
    · rw [State.exec_storeComplete _ hop, State.finishStore_of_bad (.inr (by simp [checkLeft]))]
      exact congrArg Host.Outcome.next (State.completeProfile_of_up _ hup)

/-- Settles O53: RESET is never held off, and the profile is as the abandoned operation leaves it. -/
theorem resetAbandonsTheProfileOperation : Obligations.ResetAbandonsTheProfileOperation := by
  unfold Obligations.ResetAbandonsTheProfileOperation
  intro m s htakes
  have hup : s.abandonProfile.uplink.up = true := by rw [State.abandonProfile_uplink]; exact htakes.1
  let u := s.abandonProfile.withStartUp { s.startUp with reset := .requested }
  let t := u.withUplink { u.uplink with replies := u.uplink.replies ++ [ReplyPlace.built ⟨m.tag, .done, [], true⟩] }
  have hexec : exec (.reset m) s = .next t := by
    refine (operate_of_takes m .reset [] (held .reset resetBody) s htakes).trans ?_
    rw [held_of_none _ _ _ State.heldOff_reset]
    have hstart : s.abandonProfile.startUp = s.startUp := by rw [s.abandonProfile_eq]; rfl
    change Host.Outcome.next ((s.abandonProfile.withStartUp { s.abandonProfile.startUp with
      reset := .requested }).pushReply ⟨m.tag, .done, [], true⟩) = _
    rw [hstart]
    exact congrArg Host.Outcome.next (if_pos hup)
  refine ⟨t, hexec, rfl, ?_, s.abandonProfile_op, s.abandonProfile_status, fun hop => ?_, fun k hop => ?_, ?_⟩
  · change { s.abandonProfile.uplink with
      replies := s.abandonProfile.uplink.replies ++ [ReplyPlace.built ⟨m.tag, .done, [], true⟩] } = _
    rw [State.abandonProfile_uplink, State.filter_isProfilePlace]
    rfl
  · obtain ⟨hwords, hcheck⟩ := State.abandonProfile_of_no_store hop
    refine ⟨hwords, hcheck, ?_⟩
    change s.abandonProfile.free = s.free
    unfold State.abandonProfile
    dsimp only
    split
    · rfl
    · rfl
    · next k hk => exact absurd hk (hop k)
  · refine ⟨?_, State.abandonProfile_of_store hop⟩
    change s.abandonProfile.free = s.free + 1
    unfold State.abandonProfile
    dsimp only
    rw [State.withUplink_profile, hop]
    rfl
  · change (s.abandonProfile.withStartUp _).withUplink _ = _
    rw [s.abandonProfile_eq]
    rfl

end Sys2Proof.Machine
end

section
/-! PROOF. Marks made by a condition on each seat, the budget reload, and the CLASS row write. -/

namespace Sys2Proof.Machine

namespace State

variable {s t : State}

/-! ### Marks read the branches and the ports -/

theorem mark_ports_congr (hbranches : t.branches = s.branches) (hports : t.ports = s.ports) (n : SeatNo) :
    (t.mark n).ports = (s.mark n).ports := by
  have hport (b : BranchId) : t.port b = s.port b := by cases b <;> simp only [port, hports]
  refine ports_ext fun b => ?_
  rw [mark_port, mark_port, markedSet, markedSet, hbranches, hport]

theorem markAll_ports_congr (l : List SeatNo) {s t : State} (hbranches : t.branches = s.branches)
    (hports : t.ports = s.ports) : (t.markAll l).ports = (s.markAll l).ports := by
  induction l generalizing s t with
  | nil => exact hports
  | cons n l ih =>
    exact ih (by rw [mark_branches, mark_branches, hbranches]) (mark_ports_congr hbranches hports n)

theorem markAll_eq_withPorts (l : List SeatNo) (s : State) : s.markAll l = s.withPorts (s.markAll l).ports := by
  induction l generalizing s with
  | nil => rfl
  | cons n l ih =>
    have h := ih (s.mark n)
    rw [show s.markAll (n :: l) = (s.mark n).markAll l from rfl, h, mark_eq_withPorts s n]
    rfl

/-- Marks under a condition that no mark changes. -/
theorem foldl_mark_if {p : State → SeatNo → Bool} (l : List SeatNo) {s : State}
    (hp : ∀ t n, TellFrame s t → p t n = p s n) :
    l.foldl (fun s n => if p s n then s.mark n else s) s = s.markAll (l.filter (p s)) := by
  induction l generalizing s with
  | nil => rfl
  | cons n l ih =>
    have hstep (u : State) (hu : TellFrame s u) : l.foldl (fun s n => if p s n then s.mark n else s) u =
        u.markAll (l.filter (p s)) := by
      rw [ih fun t m ht => ((hp t m (hu.trans ht)).trans (hp u m hu).symm)]
      congr 1
      exact List.filter_congr fun m _ => hp u m hu
    rw [List.foldl_cons, List.filter_cons]
    split
    · exact hstep _ (mark_frame s n)
    · exact hstep _ (.refl s)

theorem TellFrame.applies (h : TellFrame s t) (n : SeatNo) : t.applies n = s.applies n := by
  simp only [State.applies, h.classes, h.seat]

/-- The marks of changed budgets (R9). -/
theorem foldl_markBudget (l : List SeatNo) (s : State) : l.foldl (fun s n => s.markBudget n) s =
    s.markAll (l.filter fun n => (s.seat n).run.offFloor && s.floorCfg.showBudget && s.applies n) :=
  foldl_mark_if (p := fun s n => (s.seat n).run.offFloor && s.floorCfg.showBudget && s.applies n) l fun t n h => by
    simp only [h.seat, h.floorCfg, h.applies]

theorem foldl_markApplies (l : List SeatNo) (s : State) : l.foldl (fun s n => s.markApplies n) s =
    s.markAll (l.filter fun n => (s.seat n).run.offFloor && s.floorCfg.showBudget) :=
  foldl_mark_if (p := fun s n => (s.seat n).run.offFloor && s.floorCfg.showBudget) l fun t n h => by
    simp only [h.seat, h.floorCfg]

theorem seatsWhere_filter (s : State) (p : SeatNo → SeatRecord → Bool) (q : SeatNo → Bool) :
    (s.seatsWhere p).filter q = s.seatsWhere fun n r => p n r && q n := by
  rw [seatsWhere_eq_filter, seatsWhere_eq_filter, List.filter_filter]
  exact List.filter_congr fun n _ => Bool.and_comm ..

/-! ### The budget reload -/

/-- The seats with their initial budgets and the entries refreshed, before the marks (R11). -/
def budgetsSet (s : State) : State := (s.mapSeats (initialBudget s.classes)).refreshAll

theorem seat_budgetsSet (s : State) (n : SeatNo) : s.budgetsSet.seat n = ⟨(s.seat n).cfg, { (s.seat n).run with
    budget := (s.classes.record (s.seat n).cfg.cls).initial }⟩ := seat_mapSeats _ s n

theorem applies_budgetsSet (s : State) (n : SeatNo) : s.budgetsSet.applies n = s.applies n := by
  change budgetApplies s.classes (s.budgetsSet.seat n).cfg = _
  rw [seat_budgetsSet]
  rfl

/-- A reload is the new budgets and the marks of R9 in ascending seat number. -/
theorem initialBudgets_eq (s : State) : s.initialBudgets = s.budgetsSet.markAll (s.seatsWhere fun n r =>
    r.run.budget != (s.classes.record r.cfg.cls).initial && r.run.floor != .speaking && s.floorCfg.showBudget
      && s.applies n) := by
  have hfold : s.initialBudgets = (s.seatsWhere fun _ r => r.run.budget != (s.classes.record r.cfg.cls).initial).foldl
      (fun s n => s.markBudget n) s.budgetsSet := rfl
  rw [hfold, foldl_markBudget, seatsWhere_filter]
  refine congrArg (fun l => s.budgetsSet.markAll l) (seatsWhere_congr fun n => ?_)
  rw [seat_budgetsSet, applies_budgetsSet, show s.budgetsSet.floorCfg = s.floorCfg from rfl]
  simp only [SeatRun.offFloor, Bool.and_assoc]

theorem list_budgetsSet (s : State) : s.budgetsSet.list = { s.list with entries := s.list.entries.map fun e => { e with
    exhausted := s.applies e.seat && (s.classes.record (s.seat e.seat).cfg.cls).initial == 0 } } := by
  have hexhausted (n : SeatNo) : (s.mapSeats (initialBudget s.classes)).isExhausted n =
      (s.applies n && (s.classes.record (s.seat n).cfg.cls).initial == 0) := by
    rw [isExhausted, applies, seat_mapSeats]
    rfl
  change ({ s.list with entries := s.list.entries.map fun e => { e with
    exhausted := (s.mapSeats (initialBudget s.classes)).isExhausted e.seat } } : RequestList) = _
  simp only [hexhausted]

/-! ### The entries of a class -/

/-- The refreshes of several seats' entries: one rewriting of the list (R77). -/
theorem foldl_refreshExhausted (l : List SeatNo) (s : State) : l.foldl (fun s n => s.refreshExhausted n) s =
    s.withList { s.list with entries := s.list.entries.map fun e =>
      if e.seat ∈ l then { e with exhausted := s.isExhausted e.seat } else e } := by
  induction l generalizing s with
  | nil => simp [withList]
  | cons n l ih =>
    rw [List.foldl_cons, ih]
    have hexhausted (m : SeatNo) : (s.refreshExhausted n).isExhausted m = s.isExhausted m := rfl
    simp only [hexhausted]
    unfold refreshExhausted replaceEntry
    simp only [withList_list, List.map_map]
    change s.withList _ = _
    congr 2
    refine List.map_congr_left fun e _ => ?_
    by_cases hn : e.seat = n <;> by_cases hl : e.seat ∈ l <;> simp [hn, hl]

end State

theorem exec_writeTableClass {m : MgmtHead} {index : Half} {row : List Byte} {s : State} {r : ClassRecord}
    {adjusted : Bool} (hread : readClassRow row = some (r, adjusted))
    (htakes : s.Takes (mgmtFrame m .writeTable (1 :: bytesOf index ++ row))) (hstart : s.startUp.state ≠ .recalling)
    (hop : s.profile.op = none) :
    exec (.writeTableClass m index row) s = .next (match classOfIndex index with
      | some c => (s.writeClass c r).answer m.tag (only (doneOr adjusted))
      | none => s.answer m.tag (only .refusedRange)) := by
  refine (operate_of_takes m .writeTable _ (writeClassRow index row) s htakes).trans ?_
  unfold writeClassRow
  rw [hread]
  dsimp only
  rw [held_of_none _ _ _ (State.heldOff_write hstart hop)]
  cases classOfIndex index <;> rfl

theorem classOfIndex_of_large {index : Half} (h : 4 ≤ index.toNat) : classOfIndex index = none := by
  unfold classOfIndex
  split
  · omega
  · omega
  · omega
  · omega
  · rfl

theorem classOfIndex_of_code {index : Half} {c : SeatClass} (h : c.code = index.toNat) : classOfIndex index = some c := by
  unfold classOfIndex
  rw [← h]
  cases c <;> rfl

namespace State

variable {s : State} {c : SeatClass} {r : ClassRecord}

theorem writeClass_of_same (h : r.enforced = (s.classes.record c).enforced) : s.writeClass c r = s.setClass c r :=
  if_pos h

/-- The entries after a CLASS row write that changes budget enforced: those of the class refreshed (R163). -/
def classEntries (s : State) (c : SeatClass) (r : ClassRecord) : List Entry :=
  s.list.entries.map fun e => if e.seat ∈ s.seatsWhere (fun _ x => x.cfg.cls == c && !x.cfg.exempt) then
    { e with exhausted := (s.setClass c r).isExhausted e.seat } else e

/-- A CLASS row write that changes budget enforced, but for its fill rule: the record, the refreshed entries, the marks
(R163). -/
def classWritten (s : State) (c : SeatClass) (r : ClassRecord) : State :=
  ((s.setClass c r).withList { s.list with entries := s.classEntries c r }).markAll
    (s.seatsWhere fun _ x => x.cfg.cls == c && !x.cfg.exempt && x.run.floor != .speaking && s.floorCfg.showBudget)

theorem writeClass_of_changed (h : r.enforced ≠ (s.classes.record c).enforced) :
    s.writeClass c r = (s.classWritten c r).fillRule := by
  have hfold : s.writeClass c r = if r.enforced = (s.classes.record c).enforced then s.setClass c r else
      ((s.seatsWhere fun _ x => x.cfg.cls == c && !x.cfg.exempt).foldl (fun s n => s.markApplies n)
        ((s.seatsWhere fun _ x => x.cfg.cls == c && !x.cfg.exempt).foldl (fun s n => s.refreshExhausted n)
          (s.setClass c r))).fillRule := rfl
  have hseats : (s.seatsWhere fun n x => x.cfg.cls == c && !x.cfg.exempt
        && ((s.seat n).run.offFloor && s.floorCfg.showBudget)) =
      s.seatsWhere fun _ x => x.cfg.cls == c && !x.cfg.exempt && x.run.floor != .speaking && s.floorCfg.showBudget :=
    seatsWhere_congr fun n => by simp only [SeatRun.offFloor, Bool.and_assoc]
  unfold classWritten
  rw [hfold, if_neg h, foldl_refreshExhausted, foldl_markApplies, seatsWhere_filter, ← hseats]
  rfl

/-- Whether a budget applies changes only for the seats of the class that are not exempt (R10). -/
theorem applies_setClass_of_other {n : SeatNo} (h : ((s.seat n).cfg.cls == c && !(s.seat n).cfg.exempt) = false) :
    (s.setClass c r).applies n = s.applies n := by
  change budgetApplies (s.setClass c r).classes (s.seat n).cfg = budgetApplies s.classes (s.seat n).cfg
  unfold budgetApplies
  rw [setClass_record]
  split
  · next hcls =>
    have hexempt : (s.seat n).cfg.exempt = true := by simpa [hcls] using h
    simp [hexempt]
  · rfl

/-- Under the entries' invariant every entry is refreshed (R77). -/
theorem classEntries_eq (h : s.EntriesOk) : s.classEntries c r =
    s.list.entries.map fun e => { e with exhausted := (s.setClass c r).isExhausted e.seat } := by
  unfold classEntries
  refine List.map_congr_left fun e he => ?_
  split
  · rfl
  · next hout =>
    rw [mem_seatsWhere, Bool.not_eq_true] at hout
    have hexhausted : (s.setClass c r).isExhausted e.seat = s.isExhausted e.seat := by
      unfold isExhausted
      rw [applies_setClass_of_other hout]
      rfl
    rw [hexhausted, ← (h e he).2.2]

theorem classWritten_ports : (s.classWritten c r).ports = (s.markAll (s.seatsWhere fun _ x =>
    x.cfg.cls == c && !x.cfg.exempt && x.run.floor != .speaking && s.floorCfg.showBudget)).ports := by
  unfold classWritten
  exact markAll_ports_congr _ rfl rfl

theorem classWritten_eq (s : State) (c : SeatClass) (r : ClassRecord) : s.classWritten c r =
    ((s.withClasses (s.setClass c r).classes).withList { s.list with entries := s.classEntries c r }).withPorts
      (s.classWritten c r).ports := by
  unfold classWritten
  exact markAll_eq_withPorts _ _

end State

/-- Settles O59: the marks as one list of seats, and the command as the reload and a fill rule. -/
theorem reloadSetsEveryBudget : Obligations.ReloadSetsEveryBudget := by
  unfold Obligations.ReloadSetsEveryBudget
  refine ⟨fun s => ⟨fun n => ?_, ?_, ?_, ?_⟩, fun m s htakes hready => ?_⟩
  · rw [State.reload, State.initialBudgets_eq, State.markAll_seat, State.seat_budgetsSet]
  · rw [State.reload, State.initialBudgets_eq, State.markAll_list, State.list_budgetsSet]
  · have hbranches : s.budgetsSet.branches = s.branches := rfl
    have hports : s.budgetsSet.ports = s.ports := rfl
    rw [State.reload, State.initialBudgets_eq, State.markAll_ports_congr _ hbranches hports]
  · rw [State.reload, State.initialBudgets_eq]
    generalize s.seatsWhere _ = l
    rw [State.markAll_eq_withPorts]
    rfl
  · exact operate_floor htakes hready rfl (s.reload_floorFrame.trans (State.fillRule_grantFrame _).frame)

/-- Settles O47: by whether budget enforced changes; the write as one rewriting of the list and one list of marks. -/
theorem classRowWriteActsOnTheWholeClass : Obligations.ClassRowWriteActsOnTheWholeClass := by
  unfold Obligations.ClassRowWriteActsOnTheWholeClass
  intro m index row s r adjusted hread htakes hstart hop
  have hexec := exec_writeTableClass hread htakes hstart hop
  refine ⟨fun hlarge => ?_, fun c hc => ?_⟩
  · rw [hexec, classOfIndex_of_large hlarge]
    exact congrArg Host.Outcome.next (State.answer_reply_of_up htakes.1)
  · rw [hexec, classOfIndex_of_code hc]
    intro table st
    have htable : (s.setClass c r).classes = table := by cases c <;> rfl
    have hset : s.setClass c r = s.withClasses table := by rw [← htable]; rfl
    refine ⟨fun hsame => ?_, fun hchanged hok => ?_⟩
    · dsimp only
      rw [State.writeClass_of_same hsame, hset]
      exact congrArg Host.Outcome.next (State.answer_reply_of_up htakes.1)
    · obtain ⟨-, hentries, -⟩ := hok
      have hup : (s.classWritten c r).fillRule.uplink.up = true := by
        rw [(State.fillRule_grantFrame _).frame.up, State.classWritten_eq]
        exact htakes.1
      have hclasses : (s.classWritten c r).classes = table := by rw [State.classWritten_eq, ← htable]; rfl
      have hlist : (s.classWritten c r).list = { s.list with entries := s.classEntries c r } := by
        rw [State.classWritten_eq]; rfl
      refine ⟨s.classWritten c r, ?_, hclasses, ?_, ?_, ?_, State.classWritten_ports, ?_⟩
      · dsimp only
        rw [State.writeClass_of_changed hchanged]
        exact congrArg Host.Outcome.next (State.answer_reply_of_up hup)
      · rw [State.classWritten_eq]
        rfl
      · rw [State.classWritten_eq]
        rfl
      · rw [hlist, State.classEntries_eq hentries, hset]
        rfl
      · rw [hclasses, hlist, ← htable]
        exact s.classWritten_eq c r

end Sys2Proof.Machine
end

section
/-! PROOF. Start-up: the recall of RECALLING on a controller whose seats are all ABSENT, and the end of the roll call. -/

namespace Sys2Proof.Machine

namespace State

variable {s : State}

theorem seatsWhere_eq_nil {p : SeatNo → SeatRecord → Bool} (h : ∀ n, p n (s.seat n) = false) : s.seatsWhere p = [] := by
  rw [seatsWhere_eq_filter, List.filter_eq_nil_iff]
  intro n _
  rw [h n]
  decide

/-! ### A recall while every seat is ABSENT -/

/-- The mismatch of every seat at its class, as a recall leaves it (R172). -/
def mismatched (r : SeatRecord) : SeatRecord := { r with run := { r.run with mismatch := mismatchOf r.run.unitKind r.cfg.cls } }

/-- The holders that are still of class CHAIR. -/
def chairHolders (s : State) : List SeatNo := s.holders.filter fun n => (s.seat n).cfg.cls == .chair

/-- What a recall does between its two cascades: the holders, the mismatches, the floor record and restraint (R172). -/
def adopted (g : Configuration) (s : State) : State :=
  (((s.withHolders s.chairHolders).mapSeats mismatched).withFloorCfg g.floorCfg).reviewRestraint

/-- A recall's replacement but for the cascades and the marks it makes where seats are PRESENT. -/
def replaced (g : Configuration) (s : State) : State := (s.loaded g).adopted g

/-- The marks of a recall, for the seats whose time display comes to show another thing (R172). -/
def markShown (old s : State) : State :=
  s.markAll (s.seatsWhere fun n r =>
    r.run.present && showsBudget old.classes old.floorCfg (old.seat n) != showsBudget s.classes s.floorCfg r)

theorem replaceConfiguration_eq (g : Configuration) (s : State) : s.replaceConfiguration g =
    markShown s ((((s.loaded g).cascade ((s.loaded g).movedSeats s.branches)).adopted g).expireOverdue
      s.floorCfg.presenceMs) := by
  unfold replaceConfiguration markShown adopted loaded chairHolders mismatched
  rfl

theorem loaded_seat (g : Configuration) (s : State) (n : SeatNo) : (s.loaded g).seat n = ⟨g.seats[n], (s.seat n).run⟩ :=
  seat_replaceSeats s g.seats n

theorem reviewRestraint_frame (s : State) : GrantFrame s s.reviewRestraint := setRestraint_grantFrame s _

theorem replaced_seat (g : Configuration) (s : State) (n : SeatNo) : (s.replaced g).seat n = ⟨g.seats[n],
    { (s.seat n).run with mismatch := mismatchOf (s.seat n).run.unitKind (g.seats[n]).cls }⟩ := by
  have hseats : (s.replaced g).seat n = (((s.loaded g).withHolders (s.loaded g).chairHolders).mapSeats mismatched).seat n := by
    simp only [seat, replaced, adopted, reviewRestraint, setRestraint_seats]
    rfl
  rw [hseats, seat_mapSeats, withHolders_seat, loaded_seat]
  rfl

/-- No seat moves, and none is overdue (R172). -/
theorem replaceConfiguration_of_absent (g : Configuration) (h : ∀ n, (s.seat n).run.present = false) :
    s.replaceConfiguration g = s.replaced g := by
  have hloaded (n : SeatNo) : ((s.loaded g).seat n).run.present = false := by rw [loaded_seat]; exact h n
  have hreplaced (n : SeatNo) : ((s.replaced g).seat n).run.present = false := by rw [replaced_seat]; exact h n
  have hmoved : (s.loaded g).cascade ((s.loaded g).movedSeats s.branches) = s.loaded g := by
    rw [movedSeats, seatsWhere_eq_nil fun n => by rw [hloaded n, Bool.false_and]]
    rfl
  have hexpired (before : Nat) : (s.replaced g).expireOverdue before = s.replaced g := by
    unfold expireOverdue
    rw [seatsWhere_eq_nil fun n => by rw [hreplaced n, Bool.false_and]]
    split <;> rfl
  rw [replaceConfiguration_eq, hmoved, show (s.loaded g).adopted g = s.replaced g from rfl, hexpired, markShown,
    seatsWhere_eq_nil fun n => by simp only [hreplaced n, Bool.false_and]]
  rfl

/-! ### What is left in RECALLING and in ROLL_CALL -/

theorem FloorOk.still (h : s.FloorOk) (hstart : s.startUp.state ≠ .ready) :
    s.floor = .closed ∧ s.list.entries = [] ∧ s.holders = [] ∧ ∀ c : ChanNo, (s.chan c).busy = false := by
  obtain ⟨-, -, -, -, -, -, -, -, -, hstill, -⟩ := h
  exact hstill hstart

theorem FloorOk.absent (h : s.FloorOk) (hstart : s.startUp.state = .recalling) (n : SeatNo) :
    (s.seat n).run.present = false := by
  obtain ⟨-, -, -, -, -, -, -, -, -, -, habsent⟩ := h
  exact habsent hstart n

theorem FloorOk.absent_record (h : s.FloorOk) {n : SeatNo} (habsent : (s.seat n).run.present = false) :
    (s.seat n).run.floor = .idle ∧ (s.seat n).run.unitKind = none ∧ (s.seat n).run.mismatch = false := by
  obtain ⟨-, -, -, -, -, hpresence, -⟩ := h
  obtain ⟨hfloor, -, -, hunit, hmismatch, -⟩ := (hpresence n).1 habsent
  exact ⟨hfloor, hunit, hmismatch⟩

/-- In RECALLING a replacement leaves every seat's runtime part as it was. -/
theorem FloorOk.replaced_seat (h : s.FloorOk) (hstart : s.startUp.state = .recalling) (g : Configuration) (n : SeatNo) :
    (s.replaced g).seat n = ⟨g.seats[n], (s.seat n).run⟩ := by
  obtain ⟨-, hunit, hmismatch⟩ := h.absent_record (h.absent hstart n)
  rw [State.replaced_seat]
  congr 1
  rw [hunit]
  change { (s.seat n).run with mismatch := false } = _
  rw [← hmismatch]

theorem replaced_rest (g : Configuration) (s : State) : (s.replaced g).classes = g.classes
    ∧ (s.replaced g).branches = g.branches ∧ (s.replaced g).floorCfg = g.floorCfg ∧ (s.replaced g).profile = s.profile
    ∧ (s.replaced g).startUp = s.startUp ∧ (s.replaced g).now = s.now ∧ (s.replaced g).floor = s.floor
    ∧ (s.replaced g).channels = s.channels ∧ (s.replaced g).grantOrder = s.grantOrder
    ∧ (s.replaced g).list.entries = s.list.entries ∧ (s.replaced g).ports = (s.loaded g).ports := by
  have h := reviewRestraint_frame
    ((((s.loaded g).withHolders (s.loaded g).chairHolders).mapSeats mismatched).withFloorCfg g.floorCfg)
  refine ⟨h.frame.classes, h.frame.branches, h.floorCfg, h.frame.profile, h.frame.startUp, h.frame.now, h.floor,
    setRestraint_channels .., setRestraint_grantOrder .., ?_, setRestraint_ports ..⟩
  unfold replaced adopted reviewRestraint
  rw [setRestraint_list]
  rfl

/-- The state that start-up's recall leaves, but for start-up control (R174). -/
def recalledAtStart (s : State) : State :=
  ((s.withProfile { s.profile with status := s.profile.recalledStatus }).replaced s.profile.recalled).initialBudgets

theorem recalledAtStart_eq (s : State) : s.recalledAtStart =
    ((s.withProfile { s.profile with status := s.profile.recalledStatus }).replaced s.profile.recalled).initialBudgets := rfl

theorem startUpRecall_of_absent (h : ∀ n, (s.seat n).run.present = false) : s.startUpRecall =
    s.recalledAtStart.withStartUp
      { s.startUp with state := .rollCall, since := s.now, opens := s.profile.recalled.floorCfg.openAtStart } := by
  have hrecall := replaceConfiguration_of_absent (s := s.withProfile { s.profile with status := s.profile.recalledStatus })
    s.profile.recalled h
  obtain ⟨-, -, -, -, hstart, hnow, -⟩ := replaced_rest s.profile.recalled
    (s.withProfile { s.profile with status := s.profile.recalledStatus })
  have hstart' : s.recalledAtStart.startUp = s.startUp := (initialBudgets_frame _).startUp.trans hstart
  have hnow' : s.recalledAtStart.now = s.now := (initialBudgets_frame _).now.trans hnow
  unfold startUpRecall
  dsimp only
  rw [hrecall, ← recalledAtStart_eq, hstart', hnow']

theorem initialBudgets_rest (s : State) : s.initialBudgets.classes = s.classes ∧ s.initialBudgets.branches = s.branches
    ∧ s.initialBudgets.floorCfg = s.floorCfg ∧ s.initialBudgets.profile = s.profile
    ∧ s.initialBudgets.floor = s.floor ∧ s.initialBudgets.holders = s.holders
    ∧ s.initialBudgets.channels = s.channels ∧ s.initialBudgets.grantOrder = s.grantOrder := by
  have h := s.initialBudgets_frame
  exact ⟨h.classes, h.branches, h.floorCfg, h.profile, h.floor, h.holders, h.channels, h.grantOrder⟩

theorem replaced_holders_of_nil {g : Configuration} (h : s.holders = []) : (s.replaced g).holders = [] := by
  have hloaded : (s.loaded g).chairHolders = [] := by
    rw [chairHolders, show (s.loaded g).holders = s.holders from rfl, h]
    rfl
  unfold replaced adopted
  rw [(reviewRestraint_frame _).holders]
  exact hloaded

/-- What start-up's recall leaves of a controller in RECALLING (R172, R174). -/
theorem FloorOk.recalledAtStart (h : s.FloorOk) (hstart : s.startUp.state = .recalling) :
    s.recalledAtStart.classes = s.profile.recalled.classes ∧ s.recalledAtStart.branches = s.profile.recalled.branches
      ∧ s.recalledAtStart.floorCfg = s.profile.recalled.floorCfg
      ∧ s.recalledAtStart.profile = { s.profile with status := s.profile.recalledStatus }
      ∧ s.recalledAtStart.floor = .closed ∧ s.recalledAtStart.holders = []
      ∧ s.recalledAtStart.channels = s.channels ∧ s.recalledAtStart.grantOrder = s.grantOrder
      ∧ s.recalledAtStart.list.entries = [] := by
  obtain ⟨hfloor, hlist, hholders, -⟩ := h.still (by rw [hstart]; decide)
  generalize hu : s.withProfile { s.profile with status := s.profile.recalledStatus } = u
  have hsame : u.floor = s.floor ∧ u.list = s.list ∧ u.holders = s.holders ∧ u.channels = s.channels
      ∧ u.grantOrder = s.grantOrder ∧ u.profile = { s.profile with status := s.profile.recalledStatus } := by
    subst hu
    exact ⟨rfl, rfl, rfl, rfl, rfl, rfl⟩
  obtain ⟨hufloor, hulist, huholders, huchannels, huorder, huprofile⟩ := hsame
  obtain ⟨hclasses, hbranches, hcfg, hprofile, -, -, hfloor', hchannels, horder, hentries, -⟩ :=
    replaced_rest s.profile.recalled u
  have heq : s.recalledAtStart = (u.replaced s.profile.recalled).initialBudgets := by rw [recalledAtStart_eq, hu]
  rw [heq]
  obtain ⟨h1, h2, h3, h4, h5, h6, h7, h8⟩ := initialBudgets_rest (u.replaced s.profile.recalled)
  refine ⟨h1.trans hclasses, h2.trans hbranches, h3.trans hcfg, ?_, ?_, ?_, ?_, ?_, ?_⟩
  · rw [h4, hprofile, huprofile]
  · rw [h5, hfloor', hufloor, hfloor]
  · rw [h6, replaced_holders_of_nil (by rw [huholders, hholders])]
  · rw [h7, hchannels, huchannels]
  · rw [h8, horder, huorder]
  · have hempty := reload_entries_of_empty (s := u.replaced s.profile.recalled) (by rw [hentries, hulist, hlist])
    rwa [reload] at hempty

theorem FloorOk.recalledAtStart_seat (h : s.FloorOk) (hstart : s.startUp.state = .recalling) (n : SeatNo) :
    s.recalledAtStart.seat n = ⟨s.profile.recalled.seats[n], { (s.seat n).run with
      budget := (s.profile.recalled.classes.record (s.profile.recalled.seats[n]).cls).initial }⟩ := by
  have hseat := FloorOk.replaced_seat (s := s.withProfile { s.profile with status := s.profile.recalledStatus }) h hstart
    s.profile.recalled n
  have hclasses := (replaced_rest s.profile.recalled
    (s.withProfile { s.profile with status := s.profile.recalledStatus })).1
  rw [recalledAtStart_eq, initialBudgets_eq, markAll_seat, seat_budgetsSet, hclasses, hseat]
  rfl

/-- The marks of start-up's recall: R38's pruning, and then those of R9. -/
theorem FloorOk.recalledAtStart_ports (h : s.FloorOk) (hstart : s.startUp.state = .recalling) :
    s.recalledAtStart.ports = (((s.withBranches s.profile.recalled.branches).prune).markAll (allSeats.filter fun n =>
      (s.seat n).run.budget != (s.recalledAtStart.seat n).run.budget && s.recalledAtStart.floorCfg.showBudget
        && s.recalledAtStart.applies n)).ports := by
  generalize hu : s.withProfile { s.profile with status := s.profile.recalledStatus } = u
  have hok : u.FloorOk := hu ▸ h
  have hstartu : u.startUp.state = .recalling := hu ▸ hstart
  have hseatu (n : SeatNo) : u.seat n = s.seat n := by subst hu; rfl
  have hprune : (u.loaded s.profile.recalled).ports = ((s.withBranches s.profile.recalled.branches).prune).ports := by
    subst hu
    rfl
  obtain ⟨hclasses, hbranches, hcfg, -, -, -, -, -, -, -, hports⟩ := replaced_rest s.profile.recalled u
  have hseat (n : SeatNo) := hok.replaced_seat hstartu s.profile.recalled n
  have heq : s.recalledAtStart = (u.replaced s.profile.recalled).initialBudgets := by rw [recalledAtStart_eq, hu]
  have hlist : ((u.replaced s.profile.recalled).seatsWhere fun n r =>
      r.run.budget != ((u.replaced s.profile.recalled).classes.record r.cfg.cls).initial && r.run.floor != .speaking
        && (u.replaced s.profile.recalled).floorCfg.showBudget && (u.replaced s.profile.recalled).applies n) =
      allSeats.filter fun n => (s.seat n).run.budget != (s.recalledAtStart.seat n).run.budget
        && s.recalledAtStart.floorCfg.showBudget && s.recalledAtStart.applies n := by
    rw [seatsWhere_eq_filter]
    refine List.filter_congr fun n _ => ?_
    have hidle : (s.seat n).run.floor = .idle := (h.absent_record (h.absent hstart n)).1
    obtain ⟨hclasses', -, hcfg', -⟩ := h.recalledAtStart hstart
    rw [applies, applies, h.recalledAtStart_seat hstart, hseat, hseatu, hclasses, hclasses', hcfg, hcfg', hidle]
    have hne : (SeatFloor.idle != SeatFloor.speaking) = true := by decide
    dsimp only
    rw [hne, Bool.and_true]
  have hset (v : State) : v.budgetsSet.branches = v.branches ∧ v.budgetsSet.ports = v.ports := ⟨rfl, rfl⟩
  obtain ⟨hb, hp⟩ := hset (u.replaced s.profile.recalled)
  have hmarked := congrArg State.ports (heq.trans (initialBudgets_eq _))
  rw [hmarked, hlist]
  exact markAll_ports_congr (s := (s.withBranches s.profile.recalled.branches).prune) _ (hb.trans hbranches)
    (hp.trans (hports.trans hprune))

end State

/-- Settles O41: in RECALLING no seat is PRESENT, so the replacement is the tables alone, and the list stays empty. -/
theorem startUpRecallsAndBecomesReady : Obligations.StartUpRecallsAndBecomesReady := by
  unfold Obligations.StartUpRecallsAndBecomesReady
  intro s hok
  refine ⟨fun hstart => ?_, fun hstart => ?_, fun hearly => ?_, fun hstart htime => ?_⟩
  · have hexec : Machine.exec .startUpRecallComplete s = .next (s.recalledAtStart.withStartUp
        { s.startUp with state := .rollCall, since := s.now, opens := s.profile.recalled.floorCfg.openAtStart }) := by
      rw [← State.startUpRecall_of_absent (hok.absent hstart)]
      exact congrArg Host.Outcome.next (if_pos hstart)
    obtain ⟨hclasses, hbranches, hcfg, hprofile, hfloor, hholders, hchannels, horder, hentries⟩ := hok.recalledAtStart hstart
    have hseat (n : SeatNo) := hok.recalledAtStart_seat hstart n
    have hports := hok.recalledAtStart_ports hstart
    generalize s.recalledAtStart = u at *
    refine ⟨_, hexec, fun n => ?_, hclasses, hbranches, hcfg, hprofile, rfl, hchannels, horder, hholders, hfloor,
      hentries, (s.withBranches s.profile.recalled.branches).prune, ?_, fun b => ?_, ?_⟩
    · change (u.seat n).cfg = _ ∧ (u.seat n).run = _
      rw [hseat]
      exact ⟨rfl, rfl⟩
    · change _ = (s.withBranches u.branches).withPorts _
      rw [hbranches]
      rfl
    · rw [State.prune_port, ← hbranches]
      rfl
    · exact hports
  · exact congrArg Host.Outcome.next (if_neg hstart)
  · refine congrArg Host.Outcome.next (if_neg ?_)
    rw [State.rollCallOver_iff]
    rintro ⟨hroll, htime⟩
    obtain h | h := hearly
    · exact h hroll
    · omega
  · obtain ⟨-, hlist, -⟩ := hok.still (by rw [hstart]; decide)
    have hover : s.rollCallOver = true := (State.rollCallOver_iff s).2 ⟨hstart, htime⟩
    refine congrArg Host.Outcome.next ((if_pos hover).trans ?_)
    dsimp only
    rw [State.withStartUp_startUp]
    dsimp only
    split
    · exact State.fillRule_of_empty hlist
    · rfl

end Sys2Proof.Machine
end

section
/-! PROOF. Insertions, removals and relistings of the request list as whole acts: the places, restraint with its notice,
and the marks. -/

namespace Sys2Proof.Machine

namespace State

/-! ### The seats whose position an act moves -/

theorem positionIn_cons (x : Entry) (l : List Entry) (n : SeatNo) :
    positionIn (x :: l) n = if x.seat = n then 1 else if n ∈ l.map Entry.seat then positionIn l n + 1 else 0 := by
  unfold positionIn
  rw [List.findIdx?_cons]
  by_cases hx : x.seat = n
  · simp [hx]
  · simp only [hx, if_false, beq_iff_eq]
    cases hfind : l.findIdx? fun e => e.seat == n with
    | none =>
      have hout : n ∉ l.map Entry.seat := by
        rw [List.findIdx?_eq_none_iff] at hfind
        rintro hmem
        obtain ⟨e, he, rfl⟩ := List.mem_map.1 hmem
        simpa using hfind e he
      simp [hout]
    | some k =>
      have hin : n ∈ l.map Entry.seat := by
        obtain ⟨e, he, hen⟩ := List.findIdx?_isSome.symm.trans (by rw [hfind]; rfl) |> List.any_eq_true.1
        exact List.mem_map.2 ⟨e, he, by simpa using hen⟩
      simp [hin]

theorem positionIn_of_not_mem {l : List Entry} {n : SeatNo} (h : n ∉ l.map Entry.seat) : positionIn l n = 0 := by
  cases l with
  | nil => rfl
  | cons x l =>
    rw [List.map_cons, List.mem_cons, not_or] at h
    rw [positionIn_cons, if_neg (Ne.symm h.1), if_neg h.2]

theorem positionIn_pos {l : List Entry} {n : SeatNo} (h : n ∈ l.map Entry.seat) : 1 ≤ positionIn l n := by
  cases l with
  | nil => cases h
  | cons x l =>
    rw [positionIn_cons]
    split
    · exact le_rfl
    · next hx =>
      rw [List.map_cons, List.mem_cons] at h
      rw [if_pos (h.resolve_left (Ne.symm hx))]
      omega

/-- Behind other entries a seat's position counts them (R69). -/
theorem positionIn_append {ahead l : List Entry} {n : SeatNo} (h : n ∉ ahead.map Entry.seat) (hl : n ∈ l.map Entry.seat) :
    positionIn (ahead ++ l) n = ahead.length + positionIn l n := by
  induction ahead with
  | nil => simp
  | cons x ahead ih =>
    rw [List.map_cons, List.mem_cons, not_or] at h
    have hmem : n ∈ (ahead ++ l).map Entry.seat := by
      rw [List.map_append]
      exact List.mem_append_right _ hl
    rw [List.cons_append, positionIn_cons, if_neg (Ne.symm h.1), if_pos hmem, ih h.2, List.length_cons]
    omega

/-- Ahead of other entries a seat's position does not depend on them (R69). -/
theorem positionIn_append_left {ahead : List Entry} (l l' : List Entry) {n : SeatNo} (h : n ∈ ahead.map Entry.seat) :
    positionIn (ahead ++ l) n = positionIn (ahead ++ l') n := by
  induction ahead with
  | nil => cases h
  | cons x ahead ih =>
    rw [List.cons_append, List.cons_append, positionIn_cons, positionIn_cons]
    split
    · rfl
    · next hx =>
      rw [List.map_cons, List.mem_cons] at h
      have hin := h.resolve_left (Ne.symm hx)
      have hmem (k : List Entry) : n ∈ (ahead ++ k).map Entry.seat := by
        rw [List.map_append]
        exact List.mem_append_left _ hin
      rw [if_pos (hmem l), if_pos (hmem l'), ih hin]

/-- The seats whose position differs between two lists, in the order of the second (R69). -/
def movedIn (before after : List Entry) : List SeatNo :=
  (after.map Entry.seat).filter fun n => positionIn before n != positionIn after n

theorem movedIn_append (ahead before after : List Entry) :
    movedIn (ahead ++ before) (ahead ++ after) = ((after.map Entry.seat).filter fun n =>
      positionIn (ahead ++ before) n != positionIn (ahead ++ after) n) := by
  unfold movedIn
  rw [List.map_append, List.filter_append]
  have hnone : ((ahead.map Entry.seat).filter fun n =>
      positionIn (ahead ++ before) n != positionIn (ahead ++ after) n) = [] := by
    rw [List.filter_eq_nil_iff]
    intro n hn
    rw [positionIn_append_left before after hn]
    simp
  rw [hnone, List.nil_append]

/-- An insertion moves the inserted seat and every seat behind it (R66). -/
theorem movedIn_of_insertion {ahead behind : List Entry} {e : Entry}
    (hnodup : ((ahead ++ behind).map Entry.seat).Nodup) (hout : e.seat ∉ (ahead ++ behind).map Entry.seat) :
    movedIn (ahead ++ behind) (ahead ++ e :: behind) = e.seat :: behind.map Entry.seat := by
  rw [movedIn_append, List.filter_eq_self.2, List.map_cons]
  intro n hn
  rw [List.map_append, List.nodup_append] at hnodup
  rw [List.map_append, List.mem_append, not_or] at hout
  rw [bne_iff_ne]
  rw [List.map_cons, List.mem_cons] at hn
  obtain rfl | hn := hn
  · rw [positionIn_of_not_mem (by rw [List.map_append, List.mem_append, not_or]; exact hout),
      positionIn_append hout.1 (by simp)]
    have := positionIn_pos (l := e :: behind) (n := e.seat) (by simp)
    omega
  · have hahead : n ∉ ahead.map Entry.seat := fun h => hnodup.2.2 n h n hn rfl
    have hne : e.seat ≠ n := fun h => hout.2 (h ▸ hn)
    rw [positionIn_append hahead hn, positionIn_append hahead (by simp [hn]), positionIn_cons, if_neg hne, if_pos hn]
    omega

/-- A removal moves every seat behind the removed one (R70). -/
theorem movedIn_of_removal {ahead behind : List Entry} {e : Entry}
    (hnodup : ((ahead ++ e :: behind).map Entry.seat).Nodup) :
    movedIn (ahead ++ e :: behind) (ahead ++ behind) = behind.map Entry.seat := by
  rw [movedIn_append, List.filter_eq_self.2]
  intro n hn
  rw [List.map_append, List.nodup_append, List.map_cons, List.nodup_cons] at hnodup
  obtain ⟨-, ⟨hout, -⟩, hdisjoint⟩ := hnodup
  have hahead : n ∉ ahead.map Entry.seat := fun h => hdisjoint n h n (List.mem_cons_of_mem _ hn) rfl
  have hne : e.seat ≠ n := fun h => hout (h ▸ hn)
  rw [bne_iff_ne, positionIn_append hahead hn, positionIn_append hahead (by simp [hn]), positionIn_cons, if_neg hne,
    if_pos hn]
  omega

variable {s : State}

theorem markMoved_eq (s : State) (before : List Entry) : s.markMoved before = s.markAll (movedIn before s.list.entries) := rfl

/-! ### Restraint and its notice -/

/-- The state told of a change of restraint, where there is one (R78). -/
def toldRestraint (s : State) (before : Bool) (q : Reason) : State :=
  if s.list.restraint = before then s else s.notice .restraint none none (some q)

theorem setRestraint_told {r : Bool} {q : Reason}
    (hq : r ≠ s.list.restraint → q = if r then .set else .clear) :
    s.setRestraint r = (s.withList { s.list with restraint := r }).toldRestraint s.list.restraint q := by
  obtain ⟨hsame, h⟩ | ⟨hchanged, h⟩ := s.setRestraint_cases r
  · subst hsame
    exact h.trans (if_pos rfl).symm
  · rw [← hq hchanged] at h
    exact h.trans (if_neg hchanged).symm

theorem TellsAlike.toldRestraint {s t : State} (h : TellsAlike s t) (before : Bool) (q : Reason) :
    TellsAlike (s.toldRestraint before q) (t.toldRestraint before q) := by
  unfold State.toldRestraint
  rw [h.list]
  split
  · exact h
  · exact h.notice ..

/-! ### The tells of an insertion -/

/-- The entry an insertion places (R66). -/
def inserted (s : State) (e : Entry) : Entry := { e with arrival := s.list.arrival + 1, exhausted := s.isExhausted e.seat }

variable {e : Entry} {place : Entry → List Entry → List Entry}

/-- An insertion's steps after its place: the floor state, restraint and the marks (R66). -/
theorem insertBy_eq (h : s.entryOf e.seat = none) : s.insertBy place e =
    ((((s.withList { (s.insertBy place e).list with restraint := s.list.restraint }).seatFloor e.seat .waiting none).setRestraint
      (s.insertBy place e).list.restraint).markMoved s.list.entries) := by
  rw [insertBy_list s place e h]
  unfold insertBy
  rw [if_neg (by rw [h]; simp)]
  rfl

theorem insertBy_restraint (h : s.entryOf e.seat = none) (hlength : ∀ e l, (place e l).length = l.length + 1) :
    (s.insertBy place e).list.restraint =
      (s.list.restraint || decide (s.floorCfg.high ≤ s.list.entries.length + 1)) := by
  rw [insertBy_list s place e h]
  simp only [restraintAfterInsertion, hlength]

/-- What an insertion tells: restraint set by it (R78). -/
theorem insertBy_told (h : s.entryOf e.seat = none) :
    (s.insertBy place e).uplink = ((s.withList (s.insertBy place e).list).toldRestraint s.list.restraint .set).uplink
      ∧ (s.insertBy place e).mgmt = ((s.withList (s.insertBy place e).list).toldRestraint s.list.restraint .set).mgmt := by
  have heq := insertBy_eq (place := place) h
  generalize ht : s.insertBy place e = t at heq
  have hrestraint : t.list.restraint = restraintAfterInsertion s.floorCfg s.list.restraint t.list.entries.length := by
    rw [← ht, insertBy_list s place e h]
  have hset : t.list.restraint ≠ s.list.restraint → Reason.set = if t.list.restraint then .set else .clear := by
    intro hchanged
    have htrue : t.list.restraint = true := by
      cases hr : s.list.restraint with
      | true =>
        rw [hrestraint, hr]
        rfl
      | false =>
        rw [hr] at hchanged
        exact Bool.eq_true_of_not_eq_false hchanged
    rw [htrue]
    rfl
  rw [setRestraint_told (by exact hset)] at heq
  have halike : TellsAlike (s.withList t.list)
      (((s.withList { t.list with restraint := s.list.restraint }).seatFloor e.seat .waiting none).withList
        { t.list with restraint := t.list.restraint }) := ⟨rfl, rfl, rfl, rfl, rfl, rfl, rfl⟩
  replace halike := halike.toldRestraint s.list.restraint .set
  have huplink := congrArg State.uplink heq
  have hmgmt := congrArg State.mgmt heq
  rw [markMoved_uplink] at huplink
  rw [markMoved_mgmt] at hmgmt
  exact ⟨huplink.trans halike.uplink, hmgmt.trans halike.mgmt⟩

theorem notice_withPorts (s : State) (p : BranchPorts) (k : NoticeKind) (n : Option SeatNo) (c : Option ChanNo)
    (q : Option Reason) : (s.withPorts p).notice k n c q = (s.notice k n c q).withPorts p := by
  have hnotifies : (s.withPorts p).notifies k = s.notifies k := rfl
  unfold notice
  rw [hnotifies]
  split
  · unfold enqueue
    rw [withPorts_uplink]
    split <;> rfl
  · rfl

/-- What a notice after an insertion adds to what the insertion tells. -/
theorem insertBy_notice_told (h : s.entryOf e.seat = none) (hfloor : (s.insertBy place e).floor = s.floor)
    (hcfg : (s.insertBy place e).floorCfg = s.floorCfg) (hbranches : (s.insertBy place e).branches = s.branches)
    (k : NoticeKind) (n : Option SeatNo) (c : Option ChanNo) (q : Option Reason) :
    let told := ((s.withList (s.insertBy place e).list).toldRestraint s.list.restraint .set).notice k n c q
    ((s.insertBy place e).notice k n c q).uplink = told.uplink ∧ ((s.insertBy place e).notice k n c q).mgmt = told.mgmt := by
  intro told
  obtain ⟨huplink, hmgmt⟩ := insertBy_told (place := place) h
  have hframe : GrantFrame (s.withList (s.insertBy place e).list)
      ((s.withList (s.insertBy place e).list).toldRestraint s.list.restraint .set) := by
    unfold State.toldRestraint
    split
    · exact .refl _
    · exact notice_grantFrame ..
  have hlist : ((s.withList (s.insertBy place e).list).toldRestraint s.list.restraint .set).list = (s.insertBy place e).list := by
    unfold State.toldRestraint
    split
    · rfl
    · exact notice_list ..
  have halike : TellsAlike (s.insertBy place e)
      (((s.withList (s.insertBy place e).list).toldRestraint s.list.restraint .set).withPorts (s.insertBy place e).ports) :=
    ⟨hframe.frame.branches.trans hbranches.symm, hframe.floorCfg.trans hcfg.symm, rfl, huplink.symm, hlist,
      hframe.floor.trans hfloor.symm, hmgmt.symm⟩
  replace halike := halike.notice k n c q
  rw [notice_withPorts] at halike
  exact ⟨halike.uplink.symm, halike.mgmt.symm⟩

theorem insertBy_ports (h : s.entryOf e.seat = none) :
    (s.insertBy place e).ports = (s.markAll (movedIn s.list.entries (s.insertBy place e).list.entries)).ports := by
  have heq := insertBy_eq (place := place) h
  generalize s.insertBy place e = t at heq
  have hports := congrArg State.ports heq
  rw [markMoved_eq, setRestraint_list] at hports
  rw [hports]
  exact markAll_ports_congr _ (setRestraint_grantFrame _ _).frame.branches (setRestraint_ports _ _)

/-- A list act that leaves channels and grant order changes the list, the seats and what it tells. -/
theorem GrantFrame.eq_with_list {t : State} (h : GrantFrame s t) (hchannels : t.channels = s.channels)
    (horder : t.grantOrder = s.grantOrder) :
    t = ((((s.withList t.list).withSeats t.seats).withPorts t.ports).withUplink t.uplink).withMgmt t.mgmt := by
  have heq := h.eq_with
  rw [hchannels, horder] at heq
  exact heq

theorem entryOf_eq_none {n : SeatNo} (h : n ∉ s.list.entries.map Entry.seat) : s.entryOf n = none := by
  rw [← Option.not_isSome_iff_eq_none, entryOf_isSome_iff]
  exact h

/-- An insertion between two parts of the list as one act (R66). -/
theorem insertBy_whole {ahead behind : List Entry} (hsplit : s.list.entries = ahead ++ behind)
    (hplace : place (s.inserted e) s.list.entries = ahead ++ s.inserted e :: behind)
    (hlist : s.ListOk) (hout : e.seat ∉ s.list.entries.map Entry.seat) :
    (s.insertBy place e).list = ⟨ahead ++ s.inserted e :: behind,
        s.list.restraint || decide (s.floorCfg.high ≤ s.list.entries.length + 1), s.list.arrival + 1⟩
      ∧ (s.insertBy place e).ports = (s.markAll (e.seat :: behind.map Entry.seat)).ports := by
  obtain ⟨-, hnodup, -⟩ := hlist
  have hnone := entryOf_eq_none hout
  have hentries : (s.insertBy place e).list = ⟨ahead ++ s.inserted e :: behind,
      s.list.restraint || decide (s.floorCfg.high ≤ s.list.entries.length + 1), s.list.arrival + 1⟩ := by
    have hlength : (ahead ++ s.inserted e :: behind).length = s.list.entries.length + 1 := by
      rw [hsplit]
      simp only [List.length_append, List.length_cons]
      omega
    rw [insertBy_list s place e hnone]
    change (⟨place (s.inserted e) s.list.entries, restraintAfterInsertion _ _ (place (s.inserted e) s.list.entries).length,
      _⟩ : RequestList) = _
    rw [hplace, hlength]
    rfl
  refine ⟨hentries, ?_⟩
  rw [insertBy_ports hnone, hentries, hsplit]
  refine congrArg (fun l => (s.markAll l).ports) ?_
  exact movedIn_of_insertion (e := s.inserted e) (hsplit ▸ hnodup) (hsplit ▸ hout)

/-! ### The tells of a removal -/

/-- The state told of an entry that leaves, and of restraint that a removal clears (R70, R78). -/
def toldRemoval (s : State) (n : SeatNo) (r : Reason) : State :=
  let told := (s.withList { s.list with entries := without s.list.entries n }).notice .unlisted (some n) none (some r)
  if restraintAfterRemoval s.floorCfg s.list.restraint (without s.list.entries n).length = s.list.restraint then told
  else told.notice .restraint none none (some .clear)

theorem TellsAlike.toldRemoval {s t : State} (h : TellsAlike s t) (n : SeatNo) (r : Reason) :
    TellsAlike (s.toldRemoval n r) (t.toldRemoval n r) := by
  have hlist : TellsAlike (s.withList { s.list with entries := without s.list.entries n })
      (t.withList { t.list with entries := without t.list.entries n }) :=
    ⟨h.branches, h.floorCfg, h.ports, h.uplink, by rw [withList_list, withList_list, h.list], h.floor, h.mgmt⟩
  unfold State.toldRemoval
  rw [h.floorCfg, h.list]
  rw [h.list] at hlist
  dsimp only
  split
  · exact hlist.notice ..
  · exact (hlist.notice ..).notice ..

theorem takeOut_told (s : State) (n : SeatNo) (r : Reason) :
    (s.takeOut n r).uplink = (s.toldRemoval n r).uplink ∧ (s.takeOut n r).mgmt = (s.toldRemoval n r).mgmt := by
  unfold takeOut toldRemoval
  dsimp only
  rw [markMoved_uplink, markMoved_mgmt, mark_uplink, mark_mgmt]
  generalize hu : (s.withList { s.list with entries := without s.list.entries n }).notice .unlisted (some n) none (some r) = u
  have hlist : u.list = { s.list with entries := without s.list.entries n } := by rw [← hu, notice_list]; rfl
  have hcfg : u.floorCfg = s.floorCfg := by rw [← hu, notice_floorCfg]; rfl
  have hkept : restraintAfterRemoval u.floorCfg u.list.restraint u.fill =
      restraintAfterRemoval s.floorCfg s.list.restraint (without s.list.entries n).length := by
    rw [fill, hlist, hcfg]
  have hrestraint : u.list.restraint = s.list.restraint := by rw [hlist]
  rw [hkept]
  generalize hr : restraintAfterRemoval s.floorCfg s.list.restraint (without s.list.entries n).length = kept
  obtain ⟨hsame, h⟩ | ⟨hchanged, h⟩ := u.setRestraint_cases kept
  · rw [h, if_pos (hsame.trans hrestraint)]
    exact ⟨rfl, rfl⟩
  · have hclear : kept = false := by
      rw [hrestraint, ← hr, restraintAfterRemoval] at hchanged
      rw [← hr, restraintAfterRemoval]
      cases hb : s.list.restraint with
      | false => rfl
      | true =>
        rw [hb] at hchanged
        exact eq_false_of_ne_true hchanged
    rw [hrestraint] at hchanged
    rw [h, if_neg hchanged, ← notice_withRestraint, hclear]
    exact ⟨rfl, rfl⟩

theorem takeOut_ports (s : State) (n : SeatNo) (r : Reason) :
    (s.takeOut n r).ports = (s.markAll (n :: movedIn s.list.entries (without s.list.entries n))).ports := by
  have hmoved (u : State) : ((u.mark n).markMoved s.list.entries) = u.markAll (n :: movedIn s.list.entries u.list.entries) := by
    rw [markMoved_eq, mark_list]
    rfl
  unfold takeOut
  dsimp only
  rw [hmoved, setRestraint_list, notice_list, withList_list]
  refine markAll_ports_congr _ ?_ ?_
  · rw [(setRestraint_grantFrame _ _).frame.branches, notice_branches, withList_branches]
  · rw [setRestraint_ports, notice_ports, withList_ports]

theorem removeEntry_of_listed {n : SeatNo} (r : Reason) (h : n ∈ s.list.entries.map Entry.seat) :
    s.removeEntry n r = (s.seatFloor n .idle none).takeOut n r := if_pos ((entryOf_isSome_iff s n).2 h)

theorem removeEntry_of_unlisted {n : SeatNo} (r : Reason) (h : n ∉ s.list.entries.map Entry.seat) :
    s.removeEntry n r = s := if_neg fun hn => h ((entryOf_isSome_iff s n).1 hn)

theorem removeEntry_told {n : SeatNo} (r : Reason) (h : n ∈ s.list.entries.map Entry.seat) :
    (s.removeEntry n r).uplink = (s.toldRemoval n r).uplink ∧ (s.removeEntry n r).mgmt = (s.toldRemoval n r).mgmt := by
  have halike : TellsAlike s (s.seatFloor n .idle none) := ⟨rfl, rfl, rfl, rfl, rfl, rfl, rfl⟩
  replace halike := halike.toldRemoval n r
  obtain ⟨huplink, hmgmt⟩ := takeOut_told (s.seatFloor n .idle none) n r
  rw [removeEntry_of_listed r h, huplink, hmgmt]
  exact ⟨halike.uplink, halike.mgmt⟩

theorem removeEntry_ports {n : SeatNo} (r : Reason) (h : n ∈ s.list.entries.map Entry.seat) :
    (s.removeEntry n r).ports = (s.markAll (n :: movedIn s.list.entries (without s.list.entries n))).ports := by
  rw [removeEntry_of_listed r h, takeOut_ports]
  exact markAll_ports_congr _ rfl rfl

theorem without_append {ahead behind : List Entry} {e : Entry} (hnodup : ((ahead ++ e :: behind).map Entry.seat).Nodup) :
    without (ahead ++ e :: behind) e.seat = ahead ++ behind := by
  rw [List.map_append, List.nodup_append, List.map_cons, List.nodup_cons] at hnodup
  obtain ⟨-, ⟨hout, -⟩, hdisjoint⟩ := hnodup
  have hkeep {l : List Entry} (hl : e.seat ∉ l.map Entry.seat) : without l e.seat = l := by
    refine List.filter_eq_self.2 fun x hx => ?_
    rw [bne_iff_ne]
    exact fun hxe => hl (List.mem_map.2 ⟨x, hx, hxe⟩)
  have hahead : e.seat ∉ ahead.map Entry.seat := fun h => hdisjoint _ h _ List.mem_cons_self rfl
  have hself : without (e :: behind) e.seat = behind := by
    rw [without, List.filter_cons, if_neg (by simp)]
    exact hkeep hout
  rw [without, List.filter_append]
  exact congrArg₂ _ (hkeep hahead) hself

/-- The entry of a relisting, before its arrival number (R67). -/
def relistedEntry (s : State) (n : SeatNo) (l : Level) : Entry :=
  { seat := n, kind := .speak, claimed := l, effective := max l (s.seat n).cfg.speak, arrival := 0
    clamped := decide (l < (s.seat n).cfg.speak), exhausted := false, relisted := true, upgraded := false }

theorem relist_of_room {n : SeatNo} {l : Level} (hroom : s.list.entries.length < 64) (h : s.entryOf n = none) :
    s.relist n l = (s.insertBy placeRelisted (s.relistedEntry n l)).notice .listed (some n) none (some .displaced) := by
  obtain ⟨hfull | hlisted, -⟩ | ⟨-, -, heq⟩ := s.relist_cases n l
  · exact absurd hroom (not_lt.2 hfull)
  · rw [h] at hlisted
    cases hlisted
  · exact heq

end State

/-- Settles O17: each act by its place in the list, restraint and its notice, and the seats whose position moves. -/
theorem insertionsAndRemovalsAreWhole : Obligations.InsertionsAndRemovalsAreWhole := by
  unfold Obligations.InsertionsAndRemovalsAreWhole
  refine ⟨fun s e hlist hout => ?_, fun s n r hlist => ⟨fun hout => State.removeEntry_of_unlisted r hout,
    fun ahead behind e hsplit hseat => ?_⟩, fun s n l hlist => ⟨fun hfull => if_pos (by simp [State.fill, hfull]),
    fun hroom hout => ?_⟩⟩
  · obtain ⟨-, -, hsorted⟩ := id hlist
    have hnone := State.entryOf_eq_none hout
    obtain ⟨hentries, hports⟩ := State.insertBy_whole (e := e)
      (le_append_gt_of_sorted hsorted e.effective).symm (State.placeEntry_of_sorted (s.inserted e) hsorted) hlist hout
    obtain ⟨huplink, hmgmt⟩ := State.insertBy_told (place := State.placeEntry) hnone
    refine ⟨hentries, fun n => ?_, hports, ?_, (s.insertEntry_grantFrame e).eq_with_list (s.insertEntry_channels e)
      (s.insertEntry_grantOrder e)⟩
    · refine (State.insertBy_seat _ _ _ hnone n).trans ?_
      simp only [eq_comm]
    · have hrestraint := congrArg RequestList.restraint hentries
      change (s.insertEntry e).list.restraint = _ at hrestraint
      change (s.insertEntry e).uplink = ((s.withList (s.insertEntry e).list).toldRestraint s.list.restraint .set).uplink at huplink
      change (s.insertEntry e).mgmt = ((s.withList (s.insertEntry e).list).toldRestraint s.list.restraint .set).mgmt at hmgmt
      rw [State.toldRestraint, State.withList_list, hrestraint] at huplink hmgmt
      dsimp only at huplink hmgmt ⊢
      rw [huplink, hmgmt]
      split <;> exact ⟨rfl, rfl⟩
  · obtain ⟨-, hnodup, -⟩ := id hlist
    subst hseat
    have hin : e.seat ∈ s.list.entries.map Entry.seat := by simp [hsplit]
    have hwithout : State.without s.list.entries e.seat = ahead ++ behind := by
      rw [hsplit]
      exact State.without_append (hsplit ▸ hnodup)
    have hmoved : State.movedIn s.list.entries (ahead ++ behind) = behind.map Entry.seat := by
      rw [hsplit]
      exact State.movedIn_of_removal (hsplit ▸ hnodup)
    obtain ⟨huplink, hmgmt⟩ := State.removeEntry_told r hin
    have hkept : restraintAfterRemoval s.floorCfg s.list.restraint (ahead ++ behind).length =
        (s.list.restraint && decide (s.floorCfg.low < (ahead ++ behind).length)) := by
      rw [restraintAfterRemoval]
      by_cases hlow : (ahead ++ behind).length ≤ s.floorCfg.low
      · simp only [hlow, decide_true, Bool.not_true, not_lt.2 hlow, decide_false]
      · simp only [hlow, decide_false, Bool.not_false, not_le.1 hlow, decide_true]
    refine ⟨?_, fun m => ?_, ?_, ?_, (s.removeEntry_grantFrame e.seat r).eq_with_list (s.removeEntry_channels e.seat r)
      (s.removeEntry_grantOrder e.seat r)⟩
    · rw [State.removeEntry_of_listed r hin, State.takeOut_list]
      change ({ s.list with
        entries := State.without s.list.entries e.seat
        restraint := restraintAfterRemoval s.floorCfg s.list.restraint
          (State.without s.list.entries e.seat).length } : RequestList) = _
      rw [hwithout, hkept]
    · rw [State.removeEntry_seat, (State.entryOf_isSome_iff s e.seat).2 hin]
      simp only [true_and, eq_comm]
    · rw [State.removeEntry_ports r hin, hwithout, hmoved]
    · rw [State.toldRemoval, hwithout, hkept] at huplink hmgmt
      exact ⟨huplink, hmgmt⟩
  · obtain ⟨-, -, hsorted⟩ := id hlist
    have hnone := State.entryOf_eq_none hout
    have hrelist := State.relist_of_room (l := l) hroom hnone
    have hframe := (s.relist_grantFrame n l).eq_with_list (s.relist_channels n l) (s.relist_grantOrder n l)
    generalize he : s.relistedEntry n l = e at hrelist
    have hseat : e.seat = n := by rw [← he]; rfl
    have heffective : e.effective = max l (s.seat n).cfg.speak := by rw [← he]; rfl
    have hinserted : s.inserted e = { (s.relistedEntry n l) with
        arrival := s.list.arrival + 1
        exhausted := s.applies n && (s.seat n).run.budget == 0 } := by
      rw [← he] at hseat ⊢
      rfl
    rw [← hseat] at hnone hout
    have hgrant := s.insertBy_grantFrame State.placeRelisted e
    obtain ⟨hentries, hports⟩ := State.insertBy_whole (e := e)
      (lt_append_ge_of_sorted hsorted e.effective).symm (State.placeRelisted_of_sorted (s.inserted e) hsorted) hlist hout
    have htold := State.insertBy_notice_told (place := State.placeRelisted) hnone hgrant.floor hgrant.floorCfg
      hgrant.frame.branches .listed (some n) none (some .displaced)
    have hseats (m : SeatNo) := State.insertBy_seat s State.placeRelisted e hnone m
    have hsame := congrArg State.ports hrelist
    rw [State.notice_ports] at hsame
    rw [← hsame] at hports
    generalize s.insertBy State.placeRelisted e = u at *
    intro t level e' behind r
    have htlist : t.list = u.list := (congrArg State.list hrelist).trans (State.notice_list ..)
    rw [hinserted, heffective] at hentries
    refine ⟨htlist.trans hentries, fun m => ?_, ?_, ?_, hframe⟩
    · change (s.relist n l).seat m = _
      rw [hrelist, State.notice_seat, hseats m, hseat]
      simp only [eq_comm]
    · rw [hseat, heffective] at hports
      exact hports
    · have hrestraint : t.list.restraint = r := congrArg RequestList.restraint (htlist.trans hentries)
      dsimp only at htold
      rw [← hrelist, ← htlist, State.toldRestraint, State.withList_list] at htold
      rw [hrestraint] at htold
      exact htold

end Sys2Proof.Machine
end

section
/-! PROOF. A BRANCH row write: its refusals, the pruned command sets, and the seats it moves. -/

namespace Sys2Proof.Machine

theorem branchOfIndex_of_large {index : Half} (h : 4 ≤ index.toNat) : branchOfIndex index = none := by
  unfold branchOfIndex
  split
  · omega
  · omega
  · omega
  · omega
  · rfl

theorem exec_writeTableBranch {m : MgmtHead} {index : Half} {row : List Byte} {s : State} {r : BranchRecord}
    {adjusted : Bool} (hread : readBranchRow row = some (r, adjusted))
    (htakes : s.Takes (mgmtFrame m .writeTable (2 :: bytesOf index ++ row))) (hstart : s.startUp.state ≠ .recalling)
    (hop : s.profile.op = none) :
    exec (.writeTableBranch m index row) s = .next (match branchOfIndex index with
      | some b => if s.branchRefused b r then s.answer m.tag (only .refusedRange)
        else (s.writeBranch b r).answer m.tag (only (doneOr adjusted))
      | none => s.answer m.tag (only .refusedRange)) := by
  refine (operate_of_takes m .writeTable _ (writeBranchRow index row) s htakes).trans ?_
  unfold writeBranchRow
  rw [hread]
  dsimp only
  rw [held_of_none _ _ _ (State.heldOff_write hstart hop)]
  cases branchOfIndex index with
  | none => rfl
  | some b =>
    dsimp only
    by_cases hrefused : s.branchRefused b r = true
    · rw [if_pos hrefused, if_pos hrefused]
    · rw [if_neg hrefused, if_neg hrefused]

namespace State

variable {s : State} {b : BranchId} {r : BranchRecord}

/-- The rows R164 refuses. -/
theorem branchRefused_iff : s.branchRefused b r = true ↔
    (1023 < r.first ∨ 1023 < r.last ∨ r.last < r.first ∨ 256 < r.last - r.first + 1 ∨
      (r.enabled = true ∧ ∃ x : BranchId, x ≠ b ∧ (s.branches.record x).enabled = true
        ∧ r.first ≤ (s.branches.record x).last ∧ (s.branches.record x).first ≤ r.last)) := by
  have hall (p : BranchId → Bool) : branchIds.any p = true ↔ ∃ x, p x = true := by
    rw [List.any_eq_true]
    refine ⟨fun ⟨x, _, hx⟩ => ⟨x, hx⟩, fun ⟨x, hx⟩ => ⟨x, ?_, hx⟩⟩
    cases x <;> decide
  simp only [branchRefused, Bool.or_eq_true, decide_eq_true_eq, Bool.and_eq_true, hall, bne_iff_ne, or_assoc, and_assoc]

theorem setBranch_branches : (s.setBranch b r).branches =
    { a := if b = .branchA then r else s.branches.a, b := if b = .branchB then r else s.branches.b
      c := if b = .branchC then r else s.branches.c, d := if b = .branchD then r else s.branches.d } := by
  cases b <;> rfl

theorem setBranch_eq (s : State) (b : BranchId) (r : BranchRecord) :
    s.setBranch b r = s.withBranches (s.setBranch b r).branches := rfl

/-- The state after the table has been stored and the command sets pruned, before any cascade. -/
theorem writeBranch_eq (s : State) (b : BranchId) (r : BranchRecord) : s.writeBranch b r =
    (s.setBranch b r).prune.cascade ((s.setBranch b r).prune.movedSeats s.branches) := rfl

theorem writeBranch_of_still (h : ∀ n : SeatNo, (s.seat n).run.present = true →
    (s.setBranch b r).branches.branchOf n = s.branches.branchOf n) : s.writeBranch b r = (s.setBranch b r).prune := by
  have hnone : (s.setBranch b r).prune.movedSeats s.branches = [] := by
    refine seatsWhere_eq_nil fun n => ?_
    rw [Bool.and_eq_false_imp]
    intro hpresent
    have hsame : (s.setBranch b r).prune.branches.branchOf n = s.branches.branchOf n := h n hpresent
    rw [hsame, bne_self_eq_false]
  rw [writeBranch_eq, hnone]
  rfl

theorem writeBranch_frame (s : State) (b : BranchId) (r : BranchRecord) :
    CascadeFrame ((s.setBranch b r).prune.movedSeats s.branches) (s.setBranch b r).prune (s.writeBranch b r) :=
  cascade_frame _ _

theorem writeBranch_present (s : State) (b : BranchId) (r : BranchRecord) (n : SeatNo) :
    ((s.writeBranch b r).seat n).run.present =
      ((s.seat n).run.present && (s.setBranch b r).branches.branchOf n == s.branches.branchOf n) := by
  have hseat : (s.setBranch b r).prune.seat n = s.seat n := rfl
  have hbranches : (s.setBranch b r).prune.branches = (s.setBranch b r).branches := rfl
  rw [writeBranch_eq, cascade_present, hseat, Bool.eq_iff_iff, Bool.and_eq_true, Bool.and_eq_true, Bool.not_eq_true',
    ← Bool.not_eq_true, List.contains_iff_mem, movedSeats, mem_seatsWhere, hseat, hbranches]
  cases hpresent : (s.seat n).run.present with
  | false => simp
  | true =>
    rw [Bool.true_and, bne_iff_ne, not_not, beq_iff_eq, eq_comm (a := s.branches.branchOf n)]

end State

/-- Settles O48: the refusals of R164, the pruned sets, and the cascade of the seats whose branch changed. -/
theorem branchRowWriteMovesSeats : Obligations.BranchRowWriteMovesSeats := by
  unfold Obligations.BranchRowWriteMovesSeats
  intro m index e f1 f0 l1 l0 s row r st htakes hstart hop
  have hread : readBranchRow row = some (r, decide (1 < e.toNat)) := by
    simp only [r, ← yes_eq]
    rfl
  have hexec := exec_writeTableBranch hread htakes hstart hop
  have hrefused : s.answer m.tag (only .refusedRange) = s.replied m.tag .refusedRange [] :=
    State.answer_reply_of_up htakes.1
  have hst : only (doneOr (decide (1 < e.toNat))) = .reply st [] := by
    simp only [only, doneOr, decide_eq_true_eq, st]
  rw [hrefused, hst] at hexec
  refine ⟨fun hlarge => ?_, fun b hb => ?_⟩
  · rw [hexec, branchOfIndex_of_large hlarge]
  intro table overlaps bad
  rw [hexec, hb]
  dsimp only
  have hbad : s.branchRefused b r = true ↔ bad := State.branchRefused_iff
  have htable : (s.setBranch b r).branches = table := State.setBranch_branches
  have hframe := s.writeBranch_frame b r
  have hanswer : (s.writeBranch b r).answer m.tag (.reply st []) = (s.writeBranch b r).replied m.tag st [] := by
    refine State.answer_reply_of_up ?_
    rw [hframe.uplink]
    exact htakes.1
  rw [hanswer]
  refine ⟨fun h => by rw [if_pos (hbad.2 h)], fun h hstill => ?_, fun h => ?_⟩
  · rw [if_neg (mt hbad.1 h)]
    rw [← htable] at hstill ⊢
    refine ⟨s.writeBranch b r, rfl, ?_⟩
    rw [State.writeBranch_of_still hstill]
    exact ⟨rfl, fun x => State.prune_port _ x⟩
  · rw [if_neg (mt hbad.1 h)]
    refine ⟨s.writeBranch b r, rfl, hframe.branches.trans htable, fun n => ⟨?_, ?_⟩, hframe.classes, hframe.floorCfg,
      hframe.floor, hframe.profile, hframe.startUp⟩
    · rw [hframe.seat n]
      rfl
    · rw [State.writeBranch_present, htable]

end Sys2Proof.Machine
end

section
/-! PROOF. A FLOOR row write, field by field in the order of R165. -/

namespace Sys2Proof.Machine

theorem exec_writeTableFloor {m : MgmtHead} {index : Half} {row : List Byte} {s : State} {f : FloorConfig}
    {adjusted : Bool} (hread : readFloorRow row = some (f, adjusted))
    (htakes : s.Takes (mgmtFrame m .writeTable (3 :: bytesOf index ++ row))) (hstart : s.startUp.state ≠ .recalling)
    (hop : s.profile.op = none) :
    exec (.writeTableFloor m index row) s = .next (if index = 0 then (s.writeFloor f).answer m.tag (only (doneOr adjusted))
      else s.answer m.tag (only .refusedRange)) := by
  refine (operate_of_takes m .writeTable _ (writeFloorRow index row) s htakes).trans ?_
  unfold writeFloorRow
  rw [hread]
  dsimp only
  rw [held_of_none _ _ _ (State.heldOff_write hstart hop)]
  by_cases hindex : index = 0
  · rw [if_pos hindex, if_pos hindex]
  · rw [if_neg hindex, if_neg hindex]

namespace State

variable {s t : State}

/-! ### Frames under a floor configuration -/

theorem GrantFrame.withFloorCfg (h : GrantFrame s t) (f : FloorConfig) :
    GrantFrame (s.withFloorCfg f) (t.withFloorCfg f) where
  frame := ⟨h.frame.now, h.frame.seat, h.frame.refusal, h.frame.classes, h.frame.branches, h.frame.port, h.frame.uplink,
    h.frame.mgmtErr, h.frame.profile, h.frame.startUp, h.frame.free, h.frame.pending⟩
  floorCfg := rfl
  holders := h.holders
  floor := h.floor
  replies := h.replies

theorem CascadeFrame.withFloorCfg {group : List SeatNo} (h : CascadeFrame group s t) (f : FloorConfig) :
    CascadeFrame group (s.withFloorCfg f) (t.withFloorCfg f) where
  toOuterFrame := ⟨h.now, h.classes, h.branches, rfl, h.floor, h.port, h.uplink, h.mgmtErr, h.profile, h.startUp, h.free,
    h.pending⟩
  seat := h.seat
  refusalOf := h.refusalOf

theorem foldl_cascade_frame (group : List SeatNo) (s : State) :
    CascadeFrame group s (group.foldl (fun s n => s.cascade [n]) s) := by
  induction group generalizing s with
  | nil => exact .refl s
  | cons n group ih => exact (cascade_frame s [n]).trans (ih _)

theorem mark_withFloorCfg (s : State) (f : FloorConfig) (n : SeatNo) :
    (s.withFloorCfg f).mark n = (s.mark n).withFloorCfg f := by
  unfold mark
  simp only [withFloorCfg_branches]
  split
  · rfl
  · next b _ =>
    have hport : (s.withFloorCfg f).port b = s.port b := by cases b <;> rfl
    rw [hport]
    split
    · cases b <;> rfl
    · rfl

theorem markAll_withFloorCfg (f : FloorConfig) (l : List SeatNo) (s : State) :
    (s.withFloorCfg f).markAll l = (s.markAll l).withFloorCfg f := by
  unfold markAll
  induction l generalizing s with
  | nil => rfl
  | cons n l ih => rw [List.foldl_cons, List.foldl_cons, mark_withFloorCfg, ih]

/-! ### The fields of a FLOOR row, each at its place (R165) -/

/-- A mode that changes is taken with its fill rule (R116). -/
def modeTaken (f : FloorConfig) (s : State) : State := if f.mode = s.floorCfg.mode then s else s.takeMode f.mode

/-- An open limit that changes is taken, a raised one with its fill rule (R117). -/
def limitTaken (f : FloorConfig) (s : State) : State := if f.limit = s.floorCfg.limit then s else s.takeLimit f.limit

/-- A gate level that changes is taken with its fill rule (R118). -/
def gateTaken (f : FloorConfig) (s : State) : State := if f.gate = s.floorCfg.gate then s else s.takeGate f.gate

/-- The marks are taken and restraint is evaluated under them (R79). -/
def marksTaken (f : FloorConfig) (s : State) : State :=
  (s.withFloorCfg { s.floorCfg with high := f.high, low := f.low }).reviewRestraint

/-- The fields of the level monitor and the presence timeout, which ends the presence of the seats heard longer ago
(R16, R152). -/
def presenceTaken (f : FloorConfig) (s : State) : State :=
  (s.withFloorCfg { s.floorCfg with
    silenceS := f.silenceS, onThreshold := f.onThreshold, offThreshold := f.offThreshold
    presenceMs := f.presenceMs }).expireOverdue s.floorCfg.presenceMs

/-- The last three fields, which have no consequence. -/
def restTaken (f : FloorConfig) (s : State) : State :=
  s.withFloorCfg { s.floorCfg with openAtStart := f.openAtStart, relist := f.relist, enables := f.enables }

theorem writeFloor_eq (f : FloorConfig) (s : State) : s.writeFloor f =
    ((presenceTaken f (marksTaken f (gateTaken f (limitTaken f (modeTaken f s))))).takeShowBudget f.showBudget).restTaken f :=
  rfl

variable {f : FloorConfig}

theorem fillRule_floorCfg (s : State) : s.fillRule.floorCfg = s.floorCfg := (fillRule_grantFrame s).floorCfg

theorem modeTaken_frame (f : FloorConfig) (s : State) :
    GrantFrame (s.withFloorCfg { s.floorCfg with mode := f.mode }) (modeTaken f s) := by
  unfold modeTaken
  split
  · next h =>
    rw [h]
    exact .refl s
  · exact fillRule_grantFrame _

theorem limitTaken_eq (f : FloorConfig) (s : State) : limitTaken f s =
    if s.floorCfg.limit < f.limit then (s.withFloorCfg { s.floorCfg with limit := f.limit }).fillRule
    else s.withFloorCfg { s.floorCfg with limit := f.limit } := by
  unfold limitTaken
  split
  · next h =>
    rw [h, if_neg (lt_irrefl _)]
    rfl
  · rfl

theorem limitTaken_frame (f : FloorConfig) (s : State) :
    GrantFrame (s.withFloorCfg { s.floorCfg with limit := f.limit }) (limitTaken f s) := by
  rw [limitTaken_eq]
  split
  · exact fillRule_grantFrame _
  · exact .refl _

theorem gateTaken_eq (f : FloorConfig) (s : State) : gateTaken f s =
    if f.gate = s.floorCfg.gate then s.withFloorCfg { s.floorCfg with gate := f.gate }
    else (s.withFloorCfg { s.floorCfg with gate := f.gate }).fillRule := by
  unfold gateTaken
  split
  · next h =>
    rw [h]
    rfl
  · rfl

theorem gateTaken_frame (f : FloorConfig) (s : State) :
    GrantFrame (s.withFloorCfg { s.floorCfg with gate := f.gate }) (gateTaken f s) := by
  rw [gateTaken_eq]
  split
  · exact .refl _
  · exact fillRule_grantFrame _

theorem reviewRestraint_eq (s : State) : s.reviewRestraint =
    let r := if s.floorCfg.high ≤ s.list.entries.length then true
      else if s.list.entries.length ≤ s.floorCfg.low then false else s.list.restraint
    if r = s.list.restraint then s
    else (s.withList { s.list with restraint := r }).notice .restraint none none (some (if r then .set else .clear)) := rfl

/-- Restraint that agrees with the fill under its marks stands (R78). -/
theorem RestraintOk.reviewRestraint_eq (h : s.RestraintOk) : s.reviewRestraint = s := by
  obtain ⟨-, hset, hfull⟩ := h
  unfold fill at hset hfull
  rw [State.reviewRestraint_eq]
  dsimp only
  refine if_pos ?_
  split
  · next hhigh => exact (hfull hhigh).symm
  · split
    · next hlow =>
      refine (eq_false_of_ne_true fun htrue => ?_).symm
      exact absurd (hset htrue) (not_lt.2 hlow)
    · rfl

theorem presenceTaken_frame (f : FloorConfig) (s : State) : CascadeFrame
    (s.seatsWhere fun _ r => r.run.present && (decide (f.presenceMs < s.floorCfg.presenceMs)
      && decide (f.presenceMs < s.now - r.run.lastHeard)))
    (s.withFloorCfg { s.floorCfg with
      silenceS := f.silenceS, onThreshold := f.onThreshold, offThreshold := f.offThreshold
      presenceMs := f.presenceMs }) (presenceTaken f s) := by
  unfold presenceTaken expireOverdue
  rw [withFloorCfg_floorCfg]
  dsimp only
  by_cases hshorter : f.presenceMs < s.floorCfg.presenceMs
  · simp only [hshorter, decide_true, Bool.true_and]
    exact foldl_cascade_frame _ _
  · rw [if_neg hshorter, seatsWhere_eq_nil fun n => by simp only [hshorter, decide_false, Bool.false_and, Bool.and_false]]
    exact .refl _

theorem takeShowBudget_eq (v : Bool) (s : State) : s.takeShowBudget v =
    (if v = s.floorCfg.showBudget then s else s.markAll (s.seatsWhere fun _ x =>
      x.run.present && x.run.floor != .speaking && (s.classes.record x.cfg.cls).enforced && !x.cfg.exempt)).withFloorCfg
        { s.floorCfg with showBudget := v } := by
  unfold takeShowBudget
  split
  · next h =>
    rw [h]
    rfl
  · dsimp only
    rw [markAll_withFloorCfg]
    simp only [budgetApplies, Bool.and_assoc]
    rfl

/-! ### The whole row -/

/-- The state before the presence timeout of a FLOOR row is taken (R165). -/
def untilMarks (f : FloorConfig) (s : State) : State := marksTaken f (gateTaken f (limitTaken f (modeTaken f s)))

theorem marksTaken_frame (f : FloorConfig) (s : State) :
    GrantFrame (s.withFloorCfg { s.floorCfg with high := f.high, low := f.low }) (marksTaken f s) := reviewRestraint_frame _

theorem untilMarks_floorCfg (f : FloorConfig) (s : State) : (untilMarks f s).floorCfg = { s.floorCfg with
    mode := f.mode, limit := f.limit, gate := f.gate, high := f.high, low := f.low } := by
  unfold untilMarks
  rw [(marksTaken_frame f _).floorCfg, withFloorCfg_floorCfg, (gateTaken_frame f _).floorCfg, withFloorCfg_floorCfg,
    (limitTaken_frame f _).floorCfg, withFloorCfg_floorCfg, (modeTaken_frame f _).floorCfg, withFloorCfg_floorCfg]

theorem untilMarks_frame (f c : FloorConfig) (s : State) :
    GrantFrame (s.withFloorCfg c) ((untilMarks f s).withFloorCfg c) :=
  ((((modeTaken_frame f s).withFloorCfg c).trans ((limitTaken_frame f _).withFloorCfg c)).trans
    ((gateTaken_frame f _).withFloorCfg c)).trans ((marksTaken_frame f _).withFloorCfg c)

/-- The seats a FLOOR row makes absent: those PRESENT and heard longer ago than a shortened timeout (R16, R165). -/
def overdueBy (f : FloorConfig) (s : State) : List SeatNo :=
  s.seatsWhere fun _ r => r.run.present && (decide (f.presenceMs < s.floorCfg.presenceMs)
    && decide (f.presenceMs < s.now - r.run.lastHeard))

theorem overdueBy_untilMarks (f : FloorConfig) (s : State) : overdueBy f (untilMarks f s) = overdueBy f s := by
  have hframe := untilMarks_frame f f s
  refine seatsWhere_congr fun n => ?_
  have hseat := hframe.frame.seat n
  rw [withFloorCfg_seat, withFloorCfg_seat] at hseat
  have hnow : (untilMarks f s).now = s.now := hframe.frame.now
  rw [untilMarks_floorCfg, hnow, hseat]

theorem showBudget_frame (v : Bool) (c : FloorConfig) (s : State) :
    GrantFrame (s.withFloorCfg c) ((s.takeShowBudget v).withFloorCfg c) := by
  rw [takeShowBudget_eq]
  refine GrantFrame.withFloorCfg (t := if v = s.floorCfg.showBudget then s else s.markAll _) ?_ c
  split
  · exact .refl s
  · exact markAll_grantFrame _ _

/-- The state before the last fields of a FLOOR row (R165). -/
def untilShow (f : FloorConfig) (s : State) : State := (presenceTaken f (untilMarks f s)).takeShowBudget f.showBudget

theorem untilShow_frame (f c : FloorConfig) (s : State) :
    CascadeFrame (overdueBy f s) (s.withFloorCfg c) ((untilShow f s).withFloorCfg c) := by
  have hpresence := (presenceTaken_frame f (untilMarks f s)).withFloorCfg c
  have hgroup := overdueBy_untilMarks f s
  unfold overdueBy at hgroup
  rw [hgroup] at hpresence
  have h := ((untilMarks_frame f c s).cascade.trans hpresence).trans (showBudget_frame f.showBudget c _).cascade
  rw [List.nil_append, List.append_nil] at h
  exact h

theorem presenceTaken_floorCfg (f : FloorConfig) (s : State) : (presenceTaken f s).floorCfg = { s.floorCfg with
    silenceS := f.silenceS, onThreshold := f.onThreshold, offThreshold := f.offThreshold
    presenceMs := f.presenceMs } := (presenceTaken_frame f s).floorCfg

theorem writeFloor_stages (f : FloorConfig) (s : State) : s.writeFloor f = (untilShow f s).withFloorCfg f := by
  have hcfg : (untilShow f s).floorCfg = { f with
      openAtStart := s.floorCfg.openAtStart, relist := s.floorCfg.relist, enables := s.floorCfg.enables } := by
    rw [untilShow, takeShowBudget_eq, withFloorCfg_floorCfg, presenceTaken_floorCfg, untilMarks_floorCfg]
  have hrest : s.writeFloor f = restTaken f (untilShow f s) := rfl
  rw [hrest, restTaken, hcfg]

theorem writeFloor_frame (f : FloorConfig) (s : State) :
    CascadeFrame (overdueBy f s) (s.withFloorCfg f) (s.writeFloor f) := by
  rw [writeFloor_stages]
  exact untilShow_frame f f s

theorem writeFloor_present (f : FloorConfig) (s : State) (n : SeatNo) : ((s.writeFloor f).seat n).run.present =
    ((s.seat n).run.present && !(decide (f.presenceMs < s.floorCfg.presenceMs)
      && decide (f.presenceMs < s.now - (s.seat n).run.lastHeard))) := by
  rw [(writeFloor_frame f s).seat n, withFloorCfg_seat, overdueBy]
  simp only [mem_seatsWhere]
  cases hpresent : (s.seat n).run.present with
  | false =>
    rw [Bool.false_and, Bool.false_and, if_neg Bool.false_ne_true]
    exact hpresent
  | true =>
    rw [Bool.true_and, Bool.true_and]
    split
    · next h => rw [h]; rfl
    · next h => rw [eq_false_of_ne_true h]; exact hpresent

theorem RestraintOk.writeFloor_self (h : s.RestraintOk) : s.writeFloor s.floorCfg = s := by
  rw [writeFloor_eq, modeTaken, if_pos rfl, limitTaken, if_pos rfl, gateTaken, if_pos rfl, marksTaken]
  have hmarks : (s.withFloorCfg { s.floorCfg with high := s.floorCfg.high, low := s.floorCfg.low }).reviewRestraint = s :=
    h.reviewRestraint_eq
  have hpresence : presenceTaken s.floorCfg s = s := if_neg (lt_irrefl s.floorCfg.presenceMs)
  rw [hmarks, hpresence, takeShowBudget, if_pos rfl]
  rfl

theorem writeFloor_answer {tag : Byte} (f : FloorConfig) (s : State) (st : Status) (hup : s.uplink.up = true) :
    (s.writeFloor f).answer tag (only st) = (s.writeFloor f).replied tag st [] := by
  have hframe := writeFloor_frame f s
  generalize s.writeFloor f = t at hframe
  refine answer_reply_of_up ?_
  rw [hframe.uplink]
  exact hup

/-- The seats made absent, with the state in which their cascades run (R16). -/
theorem presenceTaken_eq (f : FloorConfig) (s : State) : presenceTaken f s =
    let u := s.withFloorCfg { s.floorCfg with
      silenceS := f.silenceS, onThreshold := f.onThreshold, offThreshold := f.offThreshold
      presenceMs := f.presenceMs }
    if f.presenceMs < s.floorCfg.presenceMs then (overdueBy f s).foldl (fun u n => u.cascade [n]) u else u := by
  unfold presenceTaken expireOverdue
  rw [withFloorCfg_floorCfg]
  dsimp only
  by_cases hshorter : f.presenceMs < s.floorCfg.presenceMs
  · simp only [overdueBy, hshorter, decide_true, Bool.true_and]
    rfl
  · simp only [if_neg hshorter]

end State

/-- Settles O49: the fields in their order, each with its consequence. -/
theorem floorRowWriteStoresTheRecord : Obligations.FloorRowWriteStoresTheRecord := by
  unfold Obligations.FloorRowWriteStoresTheRecord
  intro m index row s f adjusted hread htakes hstart hop
  have hexec := exec_writeTableFloor hread htakes hstart hop
  have hframe := s.writeFloor_frame f
  have hanswer := s.writeFloor_answer (tag := m.tag) f (doneOr adjusted) htakes.1
  have hrefused : s.answer m.tag (only .refusedRange) = s.replied m.tag .refusedRange [] :=
    State.answer_reply_of_up htakes.1
  rw [hanswer, hrefused] at hexec
  refine ⟨fun hindex => ?_, fun hindex => ?_, fun hindex hsame hok => ?_, fun hindex => ?_⟩
  · rw [hexec, if_neg hindex]
  · rw [hexec, if_pos hindex]
    refine ⟨s.writeFloor f, rfl, hframe.floorCfg, fun n => ⟨?_, ?_⟩, hframe.classes, hframe.branches, hframe.floor,
      hframe.profile, hframe.startUp⟩
    · rw [hframe.seat n]
      rfl
    · exact s.writeFloor_present f n
  · rw [hexec, if_pos hindex, hsame, hok.writeFloor_self]
    rfl
  · intro s1 u2 s2 u3 s3 s4 r s5 s6 overdue s7 s8
    have hmode : State.modeTaken f s = s1 := rfl
    have hcfg1 : s1.floorCfg = { s.floorCfg with mode := f.mode } := (State.modeTaken_frame f s).floorCfg
    have hlimit : State.limitTaken f s1 = s2 := by rw [State.limitTaken_eq, hcfg1]
    have hcfg2 : s2.floorCfg = { s.floorCfg with mode := f.mode, limit := f.limit } := by
      rw [← hlimit, (State.limitTaken_frame f s1).floorCfg, State.withFloorCfg_floorCfg, hcfg1]
    have hgate : State.gateTaken f s2 = s3 := by rw [State.gateTaken_eq, hcfg2]
    have hcfg3 : s3.floorCfg = { s.floorCfg with mode := f.mode, limit := f.limit, gate := f.gate } := by
      rw [← hgate, (State.gateTaken_frame f s2).floorCfg, State.withFloorCfg_floorCfg, hcfg2]
    have hmarks : State.marksTaken f s3 = s5 := by rw [State.marksTaken, hcfg3]; rfl
    have huntil : State.untilMarks f s = s5 := by
      rw [State.untilMarks, hmode, hlimit, hgate, hmarks]
    have hcfg5 := State.untilMarks_floorCfg f s
    have hoverdue := State.overdueBy_untilMarks f s
    rw [huntil] at hcfg5 hoverdue
    have hpresence : State.presenceTaken f s5 = s7 := by
      rw [State.presenceTaken_eq, hcfg5, hoverdue]
      by_cases hshorter : f.presenceMs < s.floorCfg.presenceMs
      · have hgroup : State.overdueBy f s = overdue := by
          unfold State.overdueBy
          simp only [hshorter, decide_true, Bool.true_and, overdue]
        simp only [s7, if_pos hshorter, hgroup]
        rfl
      · simp only [s7, if_neg hshorter]
        rfl
    have hcfg7 : s7.floorCfg.showBudget = s.floorCfg.showBudget := by
      rw [← hpresence, State.presenceTaken_floorCfg, hcfg5]
    have hclasses : s7.classes = s.classes := by
      rw [← hpresence, (State.presenceTaken_frame f s5).classes, ← huntil]
      exact (State.untilMarks_frame f f s).frame.classes
    rw [hexec, if_pos hindex, State.writeFloor_stages, State.untilShow, huntil, hpresence, State.takeShowBudget_eq, hcfg7,
      hclasses]
    rfl

end Sys2Proof.Machine
end

section
/-! PROOF. A recall of the profile on a CLOSED floor without busy channels: the seats that stay PRESENT and the holder
set. -/

namespace Sys2Proof.Machine

namespace State

variable {s t u : State}

/-! ### The absence cascade on a floor with nothing to end -/

/-- No entry waits, no channel is busy and no seat holds one. -/
structure Quiet (s : State) : Prop where
  list : s.list.entries = []
  idle : ∀ c : ChanNo, (s.chan c).busy = false
  chan : ∀ n : SeatNo, (s.seat n).run.chan = none

/-- What an absence cascade of a group leaves on such a floor: the seats gone, outside the holder set (R17). -/
structure QuietFrame (group : List SeatNo) (s t : State) : Prop where
  outer : OuterFrame s t
  list : t.list = s.list
  channels : t.channels = s.channels
  seat : ∀ n : SeatNo, t.seat n = ⟨(s.seat n).cfg, if n ∈ group then (s.seat n).run.gone else (s.seat n).run⟩
  refusalOf : ∀ n : SeatNo, t.refusalOf n = if n ∈ group then none else s.refusalOf n
  holders : s.holders.Nodup → t.holders.Nodup ∧ ∀ n, n ∈ t.holders ↔ n ∈ s.holders ∧ n ∉ group

theorem QuietFrame.refl (s : State) : QuietFrame [] s s :=
  ⟨.refl s, rfl, rfl, fun _ => rfl, fun _ => rfl, fun h => ⟨h, fun _ => by simp⟩⟩

theorem QuietFrame.trans {l m : List SeatNo} (h : QuietFrame l s t) (g : QuietFrame m t u) : QuietFrame (l ++ m) s u where
  outer := h.outer.trans g.outer
  list := g.list.trans h.list
  channels := g.channels.trans h.channels
  seat n := by
    rw [g.seat n, h.seat n]
    by_cases hl : n ∈ l <;> by_cases hm : n ∈ m <;> simp [hl, hm, SeatRun.gone]
  refusalOf n := by
    rw [g.refusalOf n, h.refusalOf n]
    by_cases hl : n ∈ l <;> by_cases hm : n ∈ m <;> simp [hl, hm]
  holders hs := by
    obtain ⟨ht, hmem⟩ := h.holders hs
    obtain ⟨hu, hmem'⟩ := g.holders ht
    refine ⟨hu, fun n => ?_⟩
    rw [hmem', hmem, List.mem_append, not_or, and_assoc]

theorem TellFrame.quiet (h : TellFrame s t) (hreplies : t.uplink.replies = s.uplink.replies) : QuietFrame [] s t where
  outer := ⟨h.now, h.classes, h.branches, h.floorCfg, h.floor, h.port, h.uplink.trans (by rw [hreplies]), h.mgmtErr,
    h.profile, h.startUp, h.free, h.pending⟩
  list := h.list
  channels := h.channels
  seat n := by rw [if_neg List.not_mem_nil, State.seat, h.seats]; rfl
  refusalOf n := by rw [if_neg List.not_mem_nil, State.refusalOf, h.refusal]; rfl
  holders hs := by rw [h.holders]; exact ⟨hs, fun n => by simp⟩

theorem Quiet.of_frame {l : List SeatNo} (hs : s.Quiet) (h : QuietFrame l s t) : t.Quiet where
  list := by rw [h.list]; exact hs.list
  idle c := by rw [State.chan, h.channels]; exact hs.idle c
  chan n := by
    rw [h.seat n]
    dsimp only
    split
    · exact hs.chan n
    · exact hs.chan n

theorem Quiet.removeCause (hs : s.Quiet) (c : ChanNo) (x : Cause) : s.removeCause c x = s := by
  unfold State.removeCause
  simp [hs.idle c]

theorem Quiet.foldl_removeCause (hs : s.Quiet) (l : List ChanNo) (x : Cause) :
    l.foldl (fun s c => s.removeCause c x) s = s := by
  induction l with
  | nil => rfl
  | cons c l ih => rw [List.foldl_cons, hs.removeCause, ih]

/-- With no busy channel a seat leaves the holder set and nothing follows (R94). -/
theorem Quiet.leaveHolders (hs : s.Quiet) (n : SeatNo) : s.leaveHolders n = s.withHolders (s.holders.erase n) := by
  have hs' : (s.withHolders (s.holders.erase n)).Quiet := ⟨hs.list, hs.idle, hs.chan⟩
  unfold State.leaveHolders
  dsimp only
  rw [hs'.foldl_removeCause, withHolders_seat, hs.chan n]
  by_cases hmem : s.holders.contains n = true
  · rw [if_pos hmem]
    split <;> rfl
  · rw [if_neg hmem, List.erase_of_not_mem (by simpa using hmem)]
    rfl

theorem Quiet.goAbsent_frame (hs : s.Quiet) (n : SeatNo) : QuietFrame [n] s (s.goAbsent n) := by
  have hseat : ((s.updRun n SeatRun.gone).setRefusal n none).Quiet := by
    refine ⟨hs.list, hs.idle, fun m => ?_⟩
    have hrun : ((s.updRun n SeatRun.gone).setRefusal n none).seat m = (s.updRun n SeatRun.gone).seat m := rfl
    rw [hrun, seat_updRun]
    split
    · exact hs.chan m
    · exact hs.chan m
  have heq : s.goAbsent n = ((s.updRun n SeatRun.gone).setRefusal n none).withHolders (s.holders.erase n) := by
    have hleave := hseat.leaveHolders n
    have hremove (v : State) (hv : v.list.entries = []) : v.removeEntry n .absent = v :=
      removeEntry_of_unlisted .absent (by rw [hv]; exact List.not_mem_nil)
    unfold State.goAbsent
    exact (congrArg (fun v => removeEntry n .absent v) hleave).trans (hremove _ hs.list)
  have hframe := State.goAbsent_frame s n
  refine ⟨hframe.toOuterFrame, by rw [heq]; rfl, by rw [heq]; rfl, fun m => ?_, hframe.refusalOf, fun hnodup => ?_⟩
  · rw [heq, withHolders_seat, setRefusal_seat, seat_updRun]
    by_cases hm : n = m
    · rw [if_pos hm, if_pos (List.mem_singleton.2 hm.symm)]
    · rw [if_neg hm, if_neg (fun h => hm (List.mem_singleton.1 h).symm)]
  · rw [heq, withHolders_holders]
    refine ⟨hnodup.erase n, fun m => ?_⟩
    rw [hnodup.mem_erase_iff, List.mem_singleton, and_comm]

theorem Quiet.foldl_goAbsent (group : List SeatNo) (hs : s.Quiet) :
    QuietFrame group s (group.foldl (fun s n => s.goAbsent n) s) := by
  induction group generalizing s with
  | nil => exact .refl s
  | cons n group ih =>
    have hn := hs.goAbsent_frame n
    exact hn.trans (ih (hs.of_frame hn))

theorem Quiet.foldl_closeSeat (hs : s.Quiet) (group : List SeatNo) (r : Reason) :
    group.foldl (fun s n => s.closeSeat n r) s = s := by
  induction group with
  | nil => rfl
  | cons n group ih =>
    have hn : s.closeSeat n r = s := by
      unfold State.closeSeat
      rw [hs.chan n]
    rw [List.foldl_cons, hn, ih]

theorem Quiet.cascade_frame (hs : s.Quiet) (group : List SeatNo) : QuietFrame group s (s.cascade group) := by
  have hgone := hs.foldl_goAbsent group
  have hnotices (l : List SeatNo) (v : State) :
      QuietFrame [] v (l.foldl (fun v n => v.notice .seatAbsent (some n) none none) v) := by
    induction l generalizing v with
    | nil => exact .refl v
    | cons n l ih => exact ((notice_frame v _ _ _ _).quiet (notice_replies v _ _ _ _)).trans (ih _)
  unfold State.cascade
  dsimp only
  rw [(hs.of_frame hgone).foldl_closeSeat]
  have h := (hgone.trans (hnotices group _)).trans ((markAll_frame _ group).quiet (markAll_grantFrame _ group).replies)
  rwa [List.append_nil, List.append_nil] at h

theorem Quiet.foldl_cascade (group : List SeatNo) (hs : s.Quiet) :
    QuietFrame group s (group.foldl (fun s n => s.cascade [n]) s) := by
  induction group generalizing s with
  | nil => exact .refl s
  | cons n group ih =>
    have hn := hs.cascade_frame [n]
    exact hn.trans (ih (hs.of_frame hn))

/-! ### The replacement of the configuration on such a floor -/

theorem FloorOk.quiet (h : s.FloorOk) (hclosed : s.floor = .closed) (hfree : ∀ c : ChanNo, (s.chan c).state = .free) :
    s.Quiet := by
  obtain ⟨-, -, hseats, -, -, -, -, -, hempty, -⟩ := h
  have hidle (c : ChanNo) : (s.chan c).busy = false := by rw [Channel.busy, hfree c]; rfl
  refine ⟨(hempty hclosed).1, hidle, fun n => ?_⟩
  obtain ⟨-, hchan, -⟩ := hseats n
  cases hn : (s.seat n).run.chan with
  | none => rfl
  | some c =>
    have hbusy := ((hchan c).1 hn).1
    rw [hidle c] at hbusy
    cases hbusy

theorem adopted_frame (g : Configuration) (s : State) :
    GrantFrame (((s.withHolders s.chairHolders).mapSeats mismatched).withFloorCfg g.floorCfg) (s.adopted g) :=
  reviewRestraint_frame _

theorem adopted_seat (g : Configuration) (s : State) (n : SeatNo) : (s.adopted g).seat n = mismatched (s.seat n) := by
  have hseats : (s.adopted g).seat n = ((s.withHolders s.chairHolders).mapSeats mismatched).seat n := by
    simp only [seat, adopted, reviewRestraint, setRestraint_seats]
    rfl
  rw [hseats, seat_mapSeats, withHolders_seat]

theorem adopted_entries (g : Configuration) (s : State) : (s.adopted g).list.entries = s.list.entries := by
  unfold adopted reviewRestraint
  rw [setRestraint_list]
  rfl

theorem adopted_channels (g : Configuration) (s : State) : (s.adopted g).channels = s.channels :=
  setRestraint_channels ..

/-- The seats whose branch the recalled table changes (R18). -/
def movedBy (g : Configuration) (s : State) : List SeatNo := (s.loaded g).movedSeats s.branches

/-- The seats heard longer ago than the recalled timeout, where it is shorter (R16). -/
def overdueIn (before : Nat) (s : State) : List SeatNo :=
  s.seatsWhere fun _ r => r.run.present && (decide (s.floorCfg.presenceMs < before)
    && decide (s.floorCfg.presenceMs < s.now - r.run.lastHeard))

theorem Quiet.expireOverdue_frame (hs : s.Quiet) (before : Nat) :
    QuietFrame (overdueIn before s) s (s.expireOverdue before) := by
  unfold expireOverdue overdueIn
  by_cases hshorter : s.floorCfg.presenceMs < before
  · simp only [hshorter, decide_true, Bool.true_and]
    exact hs.foldl_cascade _
  · rw [if_neg hshorter, seatsWhere_eq_nil fun n => by simp only [hshorter, decide_false, Bool.false_and, Bool.and_false]]
    exact .refl s

theorem loaded_rest (g : Configuration) (s : State) : (s.loaded g).uplink = s.uplink ∧ (s.loaded g).profile = s.profile
    ∧ (s.loaded g).startUp = s.startUp ∧ (s.loaded g).floor = s.floor ∧ (s.loaded g).channels = s.channels
    ∧ (s.loaded g).list = s.list ∧ (s.loaded g).refusal = s.refusal ∧ (s.loaded g).holders = s.holders
    ∧ (s.loaded g).classes = g.classes ∧ (s.loaded g).branches = g.branches ∧ (s.loaded g).now = s.now :=
  ⟨rfl, rfl, rfl, rfl, rfl, rfl, rfl, rfl, rfl, rfl, rfl⟩

theorem Quiet.loaded (hs : s.Quiet) (g : Configuration) : (s.loaded g).Quiet where
  list := hs.list
  idle := hs.idle
  chan n := by rw [loaded_seat]; exact hs.chan n

theorem Quiet.adopted (hs : s.Quiet) (g : Configuration) : (s.adopted g).Quiet where
  list := by rw [adopted_entries]; exact hs.list
  idle c := by rw [State.chan, adopted_channels]; exact hs.idle c
  chan n := by rw [adopted_seat]; exact hs.chan n

/-- The seats that keep their presence through a recall (R16, R18). -/
def staysIn (g : Configuration) (s : State) (n : SeatNo) : Bool :=
  (s.seat n).run.present && g.branches.branchOf n == s.branches.branchOf n
    && !(decide (g.floorCfg.presenceMs < s.floorCfg.presenceMs)
      && decide (g.floorCfg.presenceMs < s.now - (s.seat n).run.lastHeard))

/-- What a recall leaves on such a floor: the tables in their places, the seats that lost their presence gone, the
mismatches and the holder set at the new classes (R172). -/
structure RecallFrame (g : Configuration) (s t : State) : Prop where
  uplink : t.uplink = { s.uplink with notices := t.uplink.notices }
  profile : t.profile = s.profile
  startUp : t.startUp = s.startUp
  floor : t.floor = s.floor
  channels : t.channels = s.channels
  entries : t.list.entries = []
  classes : t.classes = g.classes
  branches : t.branches = g.branches
  floorCfg : t.floorCfg = g.floorCfg
  seat : ∀ n : SeatNo, t.seat n = if s.staysIn g n || !(s.seat n).run.present then
      ⟨g.seats[n], { (s.seat n).run with mismatch := mismatchOf (s.seat n).run.unitKind (g.seats[n]).cls }⟩
    else ⟨g.seats[n], (s.seat n).run.gone⟩
  refusalOf : ∀ n : SeatNo, t.refusalOf n = if s.staysIn g n || !(s.seat n).run.present then s.refusalOf n else none
  holders : ∀ n : SeatNo, n ∈ t.holders ↔
    n ∈ s.holders ∧ (s.staysIn g n || !(s.seat n).run.present) = true ∧ (g.seats[n]).cls = .chair

theorem mem_movedBy {g : Configuration} {n : SeatNo} : n ∈ s.movedBy g ↔
    ((s.seat n).run.present && !(g.branches.branchOf n == s.branches.branchOf n)) = true := by
  have hseat := loaded_seat g s n
  have hbranches : (s.loaded g).branches = g.branches := rfl
  rw [movedBy, movedSeats, mem_seatsWhere, hseat, hbranches, bne, Bool.beq_comm]

theorem mem_overdueIn {before : Nat} {n : SeatNo} : n ∈ overdueIn before s ↔
    ((s.seat n).run.present && (decide (s.floorCfg.presenceMs < before)
      && decide (s.floorCfg.presenceMs < s.now - (s.seat n).run.lastHeard))) = true := mem_seatsWhere

theorem Quiet.recallFrame (hs : s.Quiet) (hnodup : s.holders.Nodup) (g : Configuration) :
    RecallFrame g s (s.replaceConfiguration g) := by
  obtain ⟨huplink, hprofile, hstart, hfloor, hchannels, hlist, hrefusal, hholders, hclasses, hbranches, hnow⟩ :=
    loaded_rest g s
  have hloaded (n : SeatNo) := loaded_seat g s n
  have hmoved (n : SeatNo) := mem_movedBy (s := s) (g := g) (n := n)
  have hcascade := (hs.loaded g).cascade_frame (s.movedBy g)
  have hquiet := ((hs.loaded g).of_frame hcascade).adopted g
  rw [replaceConfiguration_eq]
  change RecallFrame g s (markShown s ((((s.loaded g).cascade (s.movedBy g)).adopted g).expireOverdue s.floorCfg.presenceMs))
  generalize s.loaded g = u at *
  generalize s.movedBy g = moved at *
  generalize u.cascade moved = v at *
  have hframe := adopted_frame g v
  have hseat (n : SeatNo) := adopted_seat g v n
  have hadoptedChannels := adopted_channels g v
  generalize v.adopted g = w at *
  have hexpire := hquiet.expireOverdue_frame s.floorCfg.presenceMs
  have hoverdue (n : SeatNo) := mem_overdueIn (s := w) (before := s.floorCfg.presenceMs) (n := n)
  have hempty := (hquiet.of_frame hexpire).list
  generalize overdueIn s.floorCfg.presenceMs w = overdue at *
  have hshown := (markAll_frame (w.expireOverdue s.floorCfg.presenceMs)
    ((w.expireOverdue s.floorCfg.presenceMs).seatsWhere fun n r => r.run.present &&
      showsBudget s.classes s.floorCfg (s.seat n) != showsBudget (w.expireOverdue s.floorCfg.presenceMs).classes
        (w.expireOverdue s.floorCfg.presenceMs).floorCfg r)).quiet (markAll_grantFrame _ _).replies
  have hlast := hexpire.trans hshown
  rw [List.append_nil] at hlast
  change RecallFrame g s (State.markAll _ _)
  generalize State.markAll _ _ = y at *
  have houter := hframe.outer
  have hout := hlast.outer
  have hin := hcascade.outer
  have hnow' : w.now = s.now := houter.now.trans (hin.now.trans hnow)
  have hcfg : w.floorCfg = g.floorCfg := houter.floorCfg
  have hwseat (n : SeatNo) : w.seat n = mismatched ⟨g.seats[n], if n ∈ moved then (s.seat n).run.gone else (s.seat n).run⟩ := by
    rw [hseat, hcascade.seat, hloaded]
  have hstays (n : SeatNo) : (s.staysIn g n || !(s.seat n).run.present) = true ↔ n ∉ moved ∧ n ∉ overdue := by
    have hm := hmoved n
    have ho := hoverdue n
    rw [hwseat, hnow', hcfg] at ho
    cases hp : (s.seat n).run.present with
    | false =>
      rw [hp, Bool.false_and] at hm
      rw [if_neg fun h => Bool.false_ne_true (hm.1 h)] at ho
      have hgone : (mismatched ⟨g.seats[n], (s.seat n).run⟩).run.present = false := hp
      rw [hgone, Bool.false_and] at ho
      rw [Bool.not_false, Bool.or_true]
      exact ⟨fun _ => ⟨fun h => Bool.false_ne_true (hm.1 h), fun h => Bool.false_ne_true (ho.1 h)⟩, fun _ => rfl⟩
    | true =>
      rw [hp, Bool.true_and] at hm
      rw [staysIn, hp, Bool.true_and, Bool.not_true, Bool.or_false]
      cases hb : (g.branches.branchOf n == s.branches.branchOf n) with
      | false =>
        rw [Bool.false_and]
        exact ⟨fun h => absurd h Bool.false_ne_true, fun h => absurd (hm.2 (by rw [hb]; rfl)) h.1⟩
      | true =>
        rw [hb] at hm
        have hout : n ∉ moved := fun h => Bool.false_ne_true (hm.1 h)
        rw [if_neg hout] at ho
        have hstill : (mismatched ⟨g.seats[n], (s.seat n).run⟩).run.present = true := hp
        rw [hstill, Bool.true_and] at ho
        have hheard : (mismatched ⟨g.seats[n], (s.seat n).run⟩).run.lastHeard = (s.seat n).run.lastHeard := rfl
        rw [hheard] at ho
        rw [ho, Bool.true_and, Bool.not_eq_true', ← Bool.not_eq_true]
        exact ⟨fun h => ⟨hout, h⟩, fun h => h.2⟩
  have hwuplink : w.uplink = { s.uplink with notices := w.uplink.notices } := by
    refine houter.uplink.trans ?_
    change ({ v.uplink with notices := w.uplink.notices } : UplinkPort) = _
    rw [hin.uplink, huplink]
  refine {
    uplink := by rw [hout.uplink, hwuplink]
    profile := hout.profile.trans (houter.profile.trans (hin.profile.trans hprofile))
    startUp := hout.startUp.trans (houter.startUp.trans (hin.startUp.trans hstart))
    floor := hout.floor.trans (houter.floor.trans (hin.floor.trans hfloor))
    channels := hlast.channels.trans (hadoptedChannels.trans (hcascade.channels.trans hchannels))
    entries := by rw [hlast.list]; exact hquiet.list
    classes := hout.classes.trans (houter.classes.trans (hin.classes.trans hclasses))
    branches := hout.branches.trans (houter.branches.trans (hin.branches.trans hbranches))
    floorCfg := hout.floorCfg.trans hcfg
    seat := fun n => ?_
    refusalOf := fun n => ?_
    holders := fun n => ?_ }
  · rw [hlast.seat, hwseat]
    by_cases hkeep : (s.staysIn g n || !(s.seat n).run.present) = true
    · obtain ⟨hout, hheard⟩ := (hstays n).1 hkeep
      rw [if_pos hkeep, if_neg hout, if_neg hheard]
      rfl
    · rw [if_neg hkeep]
      by_cases hm : n ∈ moved
      · rw [if_pos hm]
        split <;> rfl
      · rw [if_neg hm, if_pos (by_contra fun ho => hkeep ((hstays n).2 ⟨hm, ho⟩))]
        rfl
  · have hsame : w.refusalOf n = v.refusalOf n := by
      rw [refusalOf, hframe.frame.refusal]
      rfl
    have hfirst : u.refusalOf n = s.refusalOf n := by rw [refusalOf, hrefusal]; rfl
    rw [hlast.refusalOf, hsame, hcascade.refusalOf, hfirst]
    by_cases hkeep : (s.staysIn g n || !(s.seat n).run.present) = true
    · obtain ⟨hout, hheard⟩ := (hstays n).1 hkeep
      rw [if_pos hkeep, if_neg hout, if_neg hheard]
    · rw [if_neg hkeep]
      by_cases hm : n ∈ moved
      · rw [if_pos hm, ite_self]
      · rw [if_pos (by_contra fun ho => hkeep ((hstays n).2 ⟨hm, ho⟩))]
  · rw [← hholders] at hnodup ⊢
    obtain ⟨hvnodup, hvmem⟩ := hcascade.holders hnodup
    have hwholders : w.holders = v.chairHolders := hframe.holders
    have hclass : (v.seat n).cfg.cls = (g.seats[n]).cls := by rw [hcascade.seat, hloaded]
    obtain ⟨-, hymem⟩ := hlast.holders (by rw [hwholders]; exact hvnodup.filter _)
    rw [hymem, hwholders, chairHolders, List.mem_filter, hvmem, hclass, beq_iff_eq, hstays]
    tauto

end State

theorem exec_recallComplete {s : State} {since : Nat} (h : s.profile.op = some (.recall since)) :
    exec .recallComplete s = .next s.finishRecall := by
  change Host.Outcome.next (match s.profile.op with | some (.recall _) => s.finishRecall | _ => s) = _
  rw [h]

namespace State

theorem recallAllowed_iff {s : State} : s.recallAllowed = true ↔ s.floor = .closed ∧ ∀ c : ChanNo, (s.chan c).state = .free := by
  have hall (p : ChanNo → Bool) : (!allChannels.any p) = true ↔ ∀ c, p c = false := by
    rw [Bool.not_eq_true', List.any_eq_false]
    exact ⟨fun h c => eq_false_of_ne_true (h c (List.mem_finRange c)), fun h c _ => by simp [h c]⟩
  rw [recallAllowed, Bool.and_eq_true, hall, beq_iff_eq]
  simp only [Channel.busy, bne_eq_false_iff_eq]

/-- The state a recall's completion answers from, in either way (R172). -/
theorem completeProfile_replies (s : State) (st : Status) : s.completeProfile st = s.withUplink { s.uplink with
    replies := if s.uplink.up then placesFilled st s.uplink.replies else placesFreed s.uplink.replies } := by
  cases hup : s.uplink.up with
  | true => exact completeProfile_of_up st hup
  | false => exact completeProfile_of_down st hup

end State

namespace State

variable {s t : State}

theorem recalled_eq_ite (p : Profile) :
    p.recalled = if p.check = some (checkWord p.words) then configurationOfWords p.words else defaultConfiguration := by
  unfold Profile.recalled Profile.good
  simp only [beq_iff_eq]

theorem recalledStatus_eq_ite (p : Profile) :
    p.recalledStatus = if p.check = some (checkWord p.words) then .valid else .defaulted := by
  unfold Profile.recalledStatus Profile.good
  simp only [beq_iff_eq]

/-- A seat that stays keeps its record but for the mismatch; any other shows nothing of a unit (R17, R172). -/
theorem RecallFrame.seat_of_presence {g : Configuration} (h : RecallFrame g s t) (hp : s.PresenceOk) (n : SeatNo) :
    t.seat n = if s.staysIn g n then
        ⟨g.seats[n], { (s.seat n).run with mismatch := mismatchOf (s.seat n).run.unitKind (g.seats[n]).cls }⟩
      else ⟨g.seats[n], (s.seat n).run.gone⟩ := by
  rw [h.seat]
  cases hstays : s.staysIn g n with
  | true => rfl
  | false =>
    rw [Bool.false_or, if_neg Bool.false_ne_true]
    split
    · next habsent =>
      rw [Bool.not_eq_true'] at habsent
      obtain ⟨-, -, hshown, hunit, -, h1, h2, h3⟩ := (hp n).1 habsent
      rw [hunit, SeatRun.gone]
      congr 1
      cases hrun : (s.seat n).run with
      | mk =>
        rw [hrun] at habsent hshown hunit h1 h2 h3
        cases habsent
        cases hshown
        cases hunit
        cases h1
        cases h2
        cases h3
        rfl
    · rfl

theorem RecallFrame.refusalOf_of_presence {g : Configuration} (h : RecallFrame g s t) (hp : s.PresenceOk) (n : SeatNo) :
    t.refusalOf n = if s.staysIn g n then s.refusalOf n else none := by
  rw [h.refusalOf]
  cases hstays : s.staysIn g n with
  | true => rfl
  | false =>
    rw [Bool.false_or, if_neg Bool.false_ne_true]
    split
    · next habsent =>
      rw [Bool.not_eq_true'] at habsent
      obtain ⟨habsentRecord, hshown⟩ := hp n
      obtain ⟨-, -, hnone, -⟩ := habsentRecord habsent
      rw [hnone] at hshown
      exact Option.not_isSome_iff_eq_none.1 (by rw [← hshown]; decide)
    · rfl

theorem RecallFrame.mem_holders {g : Configuration} (h : RecallFrame g s t) (hp : s.PresenceOk) (hh : s.HoldersOk)
    (n : SeatNo) : n ∈ t.holders ↔ n ∈ s.holders ∧ (t.seat n).run.present = true ∧ (g.seats[n]).cls = .chair := by
  rw [h.holders]
  refine and_congr_right fun hn => and_congr_left fun _ => ?_
  have hpresent := (hh.2 n hn).1
  rw [h.seat_of_presence hp, hpresent, Bool.not_true, Bool.or_false]
  split
  · next hstays => exact iff_of_true hstays hpresent
  · next hstays => exact iff_of_false hstays Bool.false_ne_true

end State

/-- Settles O52: the condition tested twice; on a CLOSED floor without busy channels the cascades end nothing but
presence. -/
theorem recallReplacesTheConfiguration : Obligations.RecallReplacesTheConfiguration := by
  unfold Obligations.RecallReplacesTheConfiguration
  intro s allowed
  have hallowed : s.recallAllowed = true ↔ allowed := State.recallAllowed_iff
  refine ⟨fun m htakes hstart hop => ?_, fun since hop => ?_⟩
  · have hexec : exec (.recallProfile m) s = .next (if s.recallAllowed then
        (s.withProfile { s.profile with op := some (.recall s.now) }).answer m.tag .later
        else s.answer m.tag (only .refusedState)) := by
      refine (operate_of_takes m .recallProfile [] (held .profile recallProfile) s htakes).trans ?_
      rw [held_of_none _ _ _ (State.heldOff_profile hstart hop)]
      unfold recallProfile
      split <;> rfl
    rw [hexec]
    refine ⟨fun h => ?_, fun h => ?_⟩
    · rw [if_pos (hallowed.2 h)]
      rfl
    · rw [if_neg (mt hallowed.1 h)]
      exact congrArg Host.Outcome.next (State.answer_reply_of_up htakes.1)
  intro answered good g
  rw [exec_recallComplete hop]
  refine ⟨fun h => ?_, fun h hok => ?_⟩
  · have hfinish : s.finishRecall = (s.withProfile { s.profile with op := none }).completeProfile .refusedState :=
      if_neg (mt hallowed.1 h)
    rw [hfinish, State.completeProfile_replies]
    rfl
  · obtain ⟨hclosed, hfree⟩ := h
    have hquiet := hok.quiet hclosed hfree
    obtain ⟨-, -, -, -, -, hpresence, hholders, -⟩ := hok
    have hnodup : s.holders.Nodup := hholders.1.imp fun hlt => ne_of_lt hlt
    have hg : s.profile.recalled = g := State.recalled_eq_ite s.profile
    have hstatus : s.profile.recalledStatus = if good then .valid else .defaulted :=
      State.recalledStatus_eq_ite s.profile
    generalize hb : s.withProfile { s.profile with status := s.profile.recalledStatus, op := none } = b
    have hfinish : s.finishRecall = (b.replaceConfiguration g).completeProfile .done := by
      rw [← hg, ← hb]
      exact if_pos (hallowed.2 ⟨hclosed, hfree⟩)
    have hbquiet : b.Quiet := hb ▸ ⟨hquiet.list, hquiet.idle, hquiet.chan⟩
    have hbnodup : b.holders.Nodup := hb ▸ hnodup
    have hframe := hbquiet.recallFrame hbnodup g
    have hbpresence : b.PresenceOk := hb ▸ hpresence
    have hbholders : b.HoldersOk := hb ▸ hholders
    have hseat (n : SeatNo) := hframe.seat_of_presence hbpresence n
    have hrefusal (n : SeatNo) := hframe.refusalOf_of_presence hbpresence n
    have hmem (n : SeatNo) := hframe.mem_holders hbpresence hbholders n
    rw [hfinish, State.completeProfile_replies]
    generalize b.replaceConfiguration g = u at *
    have huplink := hframe.uplink
    have hprofile := hframe.profile
    have hchannels := hframe.channels
    have hstart := hframe.startUp
    have hfloor := hframe.floor
    subst hb
    refine ⟨_, rfl, ?_, ?_, fun n => ?_, hframe.classes, hframe.branches, hframe.floorCfg, hfloor.trans hclosed, hchannels,
      hframe.entries, hstart⟩
    · rw [State.withUplink_uplink, huplink]
      rfl
    · rw [State.withUplink_profile, hprofile, State.withProfile_profile, hstatus]
    · exact ⟨hseat n, hrefusal n, hmem n⟩

end Sys2Proof.Machine
end

section
/-! PROOF. NEXT: the oldest non-chair channels close one after another down to one below the open limit, and the first
eligible entry is granted. -/

namespace Sys2Proof.Machine

namespace State

variable {s t : State}

/-! ### The non-chair channels in grant order -/

/-- The channels of the grant order that are of no kind CHAIR, oldest first. -/
def nonChairs (s : State) : List ChanNo := s.grantOrder.filter fun c => (s.chan c).nonChair

theorem GrantOrderOk.nonChairCount_eq (h : s.GrantOrderOk) : s.nonChairCount = s.nonChairs.length := by
  obtain ⟨hnodup, hbusy⟩ := h
  refine List.Perm.length_eq ((List.perm_ext_iff_of_nodup ((List.nodup_finRange 16).filter _) (hnodup.filter _)).2 ?_)
  intro c
  rw [List.mem_filter, List.mem_filter, hbusy]
  refine and_congr_left fun hnon => iff_of_true (List.mem_finRange c) ?_
  rw [Channel.nonChair, Bool.and_eq_true] at hnon
  exact hnon.1

theorem oldestNonChair_eq_head (s : State) : s.oldestNonChair = s.nonChairs.head? := (List.head?_filter ..).symm

theorem GrantOrderOk.nonChairs_eq (h : s.GrantOrderOk) :
    s.nonChairs = s.grantOrder.filter fun c => (s.chan c).kind != some .chair := by
  refine List.filter_congr fun c hc => ?_
  rw [Channel.nonChair, (h.2 c).1 hc, Bool.true_and]

/-! ### Channels closed without a fill rule -/

/-- The channels of `gone` have been closed, and nothing has been done to the others. -/
structure Freed (s : State) (gone : List ChanNo) (t : State) : Prop where
  frame : GrantFrame s t
  list : t.list = s.list
  grantOrder : t.grantOrder = s.grantOrder.filter fun c => !gone.contains c
  free : ∀ c ∈ gone, (t.chan c).busy = false
  chan : ∀ c ∉ gone, t.chan c = s.chan c

theorem Freed.refl (s : State) : Freed s [] s :=
  ⟨.refl s, rfl, (List.filter_eq_self.2 fun _ _ => rfl).symm, fun _ hc => absurd hc List.not_mem_nil, fun _ _ => rfl⟩

theorem Freed.close {gone : List ChanNo} (h : Freed s gone t) (horder : s.GrantOrderOk) {c : ChanNo} {n : SeatNo}
    (r : Reason) (hc : c ∉ gone) (hcan : s.canClose c n = true) : Freed s (gone ++ [c]) (t.closeChannel c n r) := by
  have hcan' : t.canClose c n = true := by
    rw [canClose_iff, h.chan c hc]
    exact (s.canClose_iff c n).1 hcan
  obtain ⟨hchan, horder', -⟩ := t.closeChannel_taken c n r hcan'
  refine ⟨h.frame.trans (t.closeChannel_grantFrame c n r), (t.closeChannel_list c n r).trans h.list, ?_, fun d hd => ?_,
    fun d hd => ?_⟩
  · rw [horder', h.grantOrder, (horder.1.filter _).erase_eq_filter, List.filter_filter]
    refine List.filter_congr fun d _ => ?_
    by_cases hdc : d = c <;> simp [hdc]
  · rw [hchan]
    split
    · rfl
    · next hne =>
      rw [List.mem_append, List.mem_singleton] at hd
      exact h.free d (hd.resolve_right (Ne.symm hne))
  · rw [List.mem_append, List.mem_singleton, not_or] at hd
    rw [hchan, if_neg (Ne.symm hd.2), h.chan d hd.1]

theorem Freed.grantOrderOk {gone : List ChanNo} (h : Freed s gone t) (horder : s.GrantOrderOk) : t.GrantOrderOk := by
  obtain ⟨hnodup, hbusy⟩ := horder
  refine ⟨h.grantOrder ▸ hnodup.filter _, fun c => ?_⟩
  rw [h.grantOrder, List.mem_filter, hbusy]
  by_cases hc : c ∈ gone
  · simp [hc, h.free c hc]
  · simp [hc, h.chan c hc]

theorem Freed.nonChairs_eq {gone : List ChanNo} (h : Freed s gone t) :
    t.nonChairs = s.nonChairs.filter fun c => !gone.contains c := by
  rw [nonChairs, nonChairs, h.grantOrder, List.filter_filter, List.filter_filter]
  refine List.filter_congr fun c _ => ?_
  by_cases hc : c ∈ gone
  · simp [hc]
  · simp [hc, h.chan c hc]

/-! ### The oldest non-chair channels closed one after another -/

/-- The state after the channels of a list have been closed with NEXT_SPEAKER, each for the seat it had at the start. -/
def closedInTurn (s : State) (l : List ChanNo) : State :=
  l.foldl (fun v c => match (s.chan c).seat with
    | some n => v.closeChannel c n .nextSpeaker
    | none => v) s

theorem ChannelsOk.seat_of_busy (h : s.ChannelsOk) {c : ChanNo} (hc : (s.chan c).busy = true) :
    ∃ n, (s.chan c).seat = some n ∧ s.canClose c n = true := by
  obtain ⟨hseat, -⟩ := (h c).2 hc
  obtain ⟨n, hn⟩ := Option.isSome_iff_exists.1 hseat
  exact ⟨n, hn, (s.canClose_iff c n).2 ⟨(Channel.busy_iff _).1 hc, hn⟩⟩

theorem closedInTurn_freed (hchannels : s.ChannelsOk) (horder : s.GrantOrderOk) {l : List ChanNo} (hl : l.Nodup)
    (hin : ∀ c ∈ l, c ∈ s.grantOrder) : Freed s l (s.closedInTurn l) := by
  induction l using List.reverseRecOn with
  | nil => exact .refl s
  | append_singleton l c ih =>
    obtain ⟨hl', -, hapart⟩ := List.nodup_append.1 hl
    have hfreed := ih hl' fun x hx => hin x (List.mem_append_left _ hx)
    obtain ⟨n, hn, hcan⟩ := hchannels.seat_of_busy ((horder.2 c).1 (hin c (List.mem_append_right _ List.mem_cons_self)))
    have hstep := hfreed.close horder .nextSpeaker (fun hc => hapart c hc c List.mem_cons_self rfl) hcan
    rw [closedInTurn, List.foldl_concat, hn]
    exact hstep

/-- The oldest non-chair channels closed, as many as told (R110). -/
def oldestClosed (s : State) (j : Nat) : State := s.closedInTurn (s.nonChairs.take j)

theorem filter_not_contains_append {old new : List ChanNo} (h : ∀ a ∈ old, ∀ b ∈ new, a ≠ b) :
    ((old ++ new).filter fun c => !old.contains c) = new := by
  have hold : (old.filter fun c => !old.contains c) = [] := List.filter_eq_nil_iff.2 fun c hc => by simp [hc]
  have hnew : (new.filter fun c => !old.contains c) = new :=
    List.filter_eq_self.2 fun c hc => by simpa using fun hin => h c hin c hc rfl
  rw [List.filter_append, hold, hnew, List.nil_append]

section
variable (hchannels : s.ChannelsOk) (horder : s.GrantOrderOk)
include hchannels horder

theorem oldestClosed_freed (j : Nat) : Freed s (s.nonChairs.take j) (s.oldestClosed j) := by
  have hnodup : s.nonChairs.Nodup := horder.1.filter _
  exact closedInTurn_freed hchannels horder (hnodup.sublist (List.take_sublist _ _))
    fun c hc => (List.mem_filter.1 (List.mem_of_mem_take hc)).1

theorem oldestClosed_nonChairs (j : Nat) : (s.oldestClosed j).nonChairs = s.nonChairs.drop j := by
  have hnodup : s.nonChairs.Nodup := horder.1.filter _
  rw [(oldestClosed_freed hchannels horder j).nonChairs_eq]
  rw [← List.take_append_drop j s.nonChairs, List.nodup_append] at hnodup
  obtain ⟨-, -, hapart⟩ := hnodup
  have hrest := filter_not_contains_append hapart
  rwa [List.take_append_drop] at hrest

/-- One close more: the oldest that is left (R109). -/
theorem closeBusy_oldestClosed {j : Nat} {c : ChanNo} (h : (s.oldestClosed j).oldestNonChair = some c) :
    (s.oldestClosed j).closeBusy c .nextSpeaker = s.oldestClosed (j + 1) := by
  rw [oldestNonChair_eq_head, oldestClosed_nonChairs hchannels horder] at h
  have hmem := List.mem_of_head? h
  rw [List.head?_drop] at h
  have hfreed := oldestClosed_freed hchannels horder j
  have hnodup : s.nonChairs.Nodup := horder.1.filter _
  have hout : c ∉ s.nonChairs.take j := by
    rw [← List.take_append_drop j s.nonChairs, List.nodup_append] at hnodup
    obtain ⟨-, -, hapart⟩ := hnodup
    exact fun hc => hapart c hc c hmem rfl
  have hbusy : (s.chan c).busy = true := (horder.2 c).1 (List.mem_filter.1 (List.mem_of_getElem? h)).1
  obtain ⟨n, hn, -⟩ := hchannels.seat_of_busy hbusy
  have htake : s.nonChairs.take (j + 1) = s.nonChairs.take j ++ [c] := by rw [List.take_add_one, h]; rfl
  have hseat : ((s.oldestClosed j).chan c).seat = some n := by rw [hfreed.chan c hout, hn]
  have hstep : (s.oldestClosed j).closeBusy c .nextSpeaker = (s.oldestClosed j).closeChannel c n .nextSpeaker := by
    unfold closeBusy
    rw [hseat]
  rw [hstep, oldestClosed, oldestClosed, htake, closedInTurn, closedInTurn, List.foldl_concat, hn]

/-- NEXT's closes above the limit (R110 step 3). -/
theorem closeDown_oldestClosed {k j : Nat} (hlimit : 1 ≤ s.floorCfg.limit)
    (hk : s.nonChairs.length + 1 - s.floorCfg.limit ≤ k + j) :
    closeDown k (s.oldestClosed j) = s.oldestClosed (max j (s.nonChairs.length + 1 - s.floorCfg.limit)) := by
  induction k generalizing j with
  | zero =>
    rw [max_eq_left (by omega)]
    rfl
  | succ k ih =>
    have hfreed := oldestClosed_freed hchannels horder j
    have hcount := (hfreed.grantOrderOk horder).nonChairCount_eq
    have hnon := oldestClosed_nonChairs hchannels horder j
    rw [hnon, List.length_drop] at hcount
    rw [closeDown, hcount, hfreed.frame.floorCfg]
    split
    · next habove =>
      have hlt : j < s.nonChairs.length := by omega
      have hold : (s.oldestClosed j).oldestNonChair = some s.nonChairs[j] := by
        rw [oldestNonChair_eq_head, hnon, List.head?_drop, List.getElem?_eq_getElem hlt]
      rw [hold]
      dsimp only
      rw [closeBusy_oldestClosed hchannels horder hold, ih (by omega)]
      congr 1
      omega
    · next hbelow => rw [max_eq_left (by omega)]

end

/-- NEXT's closes above the limit leave one place below it (R110 step 3). -/
theorem closeDown_eq (hchannels : s.ChannelsOk) (horder : s.GrantOrderOk) (hlimit : 1 ≤ s.floorCfg.limit) :
    s.closeDown 16 = s.oldestClosed (s.nonChairCount + 1 - s.floorCfg.limit) := by
  have hnodup : s.nonChairs.Nodup := horder.1.filter _
  have hlength : s.nonChairs.length ≤ 16 := by
    have h := hnodup.length_le_card
    rwa [Fintype.card_fin] at h
  have h := closeDown_oldestClosed hchannels horder (k := 16) (j := 0) hlimit (by omega)
  rw [Nat.zero_max] at h
  rw [horder.nonChairCount_eq]
  exact h

theorem firstEligible_congr (hlist : t.list = s.list) (hcfg : t.floorCfg = s.floorCfg) :
    t.firstEligible = s.firstEligible := by
  have heligible : t.eligible = s.eligible := by
    funext e
    rw [eligible, eligible, hcfg]
  rw [firstEligible, firstEligible, hlist, heligible]

/-- Steps 5 and 6 of NEXT, after closes (R110). -/
theorem Freed.grantNext {gone : List ChanNo} (h : Freed s gone t) {e : Entry} (he : s.firstEligible = some e) :
    t.grantNext = (t.grant e.seat e.kind.turn e.effective false).fillRule := by
  unfold State.grantNext
  rw [firstEligible_congr h.list h.frame.floorCfg, he]

/-- NEXT of an OPEN floor with an eligible entry, by the places and the FREE channels (R110). -/
theorem next_of_eligible {e : Entry} (hfloor : s.floor = .opened) (he : s.firstEligible = some e) : s.next =
    if s.floorCfg.limit ≤ s.nonChairCount then ((s.closeDown 16).grantNext, .done)
    else if s.lowestFree.isSome then (s.grantNext, .done)
    else match s.oldestNonChair with
      | some c => ((s.closeBusy c .nextSpeaker).grantNext, .done)
      | none => (s, .refusedLimit) := by
  unfold next
  rw [if_neg (not_not.2 hfloor), he, if_neg (by simp)] <;> rfl

theorem GrantFrame.grantThenFill (h : GrantFrame s t) (n : SeatNo) (k : TurnKind) (l : Level) (x : Bool) :
    FloorFrame s (t.grant n k l x).fillRule :=
  (h.trans ((grant_grantFrame t n k l x).trans (fillRule_grantFrame _))).frame

end State

/-- Settles O60: the cases of R110; above the limit the closes leave one place below it. -/
theorem nextGrantsTheFirstEligibleEntry : Obligations.NextGrantsTheFirstEligibleEntry := by
  unfold Obligations.NextGrantsTheFirstEligibleEntry
  intro m s htakes hready hchannels horder hcfg
  obtain ⟨⟨hlimit, -⟩, -⟩ := hcfg
  have hcount := horder.nonChairCount_eq
  have hexec {t : State} {st : Status} (hnext : s.next = (t, st)) (hframe : State.FloorFrame s t) :
      exec (.nextSpeaker m) s = .next (t.replied m.tag st []) := by
    refine operate_floor htakes hready ?_ hframe
    rw [nextBody, hnext]
    rfl
  refine ⟨fun hfloor => hexec (if_pos hfloor) (.refl s), fun hfloor hnone => hexec ?_ (.refl s), fun e hfloor he => ?_⟩
  · unfold State.next
    rw [if_neg (not_not.2 hfloor), hnone]
    rfl
  have hnext := State.next_of_eligible hfloor he
  have hgrant {gone : List ChanNo} {t : State} (h : State.Freed s gone t) := h.grantNext he
  refine ⟨fun hbelow hfree => ?_, fun hbelow hfull hnone => ?_, fun older newer c n hplace hsplit holder hkind hseat => ?_,
    fun habove => ?_⟩
  · rw [if_neg (not_le.2 hbelow), if_pos ((State.lowestFree_isSome_iff s).2 hfree), hgrant (.refl s)] at hnext
    exact hexec hnext ((State.GrantFrame.refl s).grantThenFill ..)
  · have hold : s.oldestNonChair = none := by
      rw [State.oldestNonChair_eq_head, List.length_eq_zero_iff.1 (hcount.symm.trans hnone)]
      rfl
    rw [if_neg (not_le.2 hbelow), (State.lowestFree_eq_none_iff s).2 hfull, hold] at hnext
    exact hexec hnext (.refl s)
  · have hbusy : (s.chan c).busy = true := (horder.2 c).1 (by simp [hsplit])
    have hold : s.oldestNonChair = some c :=
      State.oldestNonChair_of_append hsplit holder ((Channel.busy_iff _).1 hbusy) hkind
    have hone : s.closeBusy c .nextSpeaker = s.oldestClosed 1 := State.closeBusy_oldestClosed hchannels horder (j := 0) hold
    have hclose : s.closeBusy c .nextSpeaker = s.closeChannel c n .nextSpeaker := by
      unfold State.closeBusy
      rw [hseat]
    have hthen := hgrant (State.oldestClosed_freed hchannels horder 1)
    rw [← hone, hclose] at hthen
    have hframe := (s.closeChannel_grantFrame c n .nextSpeaker).grantThenFill e.seat e.kind.turn e.effective false
    obtain hfull | ⟨hbelow, hbusyAll⟩ := hplace
    · have hdown := State.closeDown_eq hchannels horder hlimit
      rw [hfull, Nat.add_sub_cancel_left, ← hone, hclose] at hdown
      rw [if_pos hfull.ge, hdown, hthen] at hnext
      exact hexec hnext hframe
    · rw [if_neg (not_le.2 hbelow), (State.lowestFree_eq_none_iff s).2 hbusyAll, hold] at hnext
      dsimp only at hnext
      rw [hclose, hthen] at hnext
      exact hexec hnext hframe
  · intro oldest u
    have hdown := State.closeDown_eq hchannels horder hlimit
    have hfreed := State.oldestClosed_freed hchannels horder (s.nonChairCount + 1 - s.floorCfg.limit)
    have hnon := State.oldestClosed_nonChairs hchannels horder (s.nonChairCount + 1 - s.floorCfg.limit)
    have hcountu := (hfreed.grantOrderOk horder).nonChairCount_eq
    have hu : s.oldestClosed (s.nonChairCount + 1 - s.floorCfg.limit) = u := by
      rw [State.oldestClosed, horder.nonChairs_eq]
      rfl
    rw [hu] at hdown hfreed hnon hcountu
    rw [hnon, List.length_drop] at hcountu
    rw [horder.nonChairs_eq] at hfreed
    change State.Freed s oldest u at hfreed
    rw [if_pos habove.le, hdown, hgrant hfreed] at hnext
    refine ⟨hfreed.frame.frame, by omega, hfreed.list, hfreed.grantOrder, fun c hc => hfreed.chan c ?_,
      hexec hnext (hfreed.frame.grantThenFill ..)⟩
    rw [hfreed.grantOrder, List.mem_filter] at hc
    simpa using hc.2

end Sys2Proof.Machine
end

section
/-! PROOF. READ FLOOR and READ COUNTERS: what each clears, and the bytes of a channel record and of the summary. -/

namespace Sys2Proof.Machine

/-! ### The bytes of 2.8 -/

theorem padTo_of_le {α : Type} {k : Nat} (x : α) {l : List α} (h : l.length ≤ k) :
    padTo k x l = l ++ List.replicate (k - l.length) x := by
  rw [padTo, List.take_append, List.take_of_length_le h, List.take_replicate, Nat.min_eq_left (Nat.sub_le _ _)]

theorem flatten_padTo_two {l : List Nat} (h : l.length ≤ 8) :
    (padTo 8 [0xFF, 0xFF] (l.map two)).flatten = l.flatMap two ++ List.replicate (16 - 2 * l.length) 0xFF := by
  have hpair : ([0xFF, 0xFF] : List Byte) = List.replicate 2 0xFF := rfl
  rw [padTo_of_le _ (by rwa [List.length_map]), List.flatten_append, List.length_map, hpair,
    List.flatten_replicate_replicate, List.flatMap_def]
  congr 2
  omega

theorem seatField_eq_pair (n : Option SeatNo) : seatField n = match n with
    | some n => [BitVec.ofNat 8 (n.val / 256), BitVec.ofNat 8 n.val]
    | none => [0xFF, 0xFF] := by
  cases n with
  | none => rfl
  | some n => exact two_eq_pair n.val

theorem byte_of_causes (k : Channel) :
    byte (k.priority.toNat + 2 * k.suspend.toNat) = 0#6 ++ BitVec.ofBool k.suspend ++ BitVec.ofBool k.priority := by
  cases k.priority <;> cases k.suspend <;> decide

theorem byte_of_chanState (x : ChanState) : byte x.code = match x with
    | .free => 0
    | .opened => 1
    | .held => 2 := by cases x <;> rfl

theorem byte_of_kind (x : Option TurnKind) : (x.map fun x => byte x.code).getD 0xFF = match x with
    | some .speak => 0
    | some .order => 1
    | some .chair => 2
    | none => 0xFF := by
  cases x with
  | none => rfl
  | some x => cases x <;> rfl

theorem byte_of_level (x : Option Level) : (x.map fun x => byte x.val).getD 0xFF = match x with
    | some l => BitVec.ofNat 8 l.val
    | none => 0xFF := by cases x <;> rfl

theorem byte_of_timerMode (x : TimerMode) : byte x.code = match x with
    | .countdown => 0
    | .overtime => 1
    | .elapsed => 2 := by cases x <;> rfl

theorem byte_of_floor (x : FloorState) : byte x.code = match x with
    | .closed => 0
    | .opened => 1
    | .suspended => 2 := by cases x <;> rfl

theorem byte_of_mode (x : Mode) : byte x.code = match x with
    | .auto => 0
    | .override => 1
    | .directed => 2 := by cases x <;> rfl

theorem channelBytes_eq {k : Channel} (h : k.timer.value.Valid) : channelBytes k =
    [byte k.state.code] ++ seatField k.seat
      ++ [((k.kind.map fun x => byte x.code).getD 0xFF), ((k.level.map fun x => byte x.val).getD 0xFF),
        0#6 ++ BitVec.ofBool k.suspend ++ BitVec.ofBool k.priority, byte k.timer.mode.code,
        BitVec.ofNat 4 k.timer.value.mt ++ BitVec.ofNat 4 k.timer.value.mu,
        BitVec.ofNat 4 k.timer.value.st ++ BitVec.ofNat 4 k.timer.value.su]
      ++ two k.timer.allowance ++ two k.timer.used ++ two k.timer.phase
      ++ [flagByte k.timer.warned, flagByte k.detector.voice] ++ two k.detector.level ++ two k.detector.peak
      ++ [byte (k.detector.run / 65536)] ++ two k.detector.run := by
  rw [channelBytes, mmssBytes_of_valid h, byte_of_causes, three]
  simp only [List.append_assoc, List.cons_append, List.nil_append]

namespace State

variable {s t : State}

/-! ### READ FLOOR -/

theorem chan_clearPeak (s : State) (c d : ChanNo) : (s.clearPeak c).chan d =
    if c = d then { s.chan d with detector := { (s.chan d).detector with peak := 0 } } else s.chan d := chan_updChan ..

theorem foldl_clearPeak (l : List ChanNo) (s : State) :
    l.foldl (fun s c => s.clearPeak c) s = s.withChannels (l.foldl (fun s c => s.clearPeak c) s).channels := by
  induction l generalizing s with
  | nil => rfl
  | cons c l ih =>
    rw [List.foldl_cons, ih]
    rfl

theorem chan_foldl_clearPeak (l : List ChanNo) (s : State) (d : ChanNo) :
    (l.foldl (fun s c => s.clearPeak c) s).chan d =
      if d ∈ l then { s.chan d with detector := { (s.chan d).detector with peak := 0 } } else s.chan d := by
  induction l generalizing s with
  | nil => rfl
  | cons c l ih =>
    rw [List.foldl_cons, ih, chan_clearPeak]
    by_cases hc : c = d
    · subst hc
      simp
    · simp [hc, Ne.symm hc]

theorem mem_groupChannels {group : Byte} (h : group.toNat ≤ 1) (c : ChanNo) :
    c ∈ groupChannels group ↔ c.val / 8 = group.toNat := by
  have hlow : ∀ c : ChanNo, c ∈ allChannels.take 8 ↔ c.val / 8 = 0 := by decide
  have hhigh : ∀ c : ChanNo, c ∈ allChannels.drop 8 ↔ c.val / 8 = 1 := by decide
  obtain rfl | rfl : group = 0 ∨ group = 1 := by bv_omega
  · exact hlow c
  · exact hhigh c

/-! ### READ COUNTERS -/

theorem clearCounters_eq (s : State) : s.clearCounters =
    (s.withPorts s.clearCounters.ports).withMgmt { s.mgmt with mgmtErr := 0, noticeDrop := 0 } := rfl

theorem clearCounters_port (s : State) (b : BranchId) : s.clearCounters.port b =
    { s.port b with checkErr := 0, rangeErr := 0, kindErr := 0, audioStray := 0 } := by cases b <;> rfl

/-! ### The holder set and the grant order in the summary -/

theorem HoldersOk.length_le (h : s.HoldersOk) (hchairs : chairCount s ≤ 8) : s.holders.length ≤ 8 := by
  obtain ⟨hsorted, hchair⟩ := h
  have hnodup : s.holders.Nodup := hsorted.imp fun hlt => ne_of_lt hlt
  refine le_trans (hnodup.subperm fun n hn => ?_).length_le hchairs
  rw [mem_seatsWhere, (hchair n hn).2]
  rfl

theorem GrantOrderOk.length_le (h : s.GrantOrderOk) : s.grantOrder.length ≤ 16 := by
  have hle := h.1.length_le_card
  rwa [Fintype.card_fin] at hle

end State
/-- Settles O44: the readouts by their acts, and the record and the summary byte by byte. -/
theorem readoutsClearWhatTheyReport : Obligations.ReadoutsClearWhatTheyReport := by
  unfold Obligations.ReadoutsClearWhatTheyReport
  refine ⟨fun m group s htakes => ?_, fun m clear s htakes => ?_, ?_⟩
  · have hexec := operate_of_takes m .readFloor [group] (readFloor group) s htakes
    unfold readFloor at hexec
    refine ⟨fun hlarge => ?_, fun hsmall => ?_⟩
    · rw [if_pos hlarge] at hexec
      exact hexec.trans (congrArg Host.Outcome.next (State.answer_reply_of_up htakes.1))
    · rw [if_neg (not_lt.2 hsmall)] at hexec
      have heq := State.foldl_clearPeak (groupChannels group) s
      have hchan (c : ChanNo) := State.chan_foldl_clearPeak (groupChannels group) s c
      dsimp only at hexec
      generalize (groupChannels group).foldl (fun s c => s.clearPeak c) s = t at *
      have hup : t.uplink.up = true := by rw [heq]; exact htakes.1
      refine ⟨t, hexec.trans (congrArg Host.Outcome.next (State.answer_reply_of_up hup)), heq, fun c => ?_⟩
      simp only [hchan, State.mem_groupChannels hsmall]
  · have hexec := operate_of_takes m .readCounters [clear] (readCounters clear) s htakes
    unfold readCounters at hexec
    intro four data
    have hdata : s.counters.flatMap two = data := rfl
    refine ⟨fun hlarge => ?_, fun hzero => ?_, fun hone => ?_⟩
    · rw [if_pos hlarge] at hexec
      exact hexec.trans (congrArg Host.Outcome.next (State.answer_reply_of_up htakes.1))
    · subst hzero
      exact hexec.trans (congrArg Host.Outcome.next (State.answer_reply_of_up htakes.1))
    · subst hone
      exact ⟨s.clearCounters, hexec.trans (congrArg Host.Outcome.next (State.answer_reply_of_up htakes.1)),
        s.clearCounters_port, s.clearCounters_eq⟩
  · intro pair yes
    have htwo (k : Nat) : two k = pair k := two_eq_pair k
    refine ⟨fun k hvalid => ?_, fun s group hholders hchairs horder => ?_⟩
    · intro v state
      rw [channelBytes_eq hvalid, seatField_eq_pair, byte_of_chanState, byte_of_kind, byte_of_level, byte_of_timerMode]
      simp only [htwo]
      rfl
    · have hlen := hholders.length_le hchairs
      have hmap : (s.holders.map fun n => two n.val) = (s.holders.map fun n => n.val).map two := by
        rw [List.map_map]
        rfl
      rw [floorSummary, hmap, flatten_padTo_two (by rwa [List.length_map]), List.length_map,
        padTo_of_le _ (by rw [List.length_map]; exact horder.length_le), List.length_map, horder.nonChairCount_eq,
        horder.nonChairs_eq, List.flatMap_map, byte_of_floor, byte_of_mode]
      simp only [htwo, List.append_assoc]
      rfl

end Sys2Proof.Machine
end

section
/-! PROOF. Changes of the hold causes of channels in turn: the records, the notices and the marks; the holder set, SUSPEND
and RESUME. -/

namespace Sys2Proof.Machine

namespace State

variable {s t : State}

/-! ### One channel's record changed, with what is told of its state -/

/-- A channel takes a record; where its state changes, the notice and the mark of its seat follow (R96). -/
def changeChan (c : ChanNo) (k : Channel) (q : Reason) (s : State) : State :=
  if k.state = (s.chan c).state then s.setChan c k
  else ((s.setChan c k).notice (if k.state = .held then .held else .released) (s.chan c).seat (some c) (some q)).markOpt
    (s.chan c).seat

theorem setChan_chan (s : State) (c : ChanNo) : s.setChan c (s.chan c) = s := by
  have h : s.channels.set c (s.chan c) = s.channels := Vector.set_getElem_self _
  unfold setChan
  rw [h]

theorem changeChan_self (s : State) (c : ChanNo) (q : Reason) : s.changeChan c (s.chan c) q = s :=
  (if_pos rfl).trans (s.setChan_chan c)

theorem chan_changeChan (s : State) (c d : ChanNo) (k : Channel) (q : Reason) :
    (s.changeChan c k q).chan d = if c = d then k else s.chan d := by
  unfold changeChan
  split
  · exact chan_setChan ..
  · rw [markOpt_chan, notice_chan]
    exact chan_setChan ..

/-- A busy channel's HELD state says whether it has a cause (R83). -/
def HeldByCause (k : Channel) : Prop := k.busy = true ∧ (k.state = .held ↔ k.hasCause = true)

theorem ChannelsOk.heldByCause (h : s.ChannelsOk) {c : ChanNo} (hc : (s.chan c).busy = true) : HeldByCause (s.chan c) := by
  obtain ⟨-, -, -, hheld⟩ := (h c).2 hc
  exact ⟨hc, hheld⟩

theorem HeldByCause.opened {k : Channel} (h : HeldByCause k) (hnone : k.hasCause = false) : k.state = .opened := by
  obtain ⟨hbusy, hheld⟩ := h
  have hnot : k.state ≠ .held := fun hk => by
    rw [hheld.1 hk] at hnone
    cases hnone
  cases hs : k.state with
  | free => rw [Channel.busy, hs] at hbusy; cases hbusy
  | opened => rfl
  | held => exact absurd hs hnot

theorem causeSet_of_carries {k : Channel} {x : Cause} {v : Bool} (h : carries k x = v) : causeSet k x v = k := by
  cases x with
  | priority =>
    change { k with priority := v } = k
    rw [← h]
    rfl
  | suspend =>
    change { k with suspend := v } = k
    rw [← h]
    rfl

theorem hasCause_of_carries {k : Channel} {x : Cause} (h : carries k x = true) : k.hasCause = true := by
  rw [Channel.hasCause, Bool.or_eq_true]
  cases x with
  | priority => exact .inl h
  | suspend => exact .inr h

theorem HeldByCause.state_eq {k : Channel} (h : HeldByCause k) : k.state = if k.hasCause then .held else .opened := by
  split
  · next hcause => exact h.2.2 hcause
  · next hnone => exact h.opened (eq_false_of_ne_true hnone)

theorem addCause_eq {c : ChanNo} (x : Cause) (h : HeldByCause (s.chan c)) :
    s.addCause c x = s.changeChan c { causeSet (s.chan c) x true with state := .held } (causeReason x) := by
  have hstate := h.state_eq
  unfold addCause
  dsimp only
  generalize hk : s.chan c = k at *
  rw [h.1, Bool.not_true, Bool.false_or]
  cases hcarries : carries k x with
  | true =>
    have hheld : k.state = .held := h.2.2 (hasCause_of_carries hcarries)
    have hself : ({ causeSet k x true with state := .held } : Channel) = k := by
      rw [causeSet_of_carries hcarries, ← hheld]
    rw [if_pos rfl, hself, ← hk, changeChan_self]
  | false =>
    rw [if_neg Bool.false_ne_true, changeChan, hk, hstate]
    cases hcause : k.hasCause with
    | true => rfl
    | false => rfl

theorem removeCause_eq {c : ChanNo} (x : Cause) (h : HeldByCause (s.chan c)) :
    s.removeCause c x = s.changeChan c { causeSet (s.chan c) x false with
      state := if (causeSet (s.chan c) x false).hasCause then .held else .opened } (causeReason x) := by
  have hstate := h.state_eq
  unfold removeCause
  dsimp only
  generalize hk : s.chan c = k at *
  rw [h.1, Bool.not_true, Bool.false_or]
  cases hcarries : carries k x with
  | false =>
    have hself : ({ causeSet k x false with
        state := if (causeSet k x false).hasCause then .held else .opened } : Channel) = k := by
      rw [causeSet_of_carries hcarries, ← hstate]
    rw [Bool.not_false, if_pos rfl, hself, ← hk, changeChan_self]
  | true =>
    have hheld : k.state = .held := h.2.2 (hasCause_of_carries hcarries)
    rw [Bool.not_true, if_neg Bool.false_ne_true, changeChan, hk, hheld]
    cases hcause : (causeSet k x false).hasCause with
    | true =>
      have hsame : ({ causeSet k x false with state := .held } : Channel) = causeSet k x false := by
        rw [← hheld]
        cases x <;> rfl
      rw [if_pos rfl, if_pos rfl, if_pos rfl, hsame]
    | false => rfl

/-! ### Several channels in turn -/

/-- The channels of a list take their records one after another. -/
def changedInTurn (target : ChanNo → Channel) (q : Reason) (l : List ChanNo) (s : State) : State :=
  l.foldl (fun v c => v.changeChan c (target c) q) s

/-- The notices of the channels of a list whose state changes, in order (R96). -/
def toldInTurn (target : ChanNo → Channel) (q : Reason) (s : State) (l : List ChanNo) : State :=
  (l.filter fun c => (target c).state != (s.chan c).state).foldl (fun u c =>
    u.notice (if (target c).state = .held then .held else .released) (s.chan c).seat (some c) (some q)) s

/-- The seats of the channels of a list whose state changes, in order. -/
def seatsChanged (target : ChanNo → Channel) (s : State) (l : List ChanNo) : List SeatNo :=
  (l.filter fun c => (target c).state != (s.chan c).state).filterMap fun c => (s.chan c).seat

variable {target : ChanNo → Channel} {q : Reason}

theorem toldInTurn_concat (l : List ChanNo) (c : ChanNo) : toldInTurn target q s (l ++ [c]) =
    if (target c).state = (s.chan c).state then toldInTurn target q s l
    else (toldInTurn target q s l).notice (if (target c).state = .held then .held else .released) (s.chan c).seat
      (some c) (some q) := by
  unfold toldInTurn
  rw [List.filter_append, List.foldl_append]
  by_cases h : (target c).state = (s.chan c).state
  · simp [h]
  · simp [h]

theorem seatsChanged_concat (l : List ChanNo) (c : ChanNo) : seatsChanged target s (l ++ [c]) =
    if (target c).state = (s.chan c).state then seatsChanged target s l
    else seatsChanged target s l ++ (s.chan c).seat.toList := by
  unfold seatsChanged
  rw [List.filter_append, List.filterMap_append]
  by_cases h : (target c).state = (s.chan c).state
  · simp [h]
  · rw [if_neg h]
    congr 1
    cases hs : (s.chan c).seat <;> simp [h, hs]

theorem notice_markAll (l : List SeatNo) (s : State) (k : NoticeKind) (n : Option SeatNo) (c : Option ChanNo)
    (r : Option Reason) : (s.markAll l).notice k n c r = (s.notice k n c r).markAll l := by
  induction l generalizing s with
  | nil => rfl
  | cons m l ih => exact (ih (s.mark m)).trans (congrArg (markAll l) (notice_mark ..))

theorem markOpt_markAll (l : List SeatNo) (s : State) (n : Option SeatNo) :
    (s.markAll l).markOpt n = s.markAll (l ++ n.toList) := by
  cases n with
  | none => rw [Option.toList_none, List.append_nil]; rfl
  | some n =>
    rw [Option.toList_some, markAll, markAll, List.foldl_concat]
    rfl

theorem TellsAlike.markOpt (h : TellsAlike s t) (n : Option SeatNo) : TellsAlike (s.markOpt n) (t.markOpt n) := by
  cases n with
  | none => exact h
  | some n => exact h.mark n

/-- What the changes in turn leave of the channels, and what they tell. -/
structure InTurn (target : ChanNo → Channel) (q : Reason) (s : State) (l : List ChanNo) (t : State) : Prop where
  chan : ∀ c : ChanNo, t.chan c = if c ∈ l then target c else s.chan c
  alike : TellsAlike ((toldInTurn target q s l).markAll (seatsChanged target s l)) t

theorem InTurn.refl (s : State) : InTurn target q s [] s := ⟨fun _ => rfl, ⟨rfl, rfl, rfl, rfl, rfl, rfl, rfl⟩⟩

theorem TellsAlike.setChan (h : TellsAlike s t) (c : ChanNo) (k : Channel) : TellsAlike s (t.setChan c k) :=
  ⟨h.branches, h.floorCfg, h.ports, h.uplink, h.list, h.floor, h.mgmt⟩

theorem InTurn.concat {l : List ChanNo} (h : InTurn target q s l t) {c : ChanNo} (hc : c ∉ l) :
    InTurn target q s (l ++ [c]) (t.changeChan c (target c) q) := by
  have hsame : t.chan c = s.chan c := by rw [h.chan, if_neg hc]
  refine ⟨fun d => ?_, ?_⟩
  · rw [chan_changeChan, h.chan]
    by_cases hd : c = d
    · subst hd
      simp
    · simp [hd, Ne.symm hd]
  · rw [toldInTurn_concat, seatsChanged_concat, changeChan, hsame]
    split
    · exact h.alike.setChan _ _
    · rw [← markOpt_markAll, ← notice_markAll]
      exact ((h.alike.setChan _ _).notice ..).markOpt _

theorem changedInTurn_inTurn {l : List ChanNo} (hl : l.Nodup) : InTurn target q s l (s.changedInTurn target q l) := by
  induction l using List.reverseRecOn with
  | nil => exact .refl s
  | append_singleton l c ih =>
    obtain ⟨hl', -, hapart⟩ := List.nodup_append.1 hl
    rw [changedInTurn, List.foldl_concat]
    exact (ih hl').concat fun hc => hapart c hc c List.mem_cons_self rfl

/-- Channels that keep their records take no part. -/
theorem changedInTurn_eq_self {l : List ChanNo} (h : ∀ c ∈ l, target c = s.chan c) : s.changedInTurn target q l = s := by
  induction l with
  | nil => rfl
  | cons c l ih =>
    rw [changedInTurn, List.foldl_cons, h c List.mem_cons_self, changeChan_self]
    exact ih fun d hd => h d (List.mem_cons_of_mem _ hd)

/-- One channel alone changes. -/
theorem changedInTurn_of_single {l : List ChanNo} (hl : l.Nodup) {c : ChanNo} (hc : c ∈ l)
    (h : ∀ d ∈ l, d ≠ c → target d = s.chan d) : s.changedInTurn target q l = s.changeChan c (target c) q := by
  obtain ⟨before, after, rfl⟩ := List.append_of_mem hc
  rw [List.nodup_append, List.nodup_cons] at hl
  obtain ⟨-, ⟨hafter, -⟩, hbefore⟩ := hl
  have hfirst : s.changedInTurn target q before = s := changedInTurn_eq_self fun d hd =>
    h d (List.mem_append_left _ hd) fun hdc => hbefore d hd c List.mem_cons_self hdc
  have hrest : (s.changeChan c (target c) q).changedInTurn target q after = s.changeChan c (target c) q := by
    refine changedInTurn_eq_self fun d hd => ?_
    have hne : d ≠ c := fun hdc => hafter (hdc ▸ hd)
    rw [chan_changeChan, if_neg (Ne.symm hne), h d (List.mem_append_right _ (List.mem_cons_of_mem _ hd)) hne]
  rw [changedInTurn, List.foldl_append, List.foldl_cons]
  rw [changedInTurn] at hfirst hrest
  rw [hfirst, hrest]

/-- A run of steps, each of which changes its channel as its target says while the channel is as it was. -/
theorem foldl_eq_changedInTurn {step : State → ChanNo → State} {l : List ChanNo} (hl : l.Nodup)
    (hstep : ∀ (v : State) (c : ChanNo), c ∈ l → v.chan c = s.chan c → step v c = v.changeChan c (target c) q) :
    l.foldl step s = s.changedInTurn target q l := by
  induction l using List.reverseRecOn with
  | nil => rfl
  | append_singleton l c ih =>
    obtain ⟨hl', -, hapart⟩ := List.nodup_append.1 hl
    have hl'' := ih hl' fun v d hd => hstep v d (List.mem_append_left _ hd)
    have hsame : (s.changedInTurn target q l).chan c = s.chan c := by
      rw [(changedInTurn_inTurn hl').chan, if_neg fun hc => hapart c hc c List.mem_cons_self rfl]
    rw [List.foldl_concat, hl'', hstep _ _ (List.mem_append_right _ List.mem_cons_self) hsame, changedInTurn, changedInTurn,
      List.foldl_concat]

/-- A run of notices about the channels of a list. -/
def noticesOf (kind : ChanNo → NoticeKind) (q : Reason) (s : State) (l : List ChanNo) (u : State) : State :=
  l.foldl (fun u c => u.notice (kind c) (s.chan c).seat (some c) (some q)) u

theorem noticesOf_frame (kind : ChanNo → NoticeKind) (q : Reason) (s : State) (l : List ChanNo) (u : State) :
    (noticesOf kind q s l u).ports = u.ports ∧ (noticesOf kind q s l u).branches = u.branches := by
  induction l generalizing u with
  | nil => exact ⟨rfl, rfl⟩
  | cons c l ih =>
    obtain ⟨hports, hbranches⟩ := ih (u.notice (kind c) (s.chan c).seat (some c) (some q))
    exact ⟨hports.trans (notice_ports ..), hbranches.trans (notice_branches ..)⟩

theorem TellsAlike.noticesOf {u v : State} (h : TellsAlike u v) (kind : ChanNo → NoticeKind) (q : Reason) (s : State)
    (l : List ChanNo) : TellsAlike (State.noticesOf kind q s l u) (State.noticesOf kind q s l v) := by
  induction l generalizing u v with
  | nil => exact h
  | cons c l ih => exact ih (h.notice ..)

theorem noticesOf_congr {kind kind' : ChanNo → NoticeKind} {s s' : State} {l : List ChanNo}
    (h : ∀ c ∈ l, kind c = kind' c ∧ s.chan c = s'.chan c) (u : State) : noticesOf kind q s l u = noticesOf kind' q s' l u := by
  refine List.foldl_ext _ _ _ fun u c hc => ?_
  obtain ⟨hkind, hchan⟩ := h c hc
  rw [hkind, hchan]

/-- What changes in turn tell, from the channels' states before and after: the notices in order, then the marks of the
seats (R96); as from any state `s₀` that tells alike. -/
theorem InTurn.told {s₀ : State} {l : List ChanNo} (h : InTurn target q s l t) (hbase : TellsAlike s₀ s)
    (hchan : ∀ c, s₀.chan c = s.chan c) {kind : ChanNo → NoticeKind}
    (hkind : ∀ c ∈ l, (t.chan c).state ≠ (s₀.chan c).state →
      kind c = if (t.chan c).state = .held then .held else .released) :
    let changed := l.filter fun c => (t.chan c).state != (s₀.chan c).state
    let told := noticesOf kind q s₀ changed s₀
    t.uplink = told.uplink ∧ t.mgmt = told.mgmt
      ∧ t.ports = (s₀.markAll (changed.filterMap fun c => (s₀.chan c).seat)).ports := by
  intro changed told
  have htarget (c : ChanNo) (hc : c ∈ l) : t.chan c = target c := by rw [h.chan, if_pos hc]
  have hchanged : (l.filter fun c => (target c).state != (s.chan c).state) = changed :=
    List.filter_congr fun c hc => by rw [htarget c hc, hchan]
  have hseats : seatsChanged target s l = changed.filterMap fun c => (s₀.chan c).seat := by
    rw [seatsChanged, hchanged]
    exact List.filterMap_congr fun c _ => by rw [hchan]
  have htold : toldInTurn target q s l = noticesOf kind q s₀ changed s := by
    change noticesOf _ q s _ s = _
    rw [hchanged]
    refine noticesOf_congr (fun c hc => ⟨?_, (hchan c).symm⟩) s
    obtain ⟨hcl, hne⟩ := List.mem_filter.1 hc
    rw [hkind c hcl (by simpa using hne), htarget c hcl]
  have hnotices : TellsAlike told (noticesOf kind q s₀ changed s) := hbase.noticesOf ..
  have halike := h.alike
  rw [htold, hseats] at halike
  obtain ⟨hports, hbranches⟩ := noticesOf_frame kind q s₀ changed s
  refine ⟨?_, ?_, ?_⟩
  · exact halike.uplink.trans ((markAll_uplink ..).trans hnotices.uplink)
  · exact halike.mgmt.trans ((markAll_mgmt ..).trans hnotices.mgmt)
  · exact halike.ports.trans (markAll_ports_congr _ (hbranches.trans hbase.branches) (hports.trans hbase.ports))

/-! ### What changes of hold causes leave -/

theorem HoldFrame.eq_with (h : HoldFrame s t) : t = (((((s.withHolders t.holders).withChannels t.channels).withPorts
    t.ports).withUplink t.uplink).withMgmt t.mgmt) := by
  obtain ⟨⟨hnow, -, hrefusal, hclasses, hbranches, -, -, -, hprofile, hstartUp, hfree, hpending⟩, hfloorCfg, hfloor, -,
    hlist, hseats, horder⟩ := h
  cases s
  cases t
  cases hfloorCfg
  cases hfloor
  cases hlist
  cases hseats
  cases horder
  cases hnow
  cases hrefusal
  cases hclasses
  cases hbranches
  cases hprofile
  cases hstartUp
  cases hfree
  cases hpending
  rfl

end State
end Sys2Proof.Machine
end

section
/-! PROOF. SUSPEND and RESUME over the channels in grant order. -/

namespace Sys2Proof.Machine

namespace State

variable {s t u : State}

theorem TellsAlike.refl (s : State) : TellsAlike s s := ⟨rfl, rfl, rfl, rfl, rfl, rfl, rfl⟩

/-! ### The records SUSPEND and RESUME give -/

/-- A busy channel's record under SUSPEND: that of a chair channel stays (R95). -/
def suspendedRecord (k : Channel) : Channel :=
  if k.kind = some .chair then k else { k with state := .held, suspend := true }

/-- A busy channel's record after RESUME (R95, R96). -/
def resumedRecord (k : Channel) : Channel := { k with state := if k.priority then .held else .opened, suspend := false }

/-- SUSPEND's run along the grant order (R114). -/
def suspendAll (s : State) : State :=
  s.grantOrder.foldl (fun s c => if (s.chan c).kind = some .chair then s else s.addCause c .suspend) s

/-- RESUME's run along the grant order (R115). -/
def resumeAll (s : State) : State := s.grantOrder.foldl (fun s c => s.removeCause c .suspend) s

variable (hchannels : s.ChannelsOk) (horder : s.GrantOrderOk)
include hchannels horder

theorem suspendAll_inTurn :
    InTurn (fun c => suspendedRecord (s.chan c)) .suspend s s.grantOrder s.suspendAll := by
  have heq : s.suspendAll = s.changedInTurn (fun c => suspendedRecord (s.chan c)) .suspend s.grantOrder := by
    refine foldl_eq_changedInTurn horder.1 fun v c hc hsame => ?_
    have hheld := hchannels.heldByCause ((horder.2 c).1 hc)
    rw [hsame, suspendedRecord]
    split
    · rw [← hsame, changeChan_self]
    · rw [addCause_eq .suspend (by rw [hsame]; exact hheld), hsame]
      rfl
  rw [heq]
  exact changedInTurn_inTurn horder.1

theorem resumeAll_inTurn :
    InTurn (fun c => resumedRecord (s.chan c)) .suspend s s.grantOrder s.resumeAll := by
  have heq : s.resumeAll = s.changedInTurn (fun c => resumedRecord (s.chan c)) .suspend s.grantOrder := by
    refine foldl_eq_changedInTurn horder.1 fun v c hc hsame => ?_
    have hheld := hchannels.heldByCause ((horder.2 c).1 hc)
    rw [removeCause_eq .suspend (by rw [hsame]; exact hheld), hsame, resumedRecord]
    have hcause : (causeSet (s.chan c) .suspend false).hasCause = (s.chan c).priority := Bool.or_false _
    rw [hcause]
    rfl
  rw [heq]
  exact changedInTurn_inTurn horder.1

omit hchannels horder

theorem suspendAll_frame (s : State) : HoldFrame s s.suspendAll ∧ s.suspendAll.holders = s.holders := by
  unfold suspendAll
  refine ⟨HoldFrame.foldl _ (fun t c => ?_) _ _, (GrantFrame.foldl _ (fun t c => ?_) _ _).holders⟩
  · split
    · exact .refl t
    · exact addCause_holdFrame ..
  · split
    · exact .refl t
    · exact addCause_grantFrame ..

theorem resumeAll_frame (s : State) : HoldFrame s s.resumeAll ∧ s.resumeAll.holders = s.holders :=
  ⟨HoldFrame.foldl _ (fun t c => removeCause_holdFrame t c _) _ _,
    (GrantFrame.foldl _ (fun t c => removeCause_grantFrame t c _) _ _).holders⟩

/-- What a run of hold causes under a new floor state leaves unchanged. -/
theorem HoldFrame.eq_withFloor {f : FloorState} (h : HoldFrame (s.withFloor f) t) (hholders : t.holders = s.holders) :
    t = ((((s.withFloor t.floor).withChannels t.channels).withPorts t.ports).withUplink t.uplink).withMgmt t.mgmt := by
  have heq := h.eq_with
  rw [hholders] at heq
  rw [h.floor]
  exact heq

end State

/-- Settles O55: each channel takes its record in grant order, with the notices and marks of the changed ones. -/
theorem suspendHoldsAndResumeReleases : Obligations.SuspendHoldsAndResumeReleases := by
  unfold Obligations.SuspendHoldsAndResumeReleases
  intro m s hready hchannels horder
  have hbusy (c : ChanNo) : c ∈ s.grantOrder ↔ (s.chan c).state ≠ .free := by rw [horder.2, Channel.busy_iff]
  refine ⟨fun htakes => ⟨fun hfloor => ?_, fun hfloor => ?_⟩, fun htakes => ⟨fun hfloor => ?_, fun hfloor => ?_⟩⟩
  · exact operate_floor_only htakes hready (if_pos hfloor)
  · have hturn := State.suspendAll_inTurn (s := s.withFloor .suspended) hchannels horder
    obtain ⟨hframe, hholders⟩ := (s.withFloor .suspended).suspendAll_frame
    have hbody : suspendFloor s = ((s.withFloor .suspended).suspendAll, only .done) := if_neg (not_not.2 hfloor)
    have hexec : exec (.suspend m) s = _ :=
      operate_floor htakes hready hbody ((s.withFloor_floorFrame _).trans hframe.frame)
    generalize (s.withFloor .suspended).suspendAll = t at *
    have hchan (c : ChanNo) : t.chan c = if c ∈ s.grantOrder then State.suspendedRecord (s.chan c) else s.chan c :=
      hturn.chan c
    have htold := hturn.told (s₀ := s.withFloor .suspended) (.refl _) (fun _ => rfl) (kind := fun _ => .held)
      fun c hc hne => by
        rw [State.withFloor_chan] at hne
        rw [State.withFloor_grantOrder] at hc
        rw [hchan, if_pos hc, State.suspendedRecord] at hne ⊢
        split
        · next hkind => rw [if_pos hkind] at hne; exact absurd rfl hne
        · rfl
    obtain ⟨huplink, hmgmt, hports⟩ := htold
    refine ⟨t, hexec, fun c => ?_, hframe.floor, ⟨huplink, hmgmt, hports.trans (State.markAll_ports_congr _ rfl rfl)⟩,
      hframe.eq_withFloor hholders⟩
    rw [hchan, State.suspendedRecord]
    simp only [hbusy]
    by_cases hfree : (s.chan c).state = .free <;> by_cases hkind : (s.chan c).kind = some .chair <;> simp [hfree, hkind]
  · exact operate_floor_only htakes hready (if_pos hfloor)
  · have hturn := State.resumeAll_inTurn (s := s.withFloor .opened) hchannels horder
    obtain ⟨hframe, hholders⟩ := (s.withFloor .opened).resumeAll_frame
    have hbody : resumeFloor s = ((s.withFloor .opened).resumeAll.fillRule, only .done) := if_neg (not_not.2 hfloor)
    have hexec : exec (.resume m) s = _ := operate_floor htakes hready hbody
      (((s.withFloor_floorFrame _).trans hframe.frame).trans (State.fillRule_grantFrame _).frame)
    generalize (s.withFloor .opened).resumeAll = t at *
    have hchan (c : ChanNo) : t.chan c = if c ∈ s.grantOrder then State.resumedRecord (s.chan c) else s.chan c :=
      hturn.chan c
    have htold := hturn.told (s₀ := s.withFloor .opened) (.refl _) (fun _ => rfl) (kind := fun _ => .released)
      fun c hc hne => by
        have hstate := (hchannels.heldByCause ((horder.2 c).1 hc)).state_eq
        rw [State.withFloor_chan] at hne
        rw [State.withFloor_grantOrder] at hc
        rw [hchan, if_pos hc, State.resumedRecord] at hne ⊢
        cases hpriority : (s.chan c).priority with
        | false => rfl
        | true =>
          rw [Channel.hasCause, hpriority, Bool.true_or, if_pos rfl] at hstate
          rw [hpriority, hstate] at hne
          exact absurd rfl hne
    obtain ⟨huplink, hmgmt, hports⟩ := htold
    refine ⟨t, hexec, fun c => ?_, hframe.floor, ⟨huplink, hmgmt, hports.trans (State.markAll_ports_congr _ rfl rfl)⟩,
      hframe.eq_withFloor hholders⟩
    rw [hchan, State.resumedRecord]
    simp only [hbusy]
    by_cases hfree : (s.chan c).state = .free <;> simp [hfree]

end Sys2Proof.Machine
end

section
/-! PROOF. The priority holder set: PRIORITY on the busy channels after a join and after a leave. -/

namespace Sys2Proof.Machine

namespace State

variable {s t : State} {n : SeatNo}

/-! ### PRIORITY as the holder set asks for it -/

/-- A channel carries PRIORITY under a holder set: the set is not empty and the channel's seat is not in it (R94). -/
def followed (h : List SeatNo) (k : Channel) : Bool := decide (h ≠ []) && !(h.any fun m => k.seat == some m)

/-- A busy channel's record under a holder set (R94, R96). -/
def followRecord (h : List SeatNo) (k : Channel) : Channel :=
  { k with priority := followed h k, state := if followed h k || k.suspend then .held else .opened }

theorem followed_iff {h : List SeatNo} {k : Channel} :
    followed h k = true ↔ h ≠ [] ∧ ∀ m, k.seat = some m → m ∉ h := by
  rw [followed, Bool.and_eq_true, decide_eq_true_iff, Bool.not_eq_true', ← Bool.not_eq_true, List.any_eq_true]
  refine and_congr_right fun _ => ⟨fun hnone m hm hin => hnone ⟨m, hin, by simp [hm]⟩, fun hall ⟨m, hin, hm⟩ =>
    hall m (by simpa using hm) hin⟩

/-- What the rules of the holder set rest on: PRIORITY follows the set, but for the channels of the seats in `j`, which
may be without it (R94). -/
structure Attuned (j : SeatNo → Prop) (s : State) : Prop where
  seats : s.SeatsOk
  channels : s.ChannelsOk
  order : s.GrantOrderOk
  sorted : s.holders.Pairwise (· < ·)
  sound : ∀ c : ChanNo, (s.chan c).busy = true → (s.chan c).priority = true →
    s.holders ≠ [] ∧ ∀ n, (s.chan c).seat = some n → n ∉ s.holders
  complete : ∀ c : ChanNo, (s.chan c).busy = true → (∀ n, (s.chan c).seat = some n → ¬j n) →
    (s.holders ≠ [] ∧ ∀ n, (s.chan c).seat = some n → n ∉ s.holders) → (s.chan c).priority = true

theorem FloorOk.attuned (h : s.FloorOk) : s.Attuned fun _ => False := by
  obtain ⟨-, -, hseats, hchannels, horder, -, ⟨hsorted, -⟩, hcauses, -⟩ := h
  exact ⟨hseats, hchannels, horder, hsorted, fun c hc => (hcauses c hc).1.1, fun c hc _ => (hcauses c hc).1.2⟩

variable {j : SeatNo → Prop}

theorem Attuned.followRecord_eq (h : s.Attuned j) {c : ChanNo} (hc : (s.chan c).busy = true)
    (hj : s.holders = [] ∨ ∀ m, (s.chan c).seat = some m → ¬j m) : followRecord s.holders (s.chan c) = s.chan c := by
  have hstate := (h.channels.heldByCause hc).state_eq
  have hpriority : followed s.holders (s.chan c) = (s.chan c).priority := by
    rw [Bool.eq_iff_iff, followed_iff]
    exact ⟨fun hp => h.complete c hc (hj.resolve_left hp.1) hp, h.sound c hc⟩
  rw [followRecord, hpriority]
  rw [Channel.hasCause] at hstate
  rw [← hstate]

theorem followRecord_congr {h h' : List SeatNo} {k : Channel} (hempty : h = [] ↔ h' = [])
    (hmem : ∀ m, k.seat = some m → (m ∈ h ↔ m ∈ h')) : followRecord h k = followRecord h' k := by
  have hsame : followed h k = followed h' k := by
    rw [Bool.eq_iff_iff, followed_iff, followed_iff, ne_eq, ne_eq, hempty]
    exact and_congr_right fun _ => forall_congr' fun m => imp_congr_right fun hm => not_congr (hmem m hm)
  rw [followRecord, followRecord, hsame]

theorem followed_of_mem {h : List SeatNo} {k : Channel} (hseat : k.seat = some n) (hn : n ∈ h) : followed h k = false := by
  rw [← Bool.not_eq_true, followed_iff]
  exact fun hp => hp.2 n hseat hn

theorem followed_nil (k : Channel) : followed [] k = false := rfl

theorem followRecord_of_followed {h h' : List SeatNo} {k : Channel} (hp : followed h k = followed h' k) :
    followRecord h k = followRecord h' k := by rw [followRecord, followRecord, hp]

theorem followRecord_of_true {h : List SeatNo} {k : Channel} (hp : followed h k = true) :
    followRecord h k = { causeSet k .priority true with state := .held } := by
  rw [followRecord, hp]
  rfl

theorem followRecord_of_false {h : List SeatNo} {k : Channel} (hp : followed h k = false) : followRecord h k =
    { causeSet k .priority false with
      state := if (causeSet k .priority false).hasCause then .held else .opened } := by
  rw [followRecord, hp]
  rfl

/-- A busy channel names a seat, and that seat holds it (R82). -/
theorem SeatsOk.chan_of_seat (h : s.SeatsOk) {c d : ChanNo} (hc : (s.seat n).run.chan = some c)
    (hd : (s.chan d).busy = true) (hseat : (s.chan d).seat = some n) : d = c := by
  obtain ⟨-, hchan, -⟩ := h n
  exact Option.some.inj (((hchan d).2 ⟨hd, hseat⟩).symm.trans hc)

theorem SeatsOk.chan_named (h : s.SeatsOk) {c : ChanNo} (hc : (s.seat n).run.chan = some c) :
    (s.chan c).busy = true ∧ (s.chan c).seat = some n := by
  obtain ⟨-, hchan, -⟩ := h n
  exact (hchan c).1 hc

theorem mem_joinHolders (n m : SeatNo) : m ∈ (s.joinHolders n).holders ↔ m = n ∨ m ∈ s.holders := by
  rw [joinHolders_holders]
  split
  · next h =>
    rw [List.contains_iff_mem] at h
    exact ⟨.inr, fun hm => hm.elim (fun hmn => hmn ▸ h) id⟩
  · rw [mem_insertAsc]
    tauto

theorem mem_leaveHolders (hsorted : s.holders.Pairwise (· < ·)) (n m : SeatNo) :
    m ∈ (s.leaveHolders n).holders ↔ m ≠ n ∧ m ∈ s.holders := by
  have hnodup : s.holders.Nodup := hsorted.imp fun hlt => ne_of_lt hlt
  rw [leaveHolders_holders]
  split
  · exact hnodup.mem_erase_iff
  · next hout =>
    rw [List.contains_iff_mem] at hout
    exact ⟨fun hm => ⟨fun hmn => hout (hmn ▸ hm), hm⟩, fun hm => hm.2⟩

/-- The channels' records after a change of the holder set, taken in turn. -/
def Follows (s t : State) : Prop :=
  InTurn (fun c => followRecord t.holders (s.chan c)) .priority (s.withHolders t.holders) s.grantOrder t

theorem Attuned.follows_self (h : s.Attuned j) (hj : ∀ m, ¬j m) : Follows s s := by
  have hself : s.changedInTurn (fun c => followRecord s.holders (s.chan c)) .priority s.grantOrder = s :=
    changedInTurn_eq_self fun c hc => h.followRecord_eq ((h.order.2 c).1 hc) (.inr fun m _ => hj m)
  have hturn := changedInTurn_inTurn (s := s) (target := fun c => followRecord s.holders (s.chan c)) (q := .priority)
    h.order.1
  rw [hself] at hturn
  exact hturn

/-- Only the channel of the seat that joins or leaves takes another record, while others stay in the set (R94). -/
theorem Attuned.follows_single (h : s.Attuned j) (hj : ∀ m, j m → m = n) {hs : List SeatNo} (hempty : s.holders = [] ↔ hs = [])
    (hothers : ∀ m, m ≠ n → (m ∈ hs ↔ m ∈ s.holders)) (ht : t = match (s.seat n).run.chan with
      | some c => (s.withHolders hs).changeChan c (followRecord hs (s.chan c)) .priority
      | none => s.withHolders hs) :
    InTurn (fun c => followRecord hs (s.chan c)) .priority (s.withHolders hs) s.grantOrder t := by
  have hbusy (c : ChanNo) (hc : c ∈ s.grantOrder) := (h.order.2 c).1 hc
  have hsame {c : ChanNo} (hc : c ∈ s.grantOrder) (hne : (s.chan c).seat ≠ some n) :
      followRecord hs (s.chan c) = (s.withHolders hs).chan c := by
    rw [followRecord_congr hempty.symm fun m hm => hothers m fun hmn => hne (hmn ▸ hm)]
    exact h.followRecord_eq (hbusy c hc) (.inr fun m hm hjm => hne (hj m hjm ▸ hm))
  have heq : t = (s.withHolders hs).changedInTurn (fun c => followRecord hs (s.chan c)) .priority s.grantOrder := by
    rw [ht]
    cases hchan : (s.seat n).run.chan with
    | none =>
      refine (changedInTurn_eq_self fun c hc => hsame hc fun hseat => ?_).symm
      obtain ⟨-, hiff, -⟩ := h.seats n
      rw [(hiff c).2 ⟨hbusy c hc, hseat⟩] at hchan
      cases hchan
    | some c =>
      have hcbusy := (h.seats.chan_named hchan).1
      refine (changedInTurn_of_single h.order.1 ((h.order.2 c).2 hcbusy) fun d hd hne => hsame hd fun hseat => ?_).symm
      exact hne (h.seats.chan_of_seat hchan (hbusy d hd) hseat)
  rw [heq]
  exact changedInTurn_inTurn h.order.1

/-- A seat joins the holder set; its own channel may be without PRIORITY as it does (R94, R109). -/
theorem Attuned.joinHolders_follows (h : s.Attuned j) (n : SeatNo) (hj : ∀ m, j m → m = n ∧ n ∉ s.holders) :
    Follows s (s.joinHolders n) := by
  have hheld {c : ChanNo} (hc : c ∈ s.grantOrder) := h.channels.heldByCause ((h.order.2 c).1 hc)
  by_cases hin : s.holders.contains n = true
  · have hself : s.joinHolders n = s := if_pos hin
    rw [hself]
    exact h.follows_self fun m hm => (hj m hm).2 (List.contains_iff_mem.1 hin)
  have hholders : (s.joinHolders n).holders = insertAsc n s.holders := by rw [joinHolders_holders, if_neg hin]
  have hmem := (mem_insertAsc n n s.holders).2 (.inl rfl)
  have hne : insertAsc n s.holders ≠ [] := List.ne_nil_of_mem hmem
  rw [Follows, hholders]
  have heq : s.joinHolders n = if s.holders.isEmpty then
      s.grantOrder.foldl (fun s c => if (s.chan c).seat = some n then s else s.addCause c .priority)
        (s.withHolders (insertAsc n s.holders))
      else match (s.seat n).run.chan with
        | some c => (s.withHolders (insertAsc n s.holders)).removeCause c .priority
        | none => s.withHolders (insertAsc n s.holders) := if_neg hin
  cases hempty : s.holders.isEmpty with
  | true =>
    rw [hempty, if_pos rfl] at heq
    rw [List.isEmpty_iff] at hempty
    have hfold := foldl_eq_changedInTurn (s := s.withHolders (insertAsc n s.holders))
      (step := fun s c => if (s.chan c).seat = some n then s else s.addCause c .priority)
      (target := fun c => followRecord (insertAsc n s.holders) (s.chan c)) (q := .priority) h.order.1
      fun v c hc hsame => by
        rw [withHolders_chan] at hsame
        by_cases hseat : (v.chan c).seat = some n
        · rw [if_pos hseat]
          rw [hsame] at hseat
          have hnot : followed (insertAsc n s.holders) (s.chan c) = followed s.holders (s.chan c) := by
            rw [followed_of_mem hseat hmem, hempty, followed_nil]
          rw [followRecord_of_followed hnot, h.followRecord_eq ((h.order.2 c).1 hc) (.inl hempty), ← hsame, changeChan_self]
        · rw [if_neg hseat]
          rw [hsame] at hseat
          have hp : followed (insertAsc n s.holders) (s.chan c) = true := by
            refine followed_iff.2 ⟨hne, fun m hm hin => ?_⟩
            rw [mem_insertAsc, hempty] at hin
            obtain rfl | ⟨hin, -⟩ := hin
            · exact hseat hm
            · cases hin
          rw [addCause_eq .priority (by rw [hsame]; exact hheld hc), hsame, followRecord_of_true hp]
          rfl
    rw [heq, hfold]
    exact changedInTurn_inTurn h.order.1
  | false =>
    rw [hempty, if_neg Bool.false_ne_true] at heq
    refine h.follows_single (n := n) (fun m hm => (hj m hm).1) (iff_of_false (by simpa using hempty) hne) (fun m hm => ?_) ?_
    · rw [mem_insertAsc]
      tauto
    · rw [heq]
      cases hchan : (s.seat n).run.chan with
      | none => rfl
      | some c =>
        obtain ⟨hbusy, hseat⟩ := h.seats.chan_named hchan
        dsimp only
        rw [removeCause_eq (s := s.withHolders (insertAsc n s.holders)) .priority (h.channels.heldByCause hbusy), withHolders_chan,
          followRecord_of_false (followed_of_mem hseat hmem)]
        rfl

theorem Attuned.leaveHolders_follows (h : s.Attuned j) (n : SeatNo) (hj : ∀ m, ¬j m) : Follows s (s.leaveHolders n) := by
  have hmem (m : SeatNo) := mem_leaveHolders h.sorted n m
  have hheld {c : ChanNo} (hc : c ∈ s.grantOrder) := h.channels.heldByCause ((h.order.2 c).1 hc)
  by_cases hin : s.holders.contains n = true
  swap
  · have hself : s.leaveHolders n = s := if_neg hin
    rw [hself]
    exact h.follows_self hj
  have hholders : (s.leaveHolders n).holders = s.holders.erase n := by rw [leaveHolders_holders, if_pos hin]
  have hne : s.holders ≠ [] := List.ne_nil_of_mem (List.contains_iff_mem.1 hin)
  rw [Follows, hholders]
  rw [hholders] at hmem
  have heq : s.leaveHolders n = if (s.holders.erase n).isEmpty then
      s.grantOrder.foldl (fun s c => s.removeCause c .priority) (s.withHolders (s.holders.erase n))
      else match (s.seat n).run.chan with
        | some c => (s.withHolders (s.holders.erase n)).addCause c .priority
        | none => s.withHolders (s.holders.erase n) := if_pos hin
  cases hempty : (s.holders.erase n).isEmpty with
  | true =>
    rw [hempty, if_pos rfl] at heq
    rw [List.isEmpty_iff] at hempty
    have hfold := foldl_eq_changedInTurn (s := s.withHolders (s.holders.erase n))
      (step := fun s c => s.removeCause c .priority)
      (target := fun c => followRecord (s.holders.erase n) (s.chan c)) (q := .priority) h.order.1
      fun v c hc hsame => by
        rw [withHolders_chan] at hsame
        rw [removeCause_eq .priority (by rw [hsame]; exact hheld hc), hsame,
          followRecord_of_false (by rw [hempty, followed_nil])]
        rfl
    rw [heq, hfold]
    exact changedInTurn_inTurn h.order.1
  | false =>
    rw [hempty, if_neg Bool.false_ne_true] at heq
    refine h.follows_single (n := n) (fun m hm => absurd hm (hj m)) (iff_of_false hne (by simpa using hempty)) (fun m hm => ?_) ?_
    · rw [hmem]
      exact and_iff_right hm
    · rw [heq]
      cases hchan : (s.seat n).run.chan with
      | none => rfl
      | some c =>
        obtain ⟨hbusy, hseat⟩ := h.seats.chan_named hchan
        have hp : followed (s.holders.erase n) (s.chan c) = true := by
          refine followed_iff.2 ⟨by simpa using hempty, fun m hm hin => ?_⟩
          exact ((hmem m).1 hin).1 (Option.some.inj (hm.symm.trans hseat))
        dsimp only
        rw [addCause_eq (s := s.withHolders (s.holders.erase n)) .priority (h.channels.heldByCause hbusy), withHolders_chan,
          followRecord_of_true hp]
        rfl

end State

/-- Settles O20: the records the holder set asks for, taken in grant order with their notices and marks. -/
theorem priorityFollowsTheHolderSet : Obligations.PriorityFollowsTheHolderSet := by
  unfold Obligations.PriorityFollowsTheHolderSet
  intro s n hok
  refine ⟨State.mem_joinHolders n, State.mem_leaveHolders hok.attuned.sorted n, fun t ht => ?_⟩
  have hframe : State.HoldFrame s t ∧ State.Follows s t := by
    obtain rfl | rfl := ht
    · exact ⟨s.joinHolders_holdFrame n, hok.attuned.joinHolders_follows n fun _ hm => hm.elim⟩
    · exact ⟨s.leaveHolders_holdFrame n, hok.attuned.leaveHolders_follows n fun _ hm => hm⟩
  obtain ⟨hframe, hturn⟩ := hframe
  obtain ⟨-, -, -, -, ⟨-, horder⟩, -⟩ := hok
  have hchan (c : ChanNo) : t.chan c = if c ∈ s.grantOrder then State.followRecord t.holders (s.chan c) else s.chan c :=
    hturn.chan c
  have htold := hturn.told (s₀ := s) ⟨rfl, rfl, rfl, rfl, rfl, rfl, rfl⟩ (fun _ => rfl)
    (kind := fun c => if (t.chan c).state = .held then .held else .released) fun _ _ _ => rfl
  refine ⟨fun c hc => ?_, fun c hc => ?_, htold, hframe.eq_with⟩
  · rw [hchan, if_pos ((horder c).2 ((Channel.busy_iff _).2 hc))]
    rfl
  · rw [hchan, if_neg fun hin => (Channel.busy_iff _).1 ((horder c).1 hin) hc]
end Sys2Proof.Machine
end

section
/-! PROOF. The floor invariant with slack: what an act may leave open until a later act of the same command closes it, and
what the acts on entries and channels keep. -/

namespace Sys2Proof.Machine

namespace State

/-! ### The invariant with slack -/

/-- The seats for which a part of the floor invariant is left open in the middle of a command. -/
structure Slack where
  /-- an entry of the seat may stand under an earlier configuration, class record or budget -/
  entry : SeatNo → Prop
  /-- the seat's class may have ceased to be CHAIR -/
  chair : SeatNo → Prop
  /-- the seat may hold a channel though it is ABSENT -/
  leaving : SeatNo → Prop
  /-- the seat may be listed and in the holder set though it is ABSENT -/
  going : SeatNo → Prop
  /-- the seat's channel may be without PRIORITY, since the seat is about to join the holder set -/
  joining : SeatNo → Prop

/-- Nothing left open. -/
def Slack.strict : Slack := ⟨fun _ => False, fun _ => False, fun _ => False, fun _ => False, fun _ => False⟩

/-- An entry's level, CLAMPED and EXHAUSTED are what its claim, its seat and its class give (R52, R74, R76). -/
def EntryFits (s : State) (e : Entry) : Prop :=
  e.effective = effectiveLevel e.claimed ((s.seat e.seat).cfg.entitled e.kind)
    ∧ e.clamped = isClamped e.claimed ((s.seat e.seat).cfg.entitled e.kind)
    ∧ e.exhausted = s.isExhausted e.seat

/-- What an ABSENT seat's record shows, the refusal display beside its timer, and RECALLING (R17, R45, R175). -/
structure RecordsOk (s : State) : Prop where
  absent : ∀ n : SeatNo, (s.seat n).run.present = false → (s.seat n).run.refusalShown = false
    ∧ (s.seat n).run.unitKind = none ∧ (s.seat n).run.mismatch = false
    ∧ (s.seat n).run.down1 = false ∧ (s.seat n).run.down2 = false ∧ (s.seat n).run.down3 = false
  shown : ∀ n : SeatNo, (s.seat n).run.refusalShown = (s.refusalOf n).isSome
  recalling : s.startUp.state = .recalling → ∀ n : SeatNo, (s.seat n).run.present = false

/-- The floor invariant but for what the slack leaves open. -/
structure Coherent (k : Slack) (s : State) : Prop where
  list : s.ListOk
  entries : ∀ e ∈ s.list.entries, ¬k.entry e.seat → s.EntryFits e
  seats : s.SeatsOk
  channels : s.ChannelsOk
  order : s.GrantOrderOk
  records : s.RecordsOk
  absentChan : ∀ n : SeatNo, (s.seat n).run.present = false → ¬k.leaving n → (s.seat n).run.chan = none
  absentList : ∀ n : SeatNo, (s.seat n).run.present = false → ¬k.going n →
    n ∉ s.list.entries.map Entry.seat ∧ n ∉ s.holders
  sorted : s.holders.Pairwise (· < ·)
  chairs : ∀ n ∈ s.holders, ¬k.chair n → (s.seat n).cfg.cls = .chair
  priority : ∀ c : ChanNo, (s.chan c).busy = true →
    ((s.chan c).priority = true → s.holders ≠ [] ∧ ∀ n, (s.chan c).seat = some n → n ∉ s.holders)
    ∧ ((∀ n, (s.chan c).seat = some n → ¬k.joining n) →
      (s.holders ≠ [] ∧ ∀ n, (s.chan c).seat = some n → n ∉ s.holders) → (s.chan c).priority = true)
  suspend : ∀ c : ChanNo, (s.chan c).busy = true →
    ((s.chan c).suspend = true ↔ s.floor = .suspended ∧ (s.chan c).kind ≠ some .chair)
  closedList : s.floor = .closed → s.list.entries = []
  closedChan : s.floor = .closed → ∀ c : ChanNo, (s.chan c).busy = true →
    (s.chan c).kind = some .chair ∧ ∀ n, (s.chan c).seat = some n → ¬k.chair n → (s.seat n).cfg.cls = .chair
  still : s.startUp.state ≠ .ready → s.floor = .closed ∧ s.holders = [] ∧ ∀ c : ChanNo, (s.chan c).busy = false

variable {k : Slack} {s t u : State}

theorem SeatsOk.idle_iff (h : s.SeatsOk) (n : SeatNo) : (s.seat n).run.floor = .idle ↔
    n ∉ s.list.entries.map Entry.seat ∧ (s.seat n).run.chan = none := by
  obtain ⟨hwaiting, -, hspeaking⟩ := h n
  rw [← hwaiting, ← Option.not_isSome_iff_eq_none, ← hspeaking]
  cases (s.seat n).run.floor <;> decide

theorem FloorOk.coherent (h : s.FloorOk) : s.Coherent .strict := by
  obtain ⟨hlist, hentries, hseats, hchannels, horder, hpresence, ⟨hsorted, hholders⟩, hcauses, hclosed, hstart⟩ := h
  have hidle (n : SeatNo) (hn : (s.seat n).run.present = false) := (hseats.idle_iff n).1 ((hpresence n).1 hn).1
  exact {
    list := hlist
    entries := fun e he _ => hentries e he
    seats := hseats
    channels := hchannels
    order := horder
    records := ⟨fun n hn => ((hpresence n).1 hn).2.2, fun n => (hpresence n).2, hstart.2⟩
    absentChan := fun n hn _ => (hidle n hn).2
    absentList := fun n hn _ => ⟨(hidle n hn).1, ((hpresence n).1 hn).2.1⟩
    sorted := hsorted
    chairs := fun n hn _ => (hholders n hn).2
    priority := fun c hc => ⟨(hcauses c hc).1.1, fun _ => (hcauses c hc).1.2⟩
    suspend := fun c hc => (hcauses c hc).2
    closedList := fun hfloor => (hclosed hfloor).1
    closedChan := fun hfloor c hc =>
      ⟨((hclosed hfloor).2 c hc).1, fun n hn _ => ((hclosed hfloor).2 c hc).2 n hn⟩
    still := fun hstate => ⟨(hstart.1 hstate).1, (hstart.1 hstate).2.2⟩ }

theorem Coherent.floorOk (h : s.Coherent .strict) : s.FloorOk := by
  refine ⟨h.list, fun e he => h.entries e he id, h.seats, h.channels, h.order, fun n => ⟨fun hn => ?_, h.records.shown n⟩,
    ⟨h.sorted, fun n hn => ⟨?_, h.chairs n hn id⟩⟩, fun c hc =>
      ⟨⟨(h.priority c hc).1, (h.priority c hc).2 fun _ _ => id⟩, h.suspend c hc⟩,
    fun hfloor => ⟨h.closedList hfloor, fun c hc => ?_⟩, ⟨fun hstate => ?_, h.records.recalling⟩⟩
  · obtain ⟨hlisted, hholder⟩ := h.absentList n hn id
    exact ⟨(h.seats.idle_iff n).2 ⟨hlisted, h.absentChan n hn id⟩, hholder, h.records.absent n hn⟩
  · exact Bool.eq_true_of_not_eq_false fun habsent => (h.absentList n habsent id).2 hn
  · obtain ⟨hkind, hseat⟩ := h.closedChan hfloor c hc
    exact ⟨hkind, fun n hn => hseat n hn id⟩
  · obtain ⟨hfloor, hholders, hidle⟩ := h.still hstate
    exact ⟨hfloor, h.closedList hfloor, hholders, hidle⟩

/-- More may be left open. -/
theorem Coherent.weaken {k' : Slack} (h : s.Coherent k) (hentry : ∀ n, k.entry n → k'.entry n)
    (hchair : ∀ n, k.chair n → k'.chair n) (hleaving : ∀ n, k.leaving n → k'.leaving n)
    (hgoing : ∀ n, k.going n → k'.going n) (hjoining : ∀ n, k.joining n → k'.joining n) : s.Coherent k' :=
  { h with
    entries := fun e he hn => h.entries e he (mt (hentry _) hn)
    absentChan := fun n hn hk => h.absentChan n hn (mt (hleaving n) hk)
    absentList := fun n hn hk => h.absentList n hn (mt (hgoing n) hk)
    chairs := fun n hn hk => h.chairs n hn (mt (hchair n) hk)
    priority := fun c hc => ⟨(h.priority c hc).1, fun hk => (h.priority c hc).2 fun n hn => mt (hjoining n) (hk n hn)⟩
    closedChan := fun hfloor c hc =>
      ⟨(h.closedChan hfloor c hc).1, fun n hn hk => (h.closedChan hfloor c hc).2 n hn (mt (hchair n) hk)⟩ }

theorem EntryFits.congr {e : Entry} (h : s.EntryFits e) (hcfg : (t.seat e.seat).cfg = (s.seat e.seat).cfg)
    (hbudget : (t.seat e.seat).run.budget = (s.seat e.seat).run.budget) (hclasses : t.classes = s.classes) :
    t.EntryFits e := by
  have hexhausted : t.isExhausted e.seat = s.isExhausted e.seat := by
    rw [isExhausted, isExhausted, applies, applies, hcfg, hbudget, hclasses]
  rw [EntryFits, hcfg, hexhausted]
  exact h

theorem FloorFrame.records (h : FloorFrame s t) (hs : s.RecordsOk) : t.RecordsOk where
  absent n hn := by
    rw [h.seat n] at hn ⊢
    exact hs.absent n hn
  shown n := by
    rw [h.seat n, refusalOf, h.refusal]
    exact hs.shown n
  recalling hstate n := by
    rw [h.startUp] at hstate
    rw [h.seat n]
    exact hs.recalling hstate n

/-! ### States that look the same to the invariant -/

/-- The fields of a channel record that the invariant reads. -/
def turnOf (k : Channel) : Channel := { k with timer := resetTimer, detector := quietDetector }

/-- The fields of a seat's runtime part that the invariant reads. -/
def standing (r : SeatRun) : SeatRun := { r with lastHeard := 0, ref1 := 0, ref2 := 0, ref3 := 0, lastCommand := 0 }

/-- Two states that the invariant cannot tell apart. -/
structure SameView (s t : State) : Prop where
  entries : t.list.entries = s.list.entries
  cfg : ∀ n : SeatNo, (t.seat n).cfg = (s.seat n).cfg
  run : ∀ n : SeatNo, standing (t.seat n).run = standing (s.seat n).run
  refusal : ∀ n : SeatNo, t.refusalOf n = s.refusalOf n
  chan : ∀ c : ChanNo, turnOf (t.chan c) = turnOf (s.chan c)
  order : t.grantOrder = s.grantOrder
  holders : t.holders = s.holders
  floor : t.floor = s.floor
  classes : t.classes = s.classes
  startUp : t.startUp.state = s.startUp.state

theorem SameView.trans (h : SameView s t) (g : SameView t u) : SameView s u :=
  ⟨g.entries.trans h.entries, fun n => (g.cfg n).trans (h.cfg n), fun n => (g.run n).trans (h.run n),
    fun n => (g.refusal n).trans (h.refusal n), fun c => (g.chan c).trans (h.chan c), g.order.trans h.order,
    g.holders.trans h.holders, g.floor.trans h.floor, g.classes.trans h.classes, g.startUp.trans h.startUp⟩

theorem SameView.refl (s : State) : SameView s s :=
  ⟨rfl, fun _ => rfl, fun _ => rfl, fun _ => rfl, fun _ => rfl, rfl, rfl, rfl, rfl, rfl⟩

theorem TellFrame.view (h : TellFrame s t) : SameView s t :=
  ⟨by rw [h.list], fun n => by rw [h.seat n], fun n => by rw [h.seat n], h.refusalOf, fun c => by rw [h.chan c],
    h.grantOrder, h.holders, h.floor, h.classes, by rw [h.startUp]⟩

theorem Coherent.view (h : s.Coherent k) (g : SameView s t) : t.Coherent k := by
  have hrun {α : Type} (f : SeatRun → α) (hf : ∀ r, f (standing r) = f r) (n : SeatNo) :
      f (t.seat n).run = f (s.seat n).run := by rw [← hf, g.run, hf]
  have hturn {α : Type} (f : Channel → α) (hf : ∀ x, f (turnOf x) = f x) (c : ChanNo) :
      f (t.chan c) = f (s.chan c) := by rw [← hf, g.chan, hf]
  have hpresent (n : SeatNo) : (t.seat n).run.present = (s.seat n).run.present := hrun SeatRun.present (fun _ => rfl) n
  have hrunFloor (n : SeatNo) : (t.seat n).run.floor = (s.seat n).run.floor := hrun SeatRun.floor (fun _ => rfl) n
  have hrunChan (n : SeatNo) : (t.seat n).run.chan = (s.seat n).run.chan := hrun SeatRun.chan (fun _ => rfl) n
  have hbudget (n : SeatNo) : (t.seat n).run.budget = (s.seat n).run.budget := hrun SeatRun.budget (fun _ => rfl) n
  have hshown (n : SeatNo) : (t.seat n).run.refusalShown = (s.seat n).run.refusalShown :=
    hrun SeatRun.refusalShown (fun _ => rfl) n
  have hunit (n : SeatNo) : (t.seat n).run.unitKind = (s.seat n).run.unitKind := hrun SeatRun.unitKind (fun _ => rfl) n
  have hmismatch (n : SeatNo) : (t.seat n).run.mismatch = (s.seat n).run.mismatch := hrun SeatRun.mismatch (fun _ => rfl) n
  have hdown1 (n : SeatNo) : (t.seat n).run.down1 = (s.seat n).run.down1 := hrun SeatRun.down1 (fun _ => rfl) n
  have hdown2 (n : SeatNo) : (t.seat n).run.down2 = (s.seat n).run.down2 := hrun SeatRun.down2 (fun _ => rfl) n
  have hdown3 (n : SeatNo) : (t.seat n).run.down3 = (s.seat n).run.down3 := hrun SeatRun.down3 (fun _ => rfl) n
  have hstate (c : ChanNo) : (t.chan c).state = (s.chan c).state := hturn Channel.state (fun _ => rfl) c
  have hbusy (c : ChanNo) : (t.chan c).busy = (s.chan c).busy := by rw [Channel.busy, Channel.busy, hstate]
  have hseat (c : ChanNo) : (t.chan c).seat = (s.chan c).seat := hturn Channel.seat (fun _ => rfl) c
  have hkind (c : ChanNo) : (t.chan c).kind = (s.chan c).kind := hturn Channel.kind (fun _ => rfl) c
  have hlevel (c : ChanNo) : (t.chan c).level = (s.chan c).level := hturn Channel.level (fun _ => rfl) c
  have hpriority (c : ChanNo) : (t.chan c).priority = (s.chan c).priority := hturn Channel.priority (fun _ => rfl) c
  have hsuspend (c : ChanNo) : (t.chan c).suspend = (s.chan c).suspend := hturn Channel.suspend (fun _ => rfl) c
  have hcause (c : ChanNo) : (t.chan c).hasCause = (s.chan c).hasCause := by
    rw [Channel.hasCause, Channel.hasCause, hpriority, hsuspend]
  exact {
    list := by rw [ListOk, g.entries]; exact h.list
    entries := fun e he hn => (h.entries e (g.entries ▸ he) hn).congr (g.cfg _) (hbudget _) g.classes
    seats := by
      intro n
      simp only [hrunFloor, hrunChan, g.entries, hbusy, hseat]
      exact h.seats n
    channels := by
      intro c
      rw [hbusy, hseat, hkind, hlevel, hcause, hstate]
      exact h.channels c
    order := by
      rw [GrantOrderOk, g.order]
      refine ⟨h.order.1, fun c => ?_⟩
      rw [hbusy]
      exact h.order.2 c
    records := by
      refine ⟨fun n hn => ?_, fun n => ?_, fun hstart n => ?_⟩
      · rw [hshown, hunit, hmismatch, hdown1, hdown2, hdown3]
        exact h.records.absent n ((hpresent n).symm.trans hn)
      · rw [hshown, g.refusal]
        exact h.records.shown n
      · rw [hpresent]
        exact h.records.recalling (g.startUp.symm.trans hstart) n
    absentChan := fun n hn hk => by
      rw [hrunChan]
      exact h.absentChan n ((hpresent n).symm.trans hn) hk
    absentList := fun n hn hk => by
      rw [g.entries, g.holders]
      exact h.absentList n ((hpresent n).symm.trans hn) hk
    sorted := by rw [g.holders]; exact h.sorted
    chairs := fun n hn hk => by
      rw [g.cfg]
      exact h.chairs n (g.holders ▸ hn) hk
    priority := fun c hc => by
      rw [hpriority, g.holders, hseat]
      exact h.priority c (hbusy c ▸ hc)
    suspend := fun c hc => by
      rw [hsuspend, g.floor, hkind]
      exact h.suspend c (hbusy c ▸ hc)
    closedList := fun hfloor => by
      rw [g.entries]
      exact h.closedList (g.floor ▸ hfloor)
    closedChan := fun hfloor c hc => by
      rw [hkind, hseat]
      obtain ⟨hc, hcls⟩ := h.closedChan (g.floor ▸ hfloor) c (hbusy c ▸ hc)
      exact ⟨hc, fun n hn hk => (congrArg SeatConfig.cls (g.cfg n)).trans (hcls n hn hk)⟩
    still := fun hstart => by
      rw [g.floor, g.holders]
      obtain ⟨hfloor, hholders, hidle⟩ := h.still fun hs => hstart (g.startUp.trans hs)
      exact ⟨hfloor, hholders, fun c => (hbusy c).trans (hidle c)⟩ }

theorem Coherent.tell (h : s.Coherent k) (g : TellFrame s t) : t.Coherent k := h.view g.view

end State
end Sys2Proof.Machine
end

section
/-! PROOF. The floor invariant over removals, closes, grants and the fill rule. -/

namespace Sys2Proof.Machine

namespace State

variable {k : Slack} {s t u : State} {n : SeatNo}

theorem Coherent.ready_of_entry (h : s.Coherent k) {e : Entry} (he : e ∈ s.list.entries) : s.startUp.state = .ready := by
  by_contra hstart
  rw [h.closedList (h.still hstart).1] at he
  cases he

theorem Coherent.ready_of_busy (h : s.Coherent k) {c : ChanNo} (hc : (s.chan c).busy = true) :
    s.startUp.state = .ready := by
  by_contra hstart
  rw [(h.still hstart).2.2 c] at hc
  cases hc

/-- A seat that waits holds no channel (R8). -/
theorem SeatsOk.chan_of_listed (h : s.SeatsOk) (hn : n ∈ s.list.entries.map Entry.seat) : (s.seat n).run.chan = none := by
  obtain ⟨hwaiting, -, hspeaking⟩ := h n
  have hfloor := hwaiting.2 hn
  rw [← Option.not_isSome_iff_eq_none, ← hspeaking, hfloor]
  decide

theorem SeatsOk.unlisted_of_chan (h : s.SeatsOk) {c : ChanNo} (hc : (s.seat n).run.chan = some c) :
    n ∉ s.list.entries.map Entry.seat := fun hn => by
  rw [h.chan_of_listed hn] at hc
  cases hc

theorem ListOk.without (h : s.ListOk) (n : SeatNo) :
    (State.without s.list.entries n).length ≤ 64 ∧ ((State.without s.list.entries n).map Entry.seat).Nodup
      ∧ (State.without s.list.entries n).Pairwise fun x y => x.effective ≤ y.effective := by
  obtain ⟨hlength, hnodup, hsorted⟩ := h
  have hsub : (State.without s.list.entries n).Sublist s.list.entries := List.filter_sublist
  exact ⟨hsub.length_le.trans hlength, hnodup.sublist (hsub.map _), hsorted.sublist hsub⟩

/-! ### A removal -/

theorem Coherent.removeEntry (h : s.Coherent k) (n : SeatNo) (r : Reason) : (s.removeEntry n r).Coherent k := by
  have hframe := s.removeEntry_grantFrame n r
  have hseat (m : SeatNo) := s.removeEntry_seat n r m
  have hentries := s.removeEntry_entries n r
  have hchan (c : ChanNo) : (s.removeEntry n r).chan c = s.chan c := by rw [State.chan, removeEntry_channels]; rfl
  have horder := s.removeEntry_grantOrder n r
  by_cases hlisted : n ∈ s.list.entries.map Entry.seat
  swap
  · rwa [removeEntry_of_unlisted r hlisted]
  have hnone := h.seats.chan_of_listed hlisted
  rw [(entryOf_isSome_iff s n).2 hlisted] at hseat
  simp only [true_and] at hseat
  generalize s.removeEntry n r = t at *
  have hrun (m : SeatNo) : (t.seat m).run.chan = (s.seat m).run.chan := by
    rw [hseat]
    split
    · next hm => rw [← hm, hnone]
    · rfl
  exact {
    list := by rw [ListOk, hentries]; exact h.list.without n
    entries := fun e he hk => by
      rw [hentries, State.without, List.mem_filter, bne_iff_ne] at he
      refine (h.entries e he.1 hk).congr (hframe.frame.cfg _) ?_ hframe.frame.classes
      rw [hseat, if_neg he.2.symm]
    seats := fun m => by
      obtain ⟨hwaiting, hchannel, hspeaking⟩ := h.seats m
      rw [hrun, hentries, mem_seats_without]
      simp only [hchan]
      refine ⟨?_, hchannel, ?_⟩
      · rw [hseat]
        split
        · next hm => simp [hm]
        · next hm => rw [hwaiting]; exact (and_iff_right (Ne.symm hm)).symm
      · rw [hseat]
        split
        · next hm => rw [← hm, hnone]; simp
        · exact hspeaking
    channels := fun c => by rw [hchan]; exact h.channels c
    order := by
      rw [GrantOrderOk, horder]
      exact ⟨h.order.1, fun c => by rw [hchan]; exact h.order.2 c⟩
    records := hframe.frame.records h.records
    absentChan := fun m hm hk => by
      rw [hrun]
      exact h.absentChan m ((hframe.present m).symm.trans hm) hk
    absentList := fun m hm hk => by
      rw [hentries, mem_seats_without, hframe.holders]
      obtain ⟨hout, hholder⟩ := h.absentList m ((hframe.present m).symm.trans hm) hk
      exact ⟨fun hin => hout hin.2, hholder⟩
    sorted := by rw [hframe.holders]; exact h.sorted
    chairs := fun m hm hk => by
      rw [hframe.frame.cfg]
      exact h.chairs m (hframe.holders ▸ hm) hk
    priority := fun c hc => by
      rw [hchan] at hc ⊢
      rw [hframe.holders]
      exact h.priority c hc
    suspend := fun c hc => by
      rw [hchan] at hc ⊢
      rw [hframe.floor]
      exact h.suspend c hc
    closedList := fun hfloor => by rw [hentries, h.closedList (hframe.floor ▸ hfloor)]; rfl
    closedChan := fun hfloor c hc => by
      rw [hchan] at hc ⊢
      obtain ⟨hkind, hcls⟩ := h.closedChan (hframe.floor ▸ hfloor) c hc
      exact ⟨hkind, fun m hm hk => (congrArg SeatConfig.cls (hframe.frame.cfg m)).trans (hcls m hm hk)⟩
    still := fun hstart => by
      obtain ⟨hfloor, hholders, hidle⟩ := h.still fun hs => hstart ((congrArg StartUp.state hframe.frame.startUp).trans hs)
      exact ⟨hframe.floor.trans hfloor, hframe.holders.trans hholders, fun c => by rw [hchan]; exact hidle c⟩ }

theorem Coherent.bulkRemove (h : s.Coherent k) (r : Reason) : (s.bulkRemove r).Coherent k := by
  unfold State.bulkRemove
  generalize (s.list.entries.map Entry.seat).reverse = l
  induction l generalizing s with
  | nil => exact h
  | cons n l ih => exact ih (h.removeEntry n r)

/-! ### A close -/

theorem Coherent.closeChannel (h : s.Coherent k) (c : ChanNo) (n : SeatNo) (r : Reason) :
    (s.closeChannel c n r).Coherent k := by
  cases hcan : s.canClose c n with
  | false => rwa [s.closeChannel_of_not_canClose c n r hcan]
  | true =>
  have hframe := s.closeChannel_grantFrame c n r
  obtain ⟨hchan, horder, hseat⟩ := s.closeChannel_taken c n r hcan
  have hentries : (s.closeChannel c n r).list.entries = s.list.entries := by rw [closeChannel_list]
  obtain ⟨hbusyState, hnamed⟩ := (s.canClose_iff c n).1 hcan
  have hbusy : (s.chan c).busy = true := (Channel.busy_iff _).2 hbusyState
  have hheld : (s.seat n).run.chan = some c := ((h.seats n).2.1 c).2 ⟨hbusy, hnamed⟩
  have hunlisted := h.seats.unlisted_of_chan hheld
  generalize s.closeChannel c n r = t at *
  have hfree : (t.chan c).busy = false := by rw [hchan, if_pos rfl]; rfl
  have hother {d : ChanNo} (hd : (t.chan d).busy = true) : d ≠ c ∧ t.chan d = s.chan d := by
    have hne : d ≠ c := fun hdc => by
      rw [hdc, hfree] at hd
      cases hd
    exact ⟨hne, by rw [hchan, if_neg hne.symm]⟩
  exact {
    list := by rw [ListOk, hentries]; exact h.list
    entries := fun e he hk => by
      rw [hentries] at he
      have hne : n ≠ e.seat := fun hn => hunlisted (hn ▸ List.mem_map_of_mem he)
      refine (h.entries e he hk).congr (hframe.frame.cfg _) ?_ hframe.frame.classes
      rw [hseat, if_neg hne]
    seats := fun m => by
      obtain ⟨hwaiting, hchannel, hspeaking⟩ := h.seats m
      rw [hentries, hseat]
      split
      · next hm =>
        subst hm
        refine ⟨iff_of_false (fun hx => nomatch hx) hunlisted, fun d => iff_of_false (by simp) ?_, by simp⟩
        rintro ⟨hd, hdn⟩
        obtain ⟨hne, hsame⟩ := hother hd
        rw [hsame] at hd hdn
        exact hne (Option.some.inj (((hchannel d).2 ⟨hd, hdn⟩).symm.trans hheld))
      · next hm =>
        refine ⟨hwaiting, fun d => ?_, hspeaking⟩
        rw [hchannel]
        by_cases hd : d = c
        · subst hd
          rw [hfree, hnamed]
          refine iff_of_false (fun hx => hm (Option.some.inj hx.2)) (by simp)
        · rw [hchan, if_neg (Ne.symm hd)]
    channels := fun d => by
      by_cases hd : d = c
      · subst hd
        rw [hchan, if_pos rfl]
        exact ⟨fun _ => ⟨rfl, rfl, rfl, rfl⟩, fun hb => nomatch hb⟩
      · rw [hchan, if_neg (Ne.symm hd)]
        exact h.channels d
    order := by
      obtain ⟨hnodup, hmem⟩ := h.order
      rw [GrantOrderOk, horder]
      refine ⟨hnodup.erase c, fun d => ?_⟩
      rw [hnodup.mem_erase_iff, hmem]
      by_cases hd : d = c
      · subst hd
        rw [hfree]
        simp
      · rw [hchan, if_neg (Ne.symm hd)]
        exact and_iff_right hd
    records := hframe.frame.records h.records
    absentChan := fun m hm hk => by
      rw [hseat]
      split
      · rfl
      · exact h.absentChan m ((hframe.present m).symm.trans hm) hk
    absentList := fun m hm hk => by
      rw [hentries, hframe.holders]
      exact h.absentList m ((hframe.present m).symm.trans hm) hk
    sorted := by rw [hframe.holders]; exact h.sorted
    chairs := fun m hm hk => by
      rw [hframe.frame.cfg]
      exact h.chairs m (hframe.holders ▸ hm) hk
    priority := fun d hd => by
      obtain ⟨-, hsame⟩ := hother hd
      rw [hsame] at hd ⊢
      rw [hframe.holders]
      exact h.priority d hd
    suspend := fun d hd => by
      obtain ⟨-, hsame⟩ := hother hd
      rw [hsame] at hd ⊢
      rw [hframe.floor]
      exact h.suspend d hd
    closedList := fun hfloor => by rw [hentries]; exact h.closedList (hframe.floor ▸ hfloor)
    closedChan := fun hfloor d hd => by
      obtain ⟨-, hsame⟩ := hother hd
      rw [hsame] at hd ⊢
      obtain ⟨hkind, hcls⟩ := h.closedChan (hframe.floor ▸ hfloor) d hd
      exact ⟨hkind, fun m hm hk => (congrArg SeatConfig.cls (hframe.frame.cfg m)).trans (hcls m hm hk)⟩
    still := fun hstart => absurd ((congrArg StartUp.state hframe.frame.startUp).trans (h.ready_of_busy hbusy)) hstart }

theorem Coherent.closeBusy (h : s.Coherent k) (c : ChanNo) (r : Reason) : (s.closeBusy c r).Coherent k := by
  unfold State.closeBusy
  split
  · exact h.closeChannel ..
  · exact h

/-! ### A grant -/

/-- A grant is a turn of kind CHAIR where the floor is CLOSED, and computes PRIORITY unless the seat is about to join the
holder set (R87, R101). -/
theorem Coherent.grant (h : s.Coherent k) (n : SeatNo) (kind : TurnKind) (l : Level) {asHolder : Bool}
    (hready : s.startUp.state = .ready) (hjoin : asHolder = true → k.joining n)
    (hclosed : s.floor = .closed → (s.seat n).cfg.cls = .chair) : (s.grant n kind l asHolder).Coherent k := by
  cases hcan : s.canGrant n with
  | false => rwa [s.grant_of_not_canGrant n kind l asHolder hcan]
  | true =>
  have hframe := s.grant_grantFrame n kind l asHolder
  obtain ⟨hpresent, hoff, c, hc⟩ := (s.canGrant_iff n).1 hcan
  obtain ⟨hchan, horder, hseat, hlist⟩ := s.grant_made n kind l asHolder c hcan hc
  have hentries : (s.grant n kind l asHolder).list.entries = State.without s.list.entries n := by
    rw [hlist, takeGranted_entries]
  have hfree : (s.chan c).busy = false := by
    rw [← Bool.not_eq_true, Channel.busy_iff, not_not]
    exact (s.lowestFree_eq_some c hc).1
  have hnone : (s.seat n).run.chan = none := by
    rw [← Option.not_isSome_iff_eq_none, ← (h.seats n).2.2]
    exact hoff
  have hgranted : (s.grantedChannel n kind l asHolder).busy = true :=
    (Channel.busy_iff _).2 (s.grantedChannel_state_ne_free n kind l asHolder)
  have hrecord : (s.grantedChannel n kind l asHolder).seat = some n
      ∧ (s.grantedChannel n kind l asHolder).kind = some (grantKind (s.seat n).cfg.cls kind)
      ∧ (s.grantedChannel n kind l asHolder).level = some l
      ∧ (s.grantedChannel n kind l asHolder).priority = (!s.holders.isEmpty && !s.holders.contains n && !asHolder)
      ∧ (s.grantedChannel n kind l asHolder).suspend =
        (s.floor == .suspended && grantKind (s.seat n).cfg.cls kind != .chair)
      ∧ (s.grantedChannel n kind l asHolder).state =
        if (s.grantedChannel n kind l asHolder).hasCause then .held else .opened := ⟨rfl, rfl, rfl, rfl, rfl, rfl⟩
  obtain ⟨hgseat, hgkind, hglevel, hgpriority, hgsuspend, hgstate⟩ := hrecord
  generalize s.grantedChannel n kind l asHolder = g at *
  generalize s.grant n kind l asHolder = t at *
  exact {
    list := by rw [ListOk, hentries]; exact h.list.without n
    entries := fun e he hk => by
      rw [hentries, State.without, List.mem_filter, bne_iff_ne] at he
      refine (h.entries e he.1 hk).congr (hframe.frame.cfg _) ?_ hframe.frame.classes
      rw [hseat, if_neg he.2.symm]
    seats := fun m => by
      obtain ⟨hwaiting, hchannel, hspeaking⟩ := h.seats m
      rw [hentries, mem_seats_without, hseat]
      split
      · next hm =>
        subst hm
        refine ⟨iff_of_false (fun hx => nomatch hx) fun hin => hin.1 rfl, fun d => ?_, by simp⟩
        by_cases hd : c = d
        · subst hd
          rw [hchan, if_pos rfl]
          exact iff_of_true rfl ⟨hgranted, hgseat⟩
        · rw [hchan, if_neg hd, ← hchannel, hnone]
          exact iff_of_false (fun hx => hd (Option.some.inj hx)) (by simp)
      · next hm =>
        refine ⟨by rw [hwaiting]; exact (and_iff_right (Ne.symm hm)).symm, fun d => ?_, hspeaking⟩
        by_cases hd : c = d
        · subst hd
          rw [hchannel, hchan, if_pos rfl, hfree, hgseat]
          exact iff_of_false (by simp) fun hx => hm (Option.some.inj hx.2)
        · rw [hchan, if_neg hd]
          exact hchannel d
    channels := fun d => by
      by_cases hd : c = d
      · subst hd
        rw [hchan, if_pos rfl]
        refine ⟨fun hno => absurd hgranted (by rw [hno]; decide), fun _ => ⟨?_, ?_, ?_, ?_⟩⟩
        · rw [hgseat]; rfl
        · rw [hgkind]; rfl
        · rw [hglevel]; rfl
        · rw [hgstate]
          split
          · next hcause => exact iff_of_true rfl hcause
          · next hcause => exact iff_of_false (by decide) hcause
      · rw [hchan, if_neg hd]
        exact h.channels d
    order := by
      obtain ⟨hnodup, hmem⟩ := h.order
      have hout : c ∉ s.grantOrder := fun hin => by
        rw [(hmem c).1 hin] at hfree
        cases hfree
      rw [GrantOrderOk, horder]
      refine ⟨List.nodup_append.2 ⟨hnodup, List.nodup_singleton c, fun d hd x hx hdx => ?_⟩, fun d => ?_⟩
      · rw [List.mem_singleton] at hx
        exact hout (hx ▸ hdx ▸ hd)
      · rw [List.mem_append, List.mem_singleton, hmem]
        by_cases hd : c = d
        · subst hd
          rw [hchan, if_pos rfl]
          exact iff_of_true (.inr rfl) hgranted
        · rw [hchan, if_neg hd]
          exact or_iff_left (Ne.symm hd)
    records := hframe.frame.records h.records
    absentChan := fun m hm hk => by
      rw [hframe.present] at hm
      have hne : n ≠ m := fun hnm => by
        rw [← hnm, hpresent] at hm
        cases hm
      rw [hseat, if_neg hne]
      exact h.absentChan m hm hk
    absentList := fun m hm hk => by
      rw [hentries, mem_seats_without, hframe.holders]
      obtain ⟨hout, hholder⟩ := h.absentList m ((hframe.present m).symm.trans hm) hk
      exact ⟨fun hin => hout hin.2, hholder⟩
    sorted := by rw [hframe.holders]; exact h.sorted
    chairs := fun m hm hk => by
      rw [hframe.frame.cfg]
      exact h.chairs m (hframe.holders ▸ hm) hk
    priority := fun d hd => by
      by_cases hcd : c = d
      · subst hcd
        rw [hchan, if_pos rfl, hgpriority, hgseat, hframe.holders]
        refine ⟨fun hp => ?_, fun hk hp => ?_⟩
        · simp only [Bool.and_eq_true, Bool.not_eq_true', List.isEmpty_eq_false_iff, List.contains_eq_mem,
            decide_eq_false_iff_not] at hp
          exact ⟨hp.1.1, fun m hm => Option.some.inj hm ▸ hp.1.2⟩
        · have hplain : asHolder = false := eq_false_of_ne_true fun has => hk n rfl (hjoin has)
          simpa [hplain] using hp
      · rw [hchan, if_neg hcd] at hd ⊢
        rw [hframe.holders]
        exact h.priority d hd
    suspend := fun d hd => by
      by_cases hcd : c = d
      · subst hcd
        rw [hchan, if_pos rfl, hgsuspend, hgkind, hframe.floor]
        simp
      · rw [hchan, if_neg hcd] at hd ⊢
        rw [hframe.floor]
        exact h.suspend d hd
    closedList := fun hfloor => by rw [hentries, h.closedList (hframe.floor ▸ hfloor)]; rfl
    closedChan := fun hfloor d hd => by
      by_cases hcd : c = d
      · subst hcd
        have hcls := hclosed (hframe.floor ▸ hfloor)
        rw [hchan, if_pos rfl, hgkind, hgseat, hcls]
        refine ⟨rfl, fun m hm _ => ?_⟩
        rw [← Option.some.inj hm, hframe.frame.cfg]
        exact hcls
      · rw [hchan, if_neg hcd] at hd ⊢
        obtain ⟨hkind, hcls⟩ := h.closedChan (hframe.floor ▸ hfloor) d hd
        exact ⟨hkind, fun m hm hk => (congrArg SeatConfig.cls (hframe.frame.cfg m)).trans (hcls m hm hk)⟩
    still := fun hstart => absurd ((congrArg StartUp.state hframe.frame.startUp).trans hready) hstart }

/-! ### The fill rule -/

theorem Coherent.fillRule (h : s.Coherent k) : s.fillRule.Coherent k := by
  have loop (j : Nat) : ∀ s : State, s.floor = .opened → s.Coherent k → (s.fillLoop j).Coherent k := by
    induction j with
    | zero => exact fun s _ h => h
    | succ j ih =>
      intro s hfloor h
      obtain ⟨hsame, -⟩ | ⟨e, -, -, he, hstep⟩ := fillLoop_succ j s
      · rwa [hsame]
      · rw [hstep]
        have hready := h.ready_of_entry (firstEligible_mem he)
        refine ih _ ((s.grant_grantFrame ..).floor.trans hfloor) (h.grant _ _ _ hready (fun hno => nomatch hno) fun hno => ?_)
        rw [hfloor] at hno
        cases hno
  by_cases hfloor : s.floor = .opened
  · unfold State.fillRule
    split
    · exact loop 16 s hfloor h
    · exact h
  · rwa [fillRule_of_closed s (.inl hfloor)]

theorem Coherent.closeAndFill (h : s.Coherent k) (c : ChanNo) (n : SeatNo) (r : Reason) :
    (s.closeAndFill c n r).Coherent k := by
  unfold State.closeAndFill
  split
  · exact (h.closeChannel c n r).fillRule
  · exact h

theorem Coherent.closeSeat (h : s.Coherent k) (n : SeatNo) (r : Reason) : (s.closeSeat n r).Coherent k := by
  unfold State.closeSeat
  split
  · exact h.closeAndFill ..
  · exact h

end State
end Sys2Proof.Machine
end

section
/-! PROOF. The floor invariant over insertions, displacement, chair grants and NEXT. -/

namespace Sys2Proof.Machine

namespace State

variable {k : Slack} {s t u : State} {n : SeatNo}

/-! ### A list with one entry more -/

/-- A list with one entry put between smaller and larger levels. -/
structure Placed (e : Entry) (l l' : List Entry) : Prop where
  mem : ∀ x, x ∈ l' ↔ x = e ∨ x ∈ l
  perm : l'.Perm (e :: l)
  sorted : l'.Pairwise fun x y => x.effective ≤ y.effective

theorem placed_of_split {ahead behind : List Entry} {e : Entry}
    (hsorted : (ahead ++ behind).Pairwise fun x y => x.effective ≤ y.effective)
    (hahead : ∀ x ∈ ahead, x.effective ≤ e.effective) (hbehind : ∀ x ∈ behind, e.effective ≤ x.effective) :
    Placed e (ahead ++ behind) (ahead ++ e :: behind) := by
  refine ⟨fun x => ?_, List.perm_middle, ?_⟩
  · simp only [List.mem_append, List.mem_cons]
    tauto
  · rw [List.pairwise_append] at hsorted
    obtain ⟨h1, h2, hcross⟩ := hsorted
    rw [List.pairwise_append, List.pairwise_cons]
    refine ⟨h1, ⟨hbehind, h2⟩, fun x hx y hy => ?_⟩
    rw [List.mem_cons] at hy
    obtain rfl | hy := hy
    · exact hahead x hx
    · exact hcross x hx y hy

theorem placeEntry_placed (e : Entry) {l : List Entry} (hl : l.Pairwise fun x y => x.effective ≤ y.effective) :
    Placed e l (placeEntry e l) := by
  rw [placeEntry_of_sorted e hl]
  have hsplit := le_append_gt_of_sorted hl e.effective
  conv => enter [2]; rw [← hsplit]
  refine placed_of_split (by rwa [hsplit]) (fun x hx => ?_) fun x hx => ?_
  · exact of_decide_eq_true (List.mem_filter.1 hx).2
  · exact (of_decide_eq_true (List.mem_filter.1 hx).2).le

theorem placeRelisted_placed (e : Entry) {l : List Entry} (hl : l.Pairwise fun x y => x.effective ≤ y.effective) :
    Placed e l (placeRelisted e l) := by
  rw [placeRelisted_of_sorted e hl]
  have hsplit := lt_append_ge_of_sorted hl e.effective
  conv => enter [2]; rw [← hsplit]
  refine placed_of_split (by rwa [hsplit]) (fun x hx => ?_) fun x hx => ?_
  · exact (of_decide_eq_true (List.mem_filter.1 hx).2).le
  · exact of_decide_eq_true (List.mem_filter.1 hx).2

theorem Placed.mem_seats {e : Entry} {l l' : List Entry} (h : Placed e l l') (m : SeatNo) :
    m ∈ l'.map Entry.seat ↔ m = e.seat ∨ m ∈ l.map Entry.seat := by
  rw [(h.perm.map Entry.seat).mem_iff, List.map_cons, List.mem_cons]

theorem Placed.nodup {e : Entry} {l l' : List Entry} (h : Placed e l l') (hl : (l.map Entry.seat).Nodup)
    (hout : e.seat ∉ l.map Entry.seat) : (l'.map Entry.seat).Nodup := by
  rw [(h.perm.map Entry.seat).nodup_iff, List.map_cons, List.nodup_cons]
  exact ⟨hout, hl⟩

/-! ### An insertion -/

theorem Coherent.insertBy {place : Entry → List Entry → List Entry} (h : s.Coherent k) {e : Entry}
    (hplace : ∀ (e : Entry) {l : List Entry}, (l.Pairwise fun x y => x.effective ≤ y.effective) → Placed e l (place e l))
    (hroom : s.list.entries.length < 64) (hnone : (s.seat e.seat).run.chan = none)
    (hpresent : (s.seat e.seat).run.present = true) (hopen : s.floor ≠ .closed) (hready : s.startUp.state = .ready)
    (hlevel : e.effective = effectiveLevel e.claimed ((s.seat e.seat).cfg.entitled e.kind))
    (hclamped : e.clamped = isClamped e.claimed ((s.seat e.seat).cfg.entitled e.kind)) :
    (s.insertBy place e).Coherent k := by
  by_cases hlisted : e.seat ∈ s.list.entries.map Entry.seat
  · rwa [insertBy_of_listed s place e ((entryOf_isSome_iff s e.seat).2 hlisted)]
  have hunlisted := entryOf_eq_none hlisted
  have hframe := s.insertBy_grantFrame place e
  have hseat (m : SeatNo) := insertBy_seat s place e hunlisted m
  have hchan (c : ChanNo) : (s.insertBy place e).chan c = s.chan c := by rw [State.chan, insertBy_channels]; rfl
  have horder := insertBy_grantOrder s place e
  obtain ⟨hlength, hnodup, hsorted⟩ := h.list
  have hentries : (s.insertBy place e).list.entries = place (s.inserted e) s.list.entries := by
    rw [insertBy_list s place e hunlisted]
    rfl
  have hplaced := hplace (s.inserted e) hsorted
  rw [← hentries] at hplaced
  generalize s.insertBy place e = t at *
  have hrun (m : SeatNo) : (t.seat m).run.chan = (s.seat m).run.chan := by
    rw [hseat]
    split
    · next hm => rw [← hm, hnone]
    · rfl
  have hfits : t.EntryFits (s.inserted e) := by
    refine EntryFits.congr (s := s) ⟨hlevel, hclamped, rfl⟩ (hframe.frame.cfg _) ?_ hframe.frame.classes
    rw [hseat]
    split <;> rfl
  exact {
    list := by
      refine ⟨?_, hplaced.nodup hnodup hlisted, hplaced.sorted⟩
      rw [hplaced.perm.length_eq, List.length_cons]
      omega
    entries := fun x hx hk => by
      rw [hplaced.mem] at hx
      obtain rfl | hx := hx
      · exact hfits
      · refine (h.entries x hx hk).congr (hframe.frame.cfg _) ?_ hframe.frame.classes
        rw [hseat]
        split <;> rfl
    seats := fun m => by
      obtain ⟨hwaiting, hchannel, hspeaking⟩ := h.seats m
      have hmem : m ∈ t.list.entries.map Entry.seat ↔ m = e.seat ∨ m ∈ s.list.entries.map Entry.seat :=
        hplaced.mem_seats m
      rw [hrun, hmem]
      simp only [hchan]
      refine ⟨?_, hchannel, ?_⟩
      · rw [hseat]
        split
        · next hm => exact iff_of_true rfl (.inl hm.symm)
        · next hm => rw [hwaiting]; exact (or_iff_right (Ne.symm hm)).symm
      · rw [hseat]
        split
        · next hm => rw [← hm, hnone]; simp
        · exact hspeaking
    channels := fun c => by rw [hchan]; exact h.channels c
    order := by
      rw [GrantOrderOk, horder]
      exact ⟨h.order.1, fun c => by rw [hchan]; exact h.order.2 c⟩
    records := hframe.frame.records h.records
    absentChan := fun m hm hk => by
      rw [hrun]
      exact h.absentChan m ((hframe.present m).symm.trans hm) hk
    absentList := fun m hm hk => by
      rw [hframe.present] at hm
      obtain ⟨hout, hholder⟩ := h.absentList m hm hk
      have hne : m ≠ e.seat := fun hme => by
        rw [hme, hpresent] at hm
        cases hm
      have hmem : m ∈ t.list.entries.map Entry.seat ↔ m = e.seat ∨ m ∈ s.list.entries.map Entry.seat :=
        hplaced.mem_seats m
      rw [hframe.holders, hmem, or_iff_right hne]
      exact ⟨hout, hholder⟩
    sorted := by rw [hframe.holders]; exact h.sorted
    chairs := fun m hm hk => by
      rw [hframe.frame.cfg]
      exact h.chairs m (hframe.holders ▸ hm) hk
    priority := fun c hc => by
      rw [hchan] at hc ⊢
      rw [hframe.holders]
      exact h.priority c hc
    suspend := fun c hc => by
      rw [hchan] at hc ⊢
      rw [hframe.floor]
      exact h.suspend c hc
    closedList := fun hfloor => absurd (hframe.floor ▸ hfloor) hopen
    closedChan := fun hfloor => absurd (hframe.floor ▸ hfloor) hopen
    still := fun hstart => absurd ((congrArg StartUp.state hframe.frame.startUp).trans hready) hstart }

theorem Coherent.relist (h : s.Coherent k) (n : SeatNo) (l : Level) (hnone : (s.seat n).run.chan = none)
    (hpresent : (s.seat n).run.present = true) (hopen : s.floor ≠ .closed) (hready : s.startUp.state = .ready) :
    (s.relist n l).Coherent k := by
  obtain ⟨-, heq⟩ | ⟨hroom, -, heq⟩ := s.relist_cases n l
  · rwa [heq]
  · rw [heq]
    exact (h.insertBy placeRelisted_placed hroom hnone hpresent hopen hready rfl rfl).tell (notice_frame ..)

/-! ### Displacement -/

theorem ChannelsOk.named (h : s.ChannelsOk) {c : ChanNo} (hn : (s.chan c).seat = some n) : (s.chan c).busy = true := by
  by_contra hfree
  rw [((h c).1 (eq_false_of_ne_true hfree)).1] at hn
  cases hn

theorem Coherent.displace (h : s.Coherent k) (hleaving : ∀ n, ¬k.leaving n) (hopen : s.floor ≠ .closed) (c : ChanNo) :
    (s.displace c).Coherent k := by
  unfold State.displace
  split
  · next m l hm _ =>
    have hbusy := h.channels.named hm
    have hcan := (s.canClose_iff c m).2 ⟨(Channel.busy_iff _).1 hbusy, hm⟩
    obtain ⟨-, -, hseat⟩ := s.closeChannel_taken c m .displaced hcan
    have hframe := s.closeChannel_grantFrame c m .displaced
    have hclosed := h.closeChannel c m .displaced
    have hnone : ((s.closeChannel c m .displaced).seat m).run.chan = none := by rw [hseat, if_pos rfl]
    have hpresent : ((s.closeChannel c m .displaced).seat m).run.present = true := by
      rw [hframe.present]
      refine Bool.eq_true_of_not_eq_false fun habsent => ?_
      have hheld := ((h.seats m).2.1 c).2 ⟨hbusy, hm⟩
      rw [h.absentChan m habsent (hleaving m)] at hheld
      cases hheld
    dsimp only
    split
    · refine hclosed.relist m l hnone hpresent (by rwa [hframe.floor]) ?_
      rw [hframe.frame.startUp]
      exact h.ready_of_busy hbusy
    · exact hclosed
  · exact h

theorem Coherent.handOn (h : s.Coherent k) (hleaving : ∀ n, ¬k.leaving n) (n : SeatNo) : (s.handOn n).Coherent k := by
  unfold State.handOn
  split
  · exact h.fillRule
  · next e he =>
    split
    · exact h.fillRule
    · next c hc =>
      have hmay : s.mayDisplace e = true := by
        by_contra hno
        rw [if_neg hno] at hc
        cases hc
      have hfloor : s.floor = .opened := by
        simp only [mayDisplace, Bool.and_eq_true, beq_iff_eq] at hmay
        exact hmay.1.1.1
      have hframe := s.displace_grantFrame c
      have hopen : s.floor ≠ .closed := by rw [hfloor]; decide
      refine ((h.displace hleaving hopen c).grant (asHolder := false) n _ _ ?_ (fun hno => nomatch hno) fun hno => ?_).fillRule
      · rw [hframe.frame.startUp]
        exact h.ready_of_entry (List.mem_of_find?_eq_some he)
      · rw [hframe.floor, hfloor] at hno
        cases hno

/-! ### A chair grant -/

theorem Coherent.chairGrant (h : s.Coherent k) (hleaving : ∀ n, ¬k.leaving n) (n : SeatNo) {asHolder : Bool}
    (hready : s.startUp.state = .ready) (hjoin : asHolder = true → k.joining n) (hchair : (s.seat n).cfg.cls = .chair) :
    (s.chairGrant n asHolder).Coherent k := by
  unfold State.chairGrant
  split
  · exact h.grant n _ _ hready hjoin fun _ => hchair
  · split
    · exact h
    · next c hc =>
      have hframe := s.displace_grantFrame c
      have hopen : s.floor ≠ .closed := fun hfloor => by
        have hnon : (s.chan c).nonChair = true := by
          have := List.find?_some hc
          exact this
        rw [Channel.nonChair, Bool.and_eq_true, bne_iff_ne] at hnon
        exact hnon.2 (h.closedChan hfloor c hnon.1).1
      refine ((h.displace hleaving hopen c).grant n _ _ ?_ hjoin fun _ => ?_).fillRule
      · rw [hframe.frame.startUp]
        exact hready
      · rw [hframe.frame.cfg]
        exact hchair

/-! ### NEXT -/

theorem Coherent.closeDown (h : s.Coherent k) (j : Nat) : (s.closeDown j).Coherent k := by
  induction j generalizing s with
  | zero => exact h
  | succ j ih =>
    unfold State.closeDown
    split
    · split
      · exact ih (h.closeBusy ..)
      · exact h
    · exact h

theorem Coherent.grantNext (h : s.Coherent k) : s.grantNext.Coherent k := by
  unfold State.grantNext
  split
  · next e he =>
    have hmem := firstEligible_mem he
    refine (h.grant (asHolder := false) _ _ _ (h.ready_of_entry hmem) (fun hno => nomatch hno) fun hno => ?_).fillRule
    rw [h.closedList hno] at hmem
    cases hmem
  · exact h

theorem Coherent.next (h : s.Coherent k) : s.next.1.Coherent k := by
  unfold State.next
  split
  · exact h
  · split
    · exact h
    · split
      · exact (h.closeDown 16).grantNext
      · split
        · exact h.grantNext
        · split
          · exact (h.closeBusy ..).grantNext
          · exact h

end State
end Sys2Proof.Machine
end

section
/-! PROOF. The floor invariant over the holder set, SUSPEND and RESUME. -/

namespace Sys2Proof.Machine

namespace State

variable {k : Slack} {s t u : State} {n : SeatNo}

/-! ### Channels under other hold causes -/

/-- A busy channel's record under two hold causes (R83). -/
def caused (p u : Bool) (x : Channel) : Channel :=
  { x with priority := p, suspend := u, state := if p || u then .held else .opened }

theorem caused_heldByCause (p u : Bool) (x : Channel) : HeldByCause (caused p u x) := by
  cases p <;> cases u <;> simp [HeldByCause, caused, Channel.busy, Channel.hasCause]

theorem HeldByCause.caused_eq {x : Channel} (h : HeldByCause x) : caused x.priority x.suspend x = x := by
  have hstate := h.state_eq
  rw [Channel.hasCause] at hstate
  rw [caused, ← hstate]

/-- The busy channels take the hold causes `p` and `u`, and nothing else that the invariant reads changes but the holder
set and the floor state. -/
structure Recaused (p u : ChanNo → Bool) (s t : State) : Prop where
  list : t.list = s.list
  seats : t.seats = s.seats
  order : t.grantOrder = s.grantOrder
  classes : t.classes = s.classes
  refusal : t.refusal = s.refusal
  startUp : t.startUp = s.startUp
  chan : ∀ c : ChanNo, t.chan c = if (s.chan c).busy = true then caused (p c) (u c) (s.chan c) else s.chan c

theorem HoldFrame.recaused {p u : ChanNo → Bool} (h : HoldFrame s t)
    (hchan : ∀ c : ChanNo, t.chan c = if (s.chan c).busy = true then caused (p c) (u c) (s.chan c) else s.chan c) :
    Recaused p u s t :=
  ⟨h.list, h.seats, h.grantOrder, h.frame.classes, h.frame.refusal, h.frame.startUp, hchan⟩

theorem Coherent.recause {p u : ChanNo → Bool} {j : SeatNo → Prop} (h : s.Coherent k) (g : Recaused p u s t)
    (hsorted : t.holders.Pairwise (· < ·)) (hchairs : ∀ n ∈ t.holders, ¬k.chair n → (s.seat n).cfg.cls = .chair)
    (habsent : ∀ n, (s.seat n).run.present = false → ¬k.going n → n ∉ t.holders)
    (hpriority : ∀ c : ChanNo, (s.chan c).busy = true →
      (p c = true → t.holders ≠ [] ∧ ∀ n, (s.chan c).seat = some n → n ∉ t.holders)
      ∧ ((∀ n, (s.chan c).seat = some n → ¬j n) →
        (t.holders ≠ [] ∧ ∀ n, (s.chan c).seat = some n → n ∉ t.holders) → p c = true))
    (hsuspend : ∀ c : ChanNo, (s.chan c).busy = true →
      (u c = true ↔ t.floor = .suspended ∧ (s.chan c).kind ≠ some .chair))
    (hclosed : t.floor = .closed → s.floor = .closed)
    (hstill : s.startUp.state ≠ .ready → t.floor = .closed ∧ t.holders = []) :
    t.Coherent { k with joining := j } := by
  have hseat (m : SeatNo) : t.seat m = s.seat m := by rw [State.seat, g.seats]; rfl
  have hsame (c : ChanNo) : (t.chan c).busy = (s.chan c).busy ∧ (t.chan c).seat = (s.chan c).seat
      ∧ (t.chan c).kind = (s.chan c).kind ∧ (t.chan c).level = (s.chan c).level := by
    rw [g.chan]
    split
    · next hc => exact ⟨(caused_heldByCause ..).1.trans hc.symm, rfl, rfl, rfl⟩
    · exact ⟨rfl, rfl, rfl, rfl⟩
  have hbusy (c : ChanNo) := (hsame c).1
  have hnamed (c : ChanNo) := (hsame c).2.1
  have hkind (c : ChanNo) := (hsame c).2.2.1
  have hcaused {c : ChanNo} (hc : (t.chan c).busy = true) : t.chan c = caused (p c) (u c) (s.chan c) := by
    rw [g.chan, if_pos (hbusy c ▸ hc)]
  exact {
    list := by rw [ListOk, g.list]; exact h.list
    entries := fun e he hk =>
      (h.entries e (g.list ▸ he) hk).congr (by rw [hseat]) (by rw [hseat]) g.classes
    seats := fun m => by
      rw [hseat, g.list]
      simp only [hbusy, hnamed]
      exact h.seats m
    channels := fun c => by
      by_cases hc : (s.chan c).busy = true
      · have hheld := caused_heldByCause (p c) (u c) (s.chan c)
        obtain ⟨-, hkeep⟩ := h.channels c
        obtain ⟨hs, hk, hl, -⟩ := hkeep hc
        rw [g.chan, if_pos hc]
        exact ⟨fun hno => absurd hheld.1 (by rw [hno]; decide), fun _ => ⟨hs, hk, hl, hheld.2⟩⟩
      · rw [g.chan, if_neg hc]
        exact h.channels c
    order := by
      rw [GrantOrderOk, g.order]
      exact ⟨h.order.1, fun c => by rw [hbusy]; exact h.order.2 c⟩
    records := ⟨fun m hm => by rw [hseat] at hm ⊢; exact h.records.absent m hm,
      fun m => by rw [hseat, refusalOf, g.refusal]; exact h.records.shown m,
      fun hs m => by rw [hseat]; exact h.records.recalling (g.startUp ▸ hs) m⟩
    absentChan := fun m hm hk => by
      rw [hseat] at hm ⊢
      exact h.absentChan m hm hk
    absentList := fun m hm hk => by
      rw [hseat] at hm
      rw [g.list]
      exact ⟨(h.absentList m hm hk).1, habsent m hm hk⟩
    sorted := hsorted
    chairs := fun m hm hk => by rw [hseat]; exact hchairs m hm hk
    priority := fun c hc => by
      rw [hcaused hc]
      exact hpriority c (hbusy c ▸ hc)
    suspend := fun c hc => by
      rw [hcaused hc]
      exact hsuspend c (hbusy c ▸ hc)
    closedList := fun hfloor => by rw [g.list]; exact h.closedList (hclosed hfloor)
    closedChan := fun hfloor c hc => by
      rw [hkind, hnamed]
      obtain ⟨hchair, hcls⟩ := h.closedChan (hclosed hfloor) c (hbusy c ▸ hc)
      exact ⟨hchair, fun m hm hk => by rw [hseat]; exact hcls m hm hk⟩
    still := fun hs => by
      rw [g.startUp] at hs
      obtain ⟨hfloor, hholders⟩ := hstill hs
      exact ⟨hfloor, hholders, fun c => (hbusy c).trans ((h.still hs).2.2 c)⟩ }

/-! ### The holder set -/

theorem Coherent.attuned (h : s.Coherent k) : s.Attuned k.joining :=
  ⟨h.seats, h.channels, h.order, h.sorted, fun c hc => (h.priority c hc).1, fun c hc => (h.priority c hc).2⟩

/-- A change of the holder set that the channels follow. -/
theorem Coherent.follow (h : s.Coherent k) (hframe : HoldFrame s t) (hturn : Follows s t)
    (hsorted : t.holders.Pairwise (· < ·)) (hchairs : ∀ n ∈ t.holders, ¬k.chair n → (s.seat n).cfg.cls = .chair)
    (habsent : ∀ n, (s.seat n).run.present = false → ¬k.going n → n ∉ t.holders)
    (hstill : s.startUp.state ≠ .ready → t.holders = []) : t.Coherent { k with joining := fun _ => False } := by
  have hrec : Recaused (fun c => followed t.holders (s.chan c)) (fun c => (s.chan c).suspend) s t := by
    refine hframe.recaused fun c => ?_
    have hchan : t.chan c = if c ∈ s.grantOrder then followRecord t.holders (s.chan c) else s.chan c := hturn.chan c
    simp only [hchan, h.order.2 c]
    rfl
  refine h.recause hrec hsorted hchairs habsent (fun c _ => ⟨followed_iff.1, fun _ => followed_iff.2⟩) (fun c hc => ?_)
    (fun hfloor => hframe.floor ▸ hfloor) fun hs => ⟨hframe.floor.trans (h.still hs).1, hstill hs⟩
  rw [hframe.floor]
  exact h.suspend c hc

theorem joinHolders_sorted (h : s.holders.Pairwise (· < ·)) (n : SeatNo) : (s.joinHolders n).holders.Pairwise (· < ·) := by
  rw [joinHolders_holders]
  split
  · exact h
  · exact insertAsc_sorted n _ h

theorem leaveHolders_sorted (h : s.holders.Pairwise (· < ·)) (n : SeatNo) :
    (s.leaveHolders n).holders.Pairwise (· < ·) := by
  rw [leaveHolders_holders]
  split
  · exact h.sublist List.erase_sublist
  · exact h

theorem Coherent.joinHolders (h : s.Coherent k) (n : SeatNo) (hj : ∀ m, k.joining m → m = n ∧ n ∉ s.holders)
    (hready : s.startUp.state = .ready) (hpresent : (s.seat n).run.present = true) (hchair : (s.seat n).cfg.cls = .chair) :
    (s.joinHolders n).Coherent { k with joining := fun _ => False } := by
  have hmem (m : SeatNo) := mem_joinHolders (s := s) n m
  refine h.follow (s.joinHolders_holdFrame n) (h.attuned.joinHolders_follows n hj) (joinHolders_sorted h.sorted n)
    (fun m hm hk => ?_) (fun m hm hk hin => ?_) fun hs => absurd hready hs
  · obtain rfl | hm := (hmem m).1 hm
    · exact hchair
    · exact h.chairs m hm hk
  · obtain rfl | hin := (hmem m).1 hin
    · rw [hpresent] at hm
      cases hm
    · exact (h.absentList m hm hk).2 hin

theorem Coherent.leaveHolders (h : s.Coherent k) (n : SeatNo) (hj : ∀ m, ¬k.joining m) :
    (s.leaveHolders n).Coherent k := by
  have hmem (m : SeatNo) := mem_leaveHolders h.sorted n m
  have hleft := h.follow (s.leaveHolders_holdFrame n) (h.attuned.leaveHolders_follows n hj) (leaveHolders_sorted h.sorted n)
    (fun m hm hk => h.chairs m ((hmem m).1 hm).2 hk)
    (fun m hm hk hin => (h.absentList m hm hk).2 ((hmem m).1 hin).2) fun hs => by
      rw [List.eq_nil_iff_forall_not_mem]
      intro m hm
      have hin := ((hmem m).1 hm).2
      rw [(h.still hs).2.1] at hin
      cases hin
  exact hleft.weaken (fun _ => id) (fun _ => id) (fun _ => id) (fun _ => id) fun _ => False.elim

/-! ### SUSPEND and RESUME -/

theorem suspendedRecord_eq {x : Channel} (h : HeldByCause x) (hfree : x.suspend = false) :
    suspendedRecord x = caused x.priority (x.kind != some .chair) x := by
  rw [suspendedRecord]
  split
  · next hkind =>
    have hsame := h.caused_eq
    rw [hfree] at hsame
    rw [hkind]
    exact hsame.symm
  · next hkind =>
    have hne : (x.kind != some .chair) = true := bne_iff_ne.2 hkind
    rw [hne, caused, Bool.or_true, if_pos rfl]

theorem suspendAll_coherent (h : s.Coherent k) (hfloor : s.floor = .opened) :
    (s.withFloor .suspended).suspendAll.Coherent k := by
  have hturn := suspendAll_inTurn (s := s.withFloor .suspended) h.channels h.order
  obtain ⟨hframe, hholders⟩ := (s.withFloor .suspended).suspendAll_frame
  rw [withFloor_holders] at hholders
  have hready : s.startUp.state = .ready := by
    by_contra hs
    rw [(h.still hs).1] at hfloor
    cases hfloor
  have hfree {c : ChanNo} (hc : (s.chan c).busy = true) : (s.chan c).suspend = false := by
    refine eq_false_of_ne_true fun hsuspend => ?_
    rw [((h.suspend c hc).1 hsuspend).1] at hfloor
    cases hfloor
  have hrec : Recaused (fun c => (s.chan c).priority) (fun c => (s.chan c).kind != some .chair) s
      (s.withFloor .suspended).suspendAll := by
    refine { hframe.recaused (p := fun c => (s.chan c).priority) (u := fun c => (s.chan c).kind != some .chair)
      fun c => ?_ with }
    have hchan := hturn.chan c
    rw [withFloor_grantOrder, withFloor_chan] at hchan
    rw [withFloor_chan, hchan]
    simp only [h.order.2 c]
    split
    · next hc => exact suspendedRecord_eq (h.channels.heldByCause hc) (hfree hc)
    · rfl
  refine (h.recause (j := k.joining) hrec (by rw [hholders]; exact h.sorted) (fun m hm hk => h.chairs m (hholders ▸ hm) hk)
    (fun m hm hk => by rw [hholders]; exact (h.absentList m hm hk).2) (fun c hc => by rw [hholders]; exact h.priority c hc)
    (fun c hc => ?_) (fun hclosed => ?_) fun hs => absurd hready hs)
  · rw [hframe.floor]
    simp
  · rw [hframe.floor] at hclosed
    cases hclosed

theorem resumeAll_coherent (h : s.Coherent k) (hfloor : s.floor = .suspended) :
    (s.withFloor .opened).resumeAll.Coherent k := by
  have hturn := resumeAll_inTurn (s := s.withFloor .opened) h.channels h.order
  obtain ⟨hframe, hholders⟩ := (s.withFloor .opened).resumeAll_frame
  rw [withFloor_holders] at hholders
  have hready : s.startUp.state = .ready := by
    by_contra hs
    rw [(h.still hs).1] at hfloor
    cases hfloor
  have hrec : Recaused (fun c => (s.chan c).priority) (fun _ => false) s (s.withFloor .opened).resumeAll := by
    refine { hframe.recaused (p := fun c => (s.chan c).priority) (u := fun _ => false) fun c => ?_ with }
    have hchan := hturn.chan c
    rw [withFloor_grantOrder, withFloor_chan] at hchan
    rw [withFloor_chan, hchan]
    simp only [h.order.2 c, resumedRecord, caused, Bool.or_false]
  refine (h.recause (j := k.joining) hrec (by rw [hholders]; exact h.sorted) (fun m hm hk => h.chairs m (hholders ▸ hm) hk)
    (fun m hm hk => by rw [hholders]; exact (h.absentList m hm hk).2) (fun c hc => by rw [hholders]; exact h.priority c hc)
    (fun c hc => ?_) (fun hclosed => ?_) fun hs => absurd hready hs)
  · rw [hframe.floor]
    exact iff_of_false (by decide) fun hx => nomatch hx.1
  · rw [hframe.floor] at hclosed
    cases hclosed

end State
end Sys2Proof.Machine
end

section
/-! PROOF. The floor invariant over changes of seat records, class records and entries in their places. -/

namespace Sys2Proof.Machine

namespace State

variable {k : Slack} {s t u : State} {n : SeatNo}

/-! ### Seats and entries changed in their places -/

/-- The same seats are listed, hold the same channels and stand in the same holder set, under the same floor state. -/
structure Resettled (s t : State) : Prop where
  listed : ∀ m, m ∈ t.list.entries.map Entry.seat ↔ m ∈ s.list.entries.map Entry.seat
  run : ∀ m : SeatNo, (t.seat m).run.floor = (s.seat m).run.floor ∧ (t.seat m).run.chan = (s.seat m).run.chan
  chan : ∀ c : ChanNo, t.chan c = s.chan c
  order : t.grantOrder = s.grantOrder
  holders : t.holders = s.holders
  floor : t.floor = s.floor
  startUp : t.startUp = s.startUp

theorem Coherent.resettle {P : SeatNo → Prop} (h : s.Coherent k) (g : Resettled s t) (hlist : t.ListOk)
    (hentries : ∀ e ∈ t.list.entries, ¬P e.seat → t.EntryFits e) (hrecords : t.RecordsOk)
    (habsent : ∀ m : SeatNo, (t.seat m).run.present = false →
      (s.seat m).run.present = false ∨ (k.leaving m ∧ k.going m))
    (hcls : ∀ m : SeatNo, ¬k.chair m → (s.seat m).cfg.cls = .chair → (t.seat m).cfg.cls = .chair) :
    t.Coherent { k with entry := P } where
  list := hlist
  entries := hentries
  seats m := by
    obtain ⟨hfloor, hchan⟩ := g.run m
    rw [hfloor, hchan, g.listed]
    simp only [g.chan]
    exact h.seats m
  channels c := by rw [g.chan]; exact h.channels c
  order := by
    rw [GrantOrderOk, g.order]
    exact ⟨h.order.1, fun c => by rw [g.chan]; exact h.order.2 c⟩
  records := hrecords
  absentChan m hm hk := by
    rw [(g.run m).2]
    exact h.absentChan m ((habsent m hm).resolve_right fun hx => hk hx.1) hk
  absentList m hm hk := by
    rw [g.listed, g.holders]
    exact h.absentList m ((habsent m hm).resolve_right fun hx => hk hx.2) hk
  sorted := by rw [g.holders]; exact h.sorted
  chairs m hm hk := hcls m hk (h.chairs m (g.holders ▸ hm) hk)
  priority c hc := by
    rw [g.chan] at hc ⊢
    rw [g.holders]
    exact h.priority c hc
  suspend c hc := by
    rw [g.chan] at hc ⊢
    rw [g.floor]
    exact h.suspend c hc
  closedList hfloor := by
    have hnone := h.closedList (g.floor ▸ hfloor)
    rw [← List.map_eq_nil_iff (f := Entry.seat), List.eq_nil_iff_forall_not_mem]
    intro m hm
    rw [g.listed, hnone] at hm
    cases hm
  closedChan hfloor c hc := by
    rw [g.chan] at hc ⊢
    obtain ⟨hkind, hchair⟩ := h.closedChan (g.floor ▸ hfloor) c hc
    exact ⟨hkind, fun m hm hk => hcls m hk (hchair m hm hk)⟩
  still hs := by
    rw [g.startUp] at hs
    rw [g.floor, g.holders]
    obtain ⟨hfloor, hholders, hidle⟩ := h.still hs
    exact ⟨hfloor, hholders, fun c => by rw [g.chan]; exact hidle c⟩

/-! ### What a slack left open, closed again -/

/-- The entries of seats fit after all. -/
theorem Coherent.settleEntries {P : SeatNo → Prop} (h : s.Coherent k)
    (hfits : ∀ e ∈ s.list.entries, k.entry e.seat → ¬P e.seat → s.EntryFits e) : s.Coherent { k with entry := P } :=
  { h with
    entries := fun e he hk => by
      by_cases hopen : k.entry e.seat
      · exact hfits e he hopen hk
      · exact h.entries e he hopen }

/-- Seats are of class CHAIR, or neither in the holder set nor on a CLOSED floor's channels, after all. -/
theorem Coherent.settleChairs {P : SeatNo → Prop} (h : s.Coherent k)
    (hset : ∀ m : SeatNo, k.chair m → ¬P m → (s.seat m).cfg.cls = .chair
      ∨ (m ∉ s.holders ∧ (s.floor = .closed → (s.seat m).run.chan = none))) : s.Coherent { k with chair := P } :=
  { h with
    chairs := fun m hm hk => by
      by_cases hopen : k.chair m
      · exact (hset m hopen hk).resolve_right fun hx => hx.1 hm
      · exact h.chairs m hm hopen
    closedChan := fun hfloor c hc => ⟨(h.closedChan hfloor c hc).1, fun m hm hk => by
      by_cases hopen : k.chair m
      · refine (hset m hopen hk).resolve_right fun hx => ?_
        have hheld := ((h.seats m).2.1 c).2 ⟨hc, hm⟩
        rw [hx.2 hfloor] at hheld
        cases hheld
      · exact (h.closedChan hfloor c hc).2 m hm hopen⟩ }

/-- ABSENT seats hold no channel after all. -/
theorem Coherent.settleLeaving {P : SeatNo → Prop} (h : s.Coherent k)
    (hset : ∀ m : SeatNo, k.leaving m → ¬P m → (s.seat m).run.chan = none) : s.Coherent { k with leaving := P } :=
  { h with
    absentChan := fun m hm hk => by
      by_cases hopen : k.leaving m
      · exact hset m hopen hk
      · exact h.absentChan m hm hopen }

/-- ABSENT seats are neither listed nor in the holder set after all. -/
theorem Coherent.settleGoing {P : SeatNo → Prop} (h : s.Coherent k)
    (hset : ∀ m : SeatNo, k.going m → ¬P m → m ∉ s.list.entries.map Entry.seat ∧ m ∉ s.holders) :
    s.Coherent { k with going := P } :=
  { h with
    absentList := fun m hm hk => by
      by_cases hopen : k.going m
      · exact hset m hopen hk
      · exact h.absentList m hm hopen }

/-! ### Entries in their places -/

theorem GrantFrame.resettled (h : GrantFrame s t) (hseats : t.seats = s.seats) (hchannels : t.channels = s.channels)
    (horder : t.grantOrder = s.grantOrder)
    (hlisted : ∀ m, m ∈ t.list.entries.map Entry.seat ↔ m ∈ s.list.entries.map Entry.seat) : Resettled s t :=
  ⟨hlisted, fun m => by rw [State.seat, hseats]; exact ⟨rfl, rfl⟩, fun c => by rw [State.chan, hchannels]; rfl, horder,
    h.holders, h.floor, h.frame.startUp⟩

theorem mem_replaceEntry {l : List Entry} {f : Entry → Entry} {x : Entry} :
    x ∈ replaceEntry l n f ↔ ∃ e ∈ l, x = if e.seat = n then f e else e := by
  rw [replaceEntry, List.mem_map]
  exact exists_congr fun e => and_congr_right fun _ => eq_comm

theorem replaceEntry_const {l : List Entry} {e : Entry} (f : Entry → Entry) (hl : (l.map Entry.seat).Nodup) (he : e ∈ l)
    (hen : e.seat = n) : replaceEntry l n f = replaceEntry l n fun _ => f e := by
  refine List.map_congr_left fun x hx => ?_
  split
  · next hxn => rw [List.inj_on_of_nodup_map hl hx he (hxn.trans hen.symm)]
  · rfl

theorem markMoved_same {before : List Entry} (h : before.map Entry.seat = s.list.entries.map Entry.seat) :
    s.markMoved before = s := by
  have hnone : ((s.list.entries.map Entry.seat).filter fun m => positionIn before m != positionIn s.list.entries m) = [] :=
    List.filter_eq_nil_iff.2 fun m _ => by simp [positionIn_congr h]
  rw [markMoved, hnone]
  rfl

/-- A seat's entry under its present entitlement, with its EXHAUSTED flag as it stands (R74). -/
def reclamped (s : State) (n : SeatNo) (e : Entry) : Entry :=
  { e with
    effective := effectiveLevel e.claimed ((s.seat n).cfg.entitled e.kind)
    clamped := isClamped e.claimed ((s.seat n).cfg.entitled e.kind)
    exhausted := s.isExhausted n }

/-- The entries with a seat's entry reclamped: in its place, or at the tail of its level group where its level changed
(R68, R74). -/
def reclampedEntries (s : State) (n : SeatNo) (e : Entry) : List Entry :=
  if (s.reclamped n e).effective = e.effective then replaceEntry s.list.entries n fun _ => s.reclamped n e
  else placeEntry (s.reclamped n e) (without s.list.entries n)

theorem ListOk.replace {l : List Entry} {f : Entry → Entry} (h : l.length ≤ 64 ∧ (l.map Entry.seat).Nodup
      ∧ l.Pairwise fun x y => x.effective ≤ y.effective) (hseat : ∀ e ∈ l, e.seat = n → (f e).seat = n)
    (hlevel : ∀ e ∈ l, e.seat = n → (f e).effective = e.effective) :
    (replaceEntry l n f).length ≤ 64 ∧ (replaceEntry l n f).map Entry.seat = l.map Entry.seat
      ∧ (replaceEntry l n f).Pairwise fun x y => x.effective ≤ y.effective := by
  have heffective {e : Entry} (he : e ∈ l) : (if e.seat = n then f e else e).effective = e.effective := by
    split
    · next hen => exact hlevel e he hen
    · rfl
  obtain ⟨hlength, hnodup, hsorted⟩ := h
  refine ⟨by rw [replaceEntry, List.length_map]; exact hlength, ?_, ?_⟩
  · rw [replaceEntry, List.map_map]
    refine List.map_congr_left fun e he => ?_
    by_cases hen : e.seat = n
    · simp [hen, hseat e he hen]
    · simp [hen]
  · rw [replaceEntry, List.pairwise_map]
    exact hsorted.imp_of_mem fun ha hb hab => by rw [heffective ha, heffective hb]; exact hab

theorem replaceEntry_replaceEntry {l : List Entry} {f g : Entry → Entry} (hf : ∀ e, (f e).seat = e.seat) :
    replaceEntry (replaceEntry l n f) n g = replaceEntry l n fun e => g (f e) := by
  rw [replaceEntry, replaceEntry, List.map_map]
  refine List.map_congr_left fun e _ => ?_
  by_cases hen : e.seat = n
  · simp [hen, hf]
  · simp [hen]

theorem refreshExhausted_replace {f : Entry → Entry} (hf : ∀ e, (f e).seat = e.seat) :
    (s.withList { s.list with entries := replaceEntry s.list.entries n f }).refreshExhausted n =
      s.withList { s.list with
        entries := replaceEntry s.list.entries n fun e => { f e with exhausted := s.isExhausted n } } := by
  exact congrArg (fun l => s.withList { s.list with entries := l })
    (replaceEntry_replaceEntry (g := fun e => { e with exhausted := s.isExhausted n }) hf)

/-- An entry under its seat's present entitlement, at a level given. -/
def entitledAt (s : State) (n : SeatNo) (l : Level) (k : RequestKind) (e : Entry) : Entry :=
  { e with effective := l, clamped := isClamped e.claimed ((s.seat n).cfg.entitled k) }

theorem reclamp_of_entry {e : Entry} (hlist : s.ListOk) (he : s.entryOf n = some e) :
    s.reclamp n = (s.withList { s.list with entries := s.reclampedEntries n e }).markMoved s.list.entries := by
  have hmem : e ∈ s.list.entries := List.mem_of_find?_eq_some he
  have hen : e.seat = n := by simpa using List.find?_some he
  have hreclamp : s.reclamp n = State.refreshExhausted n (if (s.reclamped n e).effective = e.effective then
        s.withList { s.list with
          entries := replaceEntry s.list.entries n (s.entitledAt n (s.reclamped n e).effective e.kind) }
      else (s.withList { s.list with
        entries := replaceEntry s.list.entries n (s.entitledAt n (s.reclamped n e).effective e.kind) }).reposition n) := by
    unfold reclamp
    rw [he]
    rfl
  rw [hreclamp, reclampedEntries]
  split
  · rw [refreshExhausted_replace (f := s.entitledAt n (s.reclamped n e).effective e.kind) fun _ => rfl,
      replaceEntry_const _ hlist.2.1 hmem hen]
    refine (markMoved_same ?_).symm
    rw [withList_list]
    refine (ListOk.replace (f := fun _ => s.reclamped n e) hlist (fun _ _ _ => hen) fun x hx hxn => ?_).2.1.symm
    rw [List.inj_on_of_nodup_map hlist.2.1 hx hmem (hxn.trans hen.symm)]
    assumption
  · exact refresh_reposition_replace (fun _ => rfl) he

/-- A seat's entry changed in its place, its level kept, so that it fits. -/
theorem Coherent.replaced {f : Entry → Entry} (h : s.Coherent k) (n : SeatNo)
    (hseat : ∀ e ∈ s.list.entries, e.seat = n → (f e).seat = n)
    (hlevel : ∀ e ∈ s.list.entries, e.seat = n → (f e).effective = e.effective)
    (hfits : ∀ e ∈ s.list.entries, e.seat = n → s.EntryFits (f e)) :
    (s.withList { s.list with entries := replaceEntry s.list.entries n f }).Coherent
      { k with entry := fun m => k.entry m ∧ m ≠ n } := by
  obtain ⟨hlength, hsame, hsorted⟩ := ListOk.replace h.list hseat hlevel
  have hframe := withList_grantFrame s { s.list with entries := replaceEntry s.list.entries n f }
  refine h.resettle (hframe.resettled rfl rfl rfl fun m => by rw [withList_list, hsame]) ⟨hlength, ?_, hsorted⟩ (fun x hx hk => ?_)
    (hframe.frame.records h.records) (fun m hm => .inl hm) fun m _ hm => hm
  · rw [withList_list, hsame]
    exact h.list.2.1
  · rw [withList_list, mem_replaceEntry] at hx
    obtain ⟨e, he, rfl⟩ := hx
    by_cases hen : e.seat = n
    · rw [if_pos hen]
      exact (hfits e he hen).congr rfl rfl rfl
    · rw [if_neg hen] at hk ⊢
      exact (h.entries e he fun hopen => hk ⟨hopen, hen⟩).congr rfl rfl rfl

theorem Coherent.refreshExhausted (h : s.Coherent k) (n : SeatNo)
    (hlevel : ∀ e ∈ s.list.entries, e.seat = n → k.entry n →
      e.effective = effectiveLevel e.claimed ((s.seat n).cfg.entitled e.kind)
        ∧ e.clamped = isClamped e.claimed ((s.seat n).cfg.entitled e.kind)) :
    (s.refreshExhausted n).Coherent { k with entry := fun m => k.entry m ∧ m ≠ n } := by
  refine h.replaced n (f := fun e => { e with exhausted := s.isExhausted n }) (fun e _ hen => hen) (fun _ _ _ => rfl)
    fun e he hen => ?_
  have hfit : e.effective = effectiveLevel e.claimed ((s.seat n).cfg.entitled e.kind)
      ∧ e.clamped = isClamped e.claimed ((s.seat n).cfg.entitled e.kind) := by
    by_cases hopen : k.entry n
    · exact hlevel e he hen hopen
    · obtain ⟨heff, hclamped, -⟩ := h.entries e he (hen ▸ hopen)
      rw [hen] at heff hclamped
      exact ⟨heff, hclamped⟩
  subst hen
  exact ⟨hfit.1, hfit.2, rfl⟩

/-- A seat's entry moved to the place its level has, so that it fits (R65). -/
theorem Coherent.placedAnew (h : s.Coherent k) {e : Entry} (hlisted : e.seat ∈ s.list.entries.map Entry.seat)
    (hfits : s.EntryFits e) :
    (s.withList { s.list with entries := placeEntry e (without s.list.entries e.seat) }).Coherent
      { k with entry := fun m => k.entry m ∧ m ≠ e.seat } := by
  obtain ⟨hlength, hnodup, hsorted⟩ := h.list.without e.seat
  have hplaced := placeEntry_placed e hsorted
  have hout : e.seat ∉ (without s.list.entries e.seat).map Entry.seat := by
    rw [mem_seats_without]
    exact fun hin => hin.1 rfl
  have hframe := withList_grantFrame s { s.list with entries := placeEntry e (without s.list.entries e.seat) }
  refine h.resettle (hframe.resettled rfl rfl rfl fun m => ?_) ⟨?_, hplaced.nodup hnodup hout, hplaced.sorted⟩ (fun x hx hk => ?_)
    (hframe.frame.records h.records) (fun m hm => .inl hm) fun m _ hm => hm
  · rw [withList_list, hplaced.mem_seats, mem_seats_without]
    by_cases hm : m = e.seat
    · rw [hm]
      exact iff_of_true (.inl rfl) hlisted
    · simp [hm]
  · obtain ⟨e', he', hseat⟩ := List.mem_map.1 hlisted
    have hlt : (without s.list.entries e.seat).length < s.list.entries.length :=
      List.length_filter_lt_length_iff_exists.2 ⟨e', he', by simp [hseat]⟩
    have hlen := h.list.1
    change (placeEntry e (without s.list.entries e.seat)).length ≤ 64
    rw [hplaced.perm.length_eq, List.length_cons]
    omega
  · rw [withList_list, hplaced.mem] at hx
    obtain rfl | hx := hx
    · exact hfits.congr rfl rfl rfl
    · have hne := seat_ne_of_mem_without hx
      exact (h.entries x (List.mem_filter.1 hx).1 fun hopen => hk ⟨hopen, hne⟩).congr rfl rfl rfl

theorem Coherent.reclamp (h : s.Coherent k) (n : SeatNo) :
    (s.reclamp n).Coherent { k with entry := fun m => k.entry m ∧ m ≠ n } := by
  cases he : s.entryOf n with
  | none =>
    have hsame : s.reclamp n = s := by rw [State.reclamp, he]
    rw [hsame]
    refine h.settleEntries fun e hin hk hP => absurd ⟨hk, fun hen => ?_⟩ hP
    have hlisted := (entryOf_isSome_iff s n).2 (hen ▸ List.mem_map_of_mem hin)
    rw [he] at hlisted
    cases hlisted
  | some e =>
    have hmem : e ∈ s.list.entries := List.mem_of_find?_eq_some he
    have hen : e.seat = n := by simpa using List.find?_some he
    have hfits : s.EntryFits (s.reclamped n e) := by
      subst hen
      exact ⟨rfl, rfl, rfl⟩
    rw [reclamp_of_entry h.list he]
    refine Coherent.tell ?_ (markMoved_frame _ _)
    unfold reclampedEntries
    split
    · next hlevel =>
      refine h.replaced n (f := fun _ => s.reclamped n e) (fun _ _ _ => hen) (fun x hx hxn => ?_) fun _ _ _ => hfits
      rw [List.inj_on_of_nodup_map h.list.2.1 hx hmem (hxn.trans hen.symm)]
      exact hlevel
    · subst hen
      exact h.placedAnew (e := s.reclamped e.seat e) (List.mem_map.2 ⟨e, hmem, rfl⟩) hfits

end State
end Sys2Proof.Machine
end

section
/-! PROOF. The floor invariant over the acts of a seat's report. -/

namespace Sys2Proof.Machine

namespace State

variable {k : Slack} {s t u : State} {n : SeatNo}

/-! ### One seat's record changed -/

/-- Only one seat's record and refusal timer change. -/
structure SeatChanged (n : SeatNo) (s t : State) : Prop where
  list : t.list = s.list
  channels : t.channels = s.channels
  order : t.grantOrder = s.grantOrder
  holders : t.holders = s.holders
  floor : t.floor = s.floor
  startUp : t.startUp = s.startUp
  classes : t.classes = s.classes
  seat : ∀ m, n ≠ m → t.seat m = s.seat m
  refusal : ∀ m, n ≠ m → t.refusalOf m = s.refusalOf m

theorem setSeat_changed (s : State) (n : SeatNo) (r : SeatRecord) : SeatChanged n s (s.setSeat n r) :=
  ⟨rfl, rfl, rfl, rfl, rfl, rfl, rfl, fun m hm => seat_setSeat_of_ne s n m r hm, fun _ _ => rfl⟩

theorem setDisplay_changed (s : State) (n : SeatNo) (f : SeatRun → SeatRun) (x : Option Nat) :
    SeatChanged n s ((s.updRun n f).setRefusal n x) :=
  ⟨rfl, rfl, rfl, rfl, rfl, rfl, rfl, fun m hm => seat_updRun_of_ne s n m f hm,
    fun m hm => by rw [refusalOf_setRefusal, if_neg hm]; rfl⟩

theorem Coherent.seatChanged (h : s.Coherent k) (g : SeatChanged n s t)
    (hstands : (t.seat n).run.floor = (s.seat n).run.floor ∧ (t.seat n).run.chan = (s.seat n).run.chan)
    (hfits : ∀ e ∈ s.list.entries, e.seat = n → ¬k.entry n → t.EntryFits e)
    (hshown : (t.seat n).run.refusalShown = (t.refusalOf n).isSome)
    (hpresent : (t.seat n).run.present = true → s.startUp.state = .recalling → (s.seat n).run.present = true)
    (habsent : (t.seat n).run.present = false → ((s.seat n).run.present = false ∨ (k.leaving n ∧ k.going n))
      ∧ (t.seat n).run.refusalShown = false ∧ (t.seat n).run.unitKind = none ∧ (t.seat n).run.mismatch = false
      ∧ (t.seat n).run.down1 = false ∧ (t.seat n).run.down2 = false ∧ (t.seat n).run.down3 = false)
    (hcls : ¬k.chair n → (s.seat n).cfg.cls = .chair → (t.seat n).cfg.cls = .chair) : t.Coherent k := by
  have hset : Resettled s t := by
    refine ⟨fun m => by rw [g.list], fun m => ?_, fun c => by rw [State.chan, g.channels]; rfl, g.order, g.holders, g.floor,
      g.startUp⟩
    by_cases hm : n = m
    · exact hm ▸ hstands
    · rw [g.seat m hm]
      exact ⟨rfl, rfl⟩
  refine h.resettle (P := k.entry) hset (by rw [ListOk, g.list]; exact h.list) (fun e he hk => ?_)
    ⟨fun m hm => ?_, fun m => ?_, fun hs m => ?_⟩ (fun m hm => ?_) fun m hk hm => ?_
  · rw [g.list] at he
    by_cases hen : n = e.seat
    · exact hfits e he hen.symm (hen ▸ hk)
    · exact (h.entries e he hk).congr (by rw [g.seat _ hen]) (by rw [g.seat _ hen]) g.classes
  · by_cases hnm : n = m
    · subst hnm
      exact (habsent hm).2
    · rw [g.seat m hnm] at hm ⊢
      exact h.records.absent m hm
  · by_cases hnm : n = m
    · subst hnm
      exact hshown
    · rw [g.seat m hnm, g.refusal m hnm]
      exact h.records.shown m
  · rw [g.startUp] at hs
    have hold := h.records.recalling hs m
    by_cases hnm : n = m
    · subst hnm
      exact eq_false_of_ne_true fun hp => by rw [hpresent hp hs] at hold; cases hold
    · rw [g.seat m hnm]
      exact hold
  · by_cases hnm : n = m
    · subst hnm
      exact (habsent hm).1
    · rw [g.seat m hnm] at hm
      exact .inl hm
  · by_cases hnm : n = m
    · subst hnm
      exact hcls hk hm
    · rw [g.seat m hnm]
      exact hm

/-- A PRESENT seat's record changed, but for what its entry, its place on the floor and its class rest on. -/
theorem Coherent.seatShown (h : s.Coherent k) (g : SeatChanged n s t) (hcfg : (t.seat n).cfg = (s.seat n).cfg)
    (hrun : (t.seat n).run.floor = (s.seat n).run.floor ∧ (t.seat n).run.chan = (s.seat n).run.chan
      ∧ (t.seat n).run.budget = (s.seat n).run.budget)
    (hshown : (t.seat n).run.refusalShown = (t.refusalOf n).isSome) (hpresent : (t.seat n).run.present = true)
    (hstart : s.startUp.state ≠ .recalling) : t.Coherent k := by
  obtain ⟨hfloor, hchan, hbudget⟩ := hrun
  refine h.seatChanged g ⟨hfloor, hchan⟩ (fun e he hen hk => ?_) hshown (fun _ hs => absurd hs hstart)
    (fun hno => ?_) fun _ hc => by rw [hcfg]; exact hc
  · subst hen
    exact (h.entries e he hk).congr hcfg hbudget g.classes
  · rw [hpresent] at hno
    cases hno

/-! ### A seat whose report is acted on -/

/-- A PRESENT seat in READY, in a state that keeps the floor invariant. -/
structure Heard (n : SeatNo) (s : State) : Prop where
  coherent : s.Coherent .strict
  present : (s.seat n).run.present = true
  ready : s.startUp.state = .ready

theorem Heard.key (h : Heard n s) (g : KeyFrame s t) (ht : t.Coherent .strict) : Heard n t :=
  ⟨ht, by rw [g.seat n]; exact h.present, by rw [g.startUp]; exact h.ready⟩

theorem Heard.not_recalling (h : Heard n s) : s.startUp.state ≠ .recalling := by rw [h.ready]; decide

theorem Heard.refuse (h : Heard n s) (r : Reason) : Heard n (s.refuse n r) := by
  refine h.key (refuse_keyFrame s n r) ?_
  refine Coherent.tell ?_ ((mark_frame _ n).trans (notice_frame ..))
  refine h.coherent.seatShown (setDisplay_changed s n _ _) ?_ ?_ ?_ ?_ h.not_recalling
  · simp
  · simp
  · simp
  · simpa using h.present

theorem Heard.endDisplay (h : Heard n s) : Heard n (s.endDisplay n) := by
  refine h.key (endDisplay_keyFrame s n) ?_
  unfold State.endDisplay
  split
  · refine Coherent.tell ?_ (mark_frame _ n)
    refine h.coherent.seatShown (setDisplay_changed s n _ _) ?_ ?_ ?_ ?_ h.not_recalling
    · simp
    · simp
    · simp
    · simpa using h.present
  · exact h.coherent

theorem SeatsOk.chan_of_idle (h : s.SeatsOk) (hn : (s.seat n).run.floor = .idle) : (s.seat n).run.chan = none :=
  ((h.idle_iff n).1 hn).2

theorem Coherent.handOn_strict (h : s.Coherent .strict) (n : SeatNo) : (s.handOn n).Coherent .strict :=
  h.handOn (fun _ => id) n

theorem Heard.newRequest (h : Heard n s) (x : RequestKind) (claimed : Level) (hidle : (s.seat n).run.floor = .idle) :
    Heard n (s.newRequest n x claimed) := by
  refine h.key (newRequest_keyFrame s n x claimed) ?_
  unfold State.newRequest
  dsimp only
  split
  · exact (h.refuse _).coherent
  · next hnone =>
    have hopen : s.floor ≠ .closed := fun hfloor => by simp [admissionRefusal, hfloor] at hnone
    have hroom : s.list.entries.length < 64 := by
      unfold admissionRefusal at hnone
      split_ifs at hnone with _ _ _ hfull
      exact Nat.lt_of_not_le hfull
    refine (Coherent.tell ?_ (notice_frame ..)).handOn_strict n
    exact h.coherent.insertBy placeEntry_placed hroom (h.coherent.seats.chan_of_idle hidle) h.present hopen h.ready rfl rfl

theorem Heard.upgrade (h : Heard n s) (claimed : Level) (hlisted : n ∈ s.list.entries.map Entry.seat) :
    Heard n (s.upgrade n claimed) := by
  refine h.key (upgrade_keyFrame s n claimed) ?_
  obtain ⟨e, he⟩ := Option.isSome_iff_exists.1 ((entryOf_isSome_iff s n).2 hlisted)
  have hmem : e ∈ s.list.entries := List.mem_of_find?_eq_some he
  have hen : e.seat = n := by simpa using List.find?_some he
  cases hbarred : (s.seat n).cfg.barred with
  | true =>
    rw [upgrade_of_barred claimed hbarred]
    exact (h.refuse .barred).coherent
  | false =>
    rw [upgrade_of_entry claimed he hbarred]
    dsimp only
    refine (Coherent.tell ?_ ((markMoved_frame _ _).trans (notice_frame ..))).handOn_strict n
    subst hen
    refine (h.coherent.placedAnew (e := { e with
      kind := .order, claimed := claimed, effective := effectiveLevel claimed ((s.seat e.seat).cfg.entitled .order)
      clamped := isClamped claimed ((s.seat e.seat).cfg.entitled .order), upgraded := true
      exhausted := s.isExhausted e.seat }) (List.mem_map.2 ⟨e, hmem, rfl⟩) ⟨rfl, rfl, rfl⟩).weaken (fun _ hx => hx.1)
        (fun _ => id) (fun _ => id) (fun _ => id) fun _ => id

theorem Heard.key1Act (h : Heard n s) (claimed : Level) : Heard n (s.key1Act n claimed) := by
  unfold State.key1Act
  dsimp only
  split
  · next hidle =>
    split
    · next hchair =>
      split
      · exact h.refuse _
      · exact h.key (chairGrant_grantFrame s n false).key
          (h.coherent.chairGrant (asHolder := false) (fun _ => id) n h.ready (fun hno => nomatch hno) hchair)
    · exact h.newRequest _ _ hidle
  · exact h.key (removeEntry_grantFrame s n _).key (h.coherent.removeEntry n _)
  · split
    · exact h.key (closeSeat_grantFrame s n _).key (h.coherent.closeSeat n _)
    · exact h

theorem Heard.key2Act (h : Heard n s) (claimed : Level) : Heard n (s.key2Act n claimed) := by
  unfold State.key2Act
  split
  · exact h.key1Act claimed
  · split
    · next hidle => exact h.newRequest _ _ hidle
    · next hwaiting =>
      split
      · exact h.upgrade claimed (((h.coherent.seats n).1).1 hwaiting)
      · exact h.key (removeEntry_grantFrame s n _).key (h.coherent.removeEntry n _)
      · exact h
    · exact h

theorem Heard.priorityKey (h : Heard n s) (down was : Bool) (hchair : (s.seat n).cfg.cls = .chair) :
    Heard n (s.priorityKey n down was) := by
  cases down with
  | false => exact h.key (leaveHolders_holdFrame s n).key (h.coherent.leaveHolders n fun _ => id)
  | true =>
    by_cases hin : n ∈ s.holders
    · rwa [priorityKey_of_holder was hin]
    cases hbarred : (s.seat n).cfg.barred with
    | true =>
      rw [priorityKey_of_barred was hin hbarred]
      split
      · exact h
      · exact h.refuse _
    | false =>
      have hframe := priorityKey_keyFrame s n true was
      rw [priorityKey_of_down was hin hbarred] at hframe ⊢
      have hgranted : GrantFrame s (if (s.seat n).run.floor = .speaking then s else s.chairGrant n true)
          ∧ (if (s.seat n).run.floor = .speaking then s else s.chairGrant n true).Coherent
            { Slack.strict with joining := (· = n) } := by
        have hloose : s.Coherent { Slack.strict with joining := (· = n) } :=
          h.coherent.weaken (fun _ => id) (fun _ => id) (fun _ => id) (fun _ => id) fun _ => False.elim
        split
        · exact ⟨.refl s, hloose⟩
        · exact ⟨chairGrant_grantFrame s n true, hloose.chairGrant (fun _ => id) n h.ready (fun _ => rfl) hchair⟩
      obtain ⟨hgrant, hc⟩ := hgranted
      refine h.key hframe (hc.joinHolders n (fun m hm => ⟨hm, ?_⟩) ?_ ?_ ?_)
      · rwa [hgrant.holders]
      · rw [hgrant.frame.startUp]
        exact h.ready
      · rw [hgrant.present]
        exact h.present
      · rw [hgrant.frame.cfg]
        exact hchair

theorem Heard.chairNext (h : Heard n s) : Heard n (s.chairNext n) := by
  refine h.key (chairNext_keyFrame s n) ?_
  unfold State.chairNext
  split
  · exact (h.refuse _).coherent
  · exact h.coherent.next

theorem Heard.opt {p : Prop} [Decidable p] (ht : p → Heard n t) (hu : ¬p → Heard n u) : Heard n (if p then t else u) := by
  split
  · next hp => exact ht hp
  · next hp => exact hu hp

theorem Heard.mark (h : Heard n s) : Heard n (s.mark n) :=
  h.key (mark_grantFrame s n).key (h.coherent.tell (mark_frame s n))

theorem Heard.takeActs (h : Heard n s) (r : Report) (d1 d2 d3 : BitVec 4) (was : Bool) :
    Heard n (s.takeActs n r d1 d2 d3 was) := by
  have hmark (b : Bool) : Heard n (if b then s.mark n else s) ∧ KeyFrame s (if b then s.mark n else s) :=
    ⟨.opt (fun _ => h.mark) fun _ => h, .opt (mark_grantFrame s n).key (.refl s)⟩
  have hkey1 {u : State} (hu : Heard n u ∧ KeyFrame s u) (b : Bool) :
      Heard n (if b then (u.endDisplay n).key1Act n r.claimed else u)
        ∧ KeyFrame s (if b then (u.endDisplay n).key1Act n r.claimed else u) :=
    ⟨.opt (fun _ => hu.1.endDisplay.key1Act _) fun _ => hu.1,
      .opt (hu.2.trans ((u.endDisplay_keyFrame n).trans (key1Act_keyFrame ..))) hu.2⟩
  have hkey2 {u : State} (hu : Heard n u ∧ KeyFrame s u) (b : Bool) :
      Heard n (if (s.seat n).cfg.cls = .chair then u.priorityKey n r.down2 was
        else if b then (u.endDisplay n).key2Act n r.claimed else u) :=
    .opt (fun hchair => hu.1.priorityKey _ _ (by rw [hu.2.seat n]; exact hchair)) fun _ =>
      .opt (fun _ => hu.1.endDisplay.key2Act _) fun _ => hu.1
  have hkey3 {u : State} (hu : Heard n u) (b : Bool) : Heard n (if b then (u.endDisplay n).chairNext n else u) :=
    .opt (fun _ => hu.endDisplay.chairNext) fun _ => hu
  exact hkey3 (hkey2 (hkey1 (hmark _) _) _) _

/-! ### Reports -/

theorem recordReport_changed (s : State) (n : SeatNo) (r : Report) : SeatChanged n s (s.recordReport n r) :=
  setSeat_changed s n _

theorem Coherent.recordReport (h : s.Coherent k) (n : SeatNo) (r : Report) (hstart : s.startUp.state ≠ .recalling) :
    (s.recordReport n r).Coherent k := by
  have hseat : (s.recordReport n r).seat n = _ := seat_updRun_self ..
  refine h.seatShown (recordReport_changed s n r) ?_ ?_ ?_ ?_ hstart
  · rw [hseat]
  · rw [hseat]
    exact ⟨rfl, rfl, rfl⟩
  · rw [hseat]
    exact h.records.shown n
  · rw [hseat]

theorem Coherent.becomePresent (h : s.Coherent .strict) (n : SeatNo) (r : Report) (hstart : s.startUp.state ≠ .recalling) :
    (s.becomePresent n r).Coherent .strict := by
  unfold State.becomePresent
  have hrecorded := h.recordReport n r hstart
  have hpresent : ((s.recordReport n r).seat n).run.present = true :=
    congrArg (fun x => x.run.present) (seat_updRun_self ..)
  generalize ht : s.recordReport n r = t at *
  have hsame : t.startUp = s.startUp := by rw [← ht]; rfl
  refine Coherent.tell ?_ ((mark_frame _ n).trans (notice_frame ..))
  split
  · next hkey =>
    rw [Bool.and_eq_true, decide_eq_true_iff, bne_iff_ne] at hkey
    obtain ⟨hchair, hroll⟩ := hkey
    have hready : t.startUp.state = .ready := by
      rw [hsame] at hroll ⊢
      cases hs : s.startUp.state with
      | ready => rfl
      | rollCall => exact absurd hs hroll
      | recalling => exact absurd hs hstart
    exact (Heard.priorityKey ⟨hrecorded, hpresent, hready⟩ r.down2 false hchair).coherent
  · exact hrecorded

theorem Coherent.ordinaryReport (h : s.Coherent .strict) (n : SeatNo) (r : Report) (hstart : s.startUp.state ≠ .recalling) :
    (s.ordinaryReport n r).Coherent .strict := by
  unfold State.ordinaryReport
  have hrecorded := h.recordReport n r hstart
  have hpresent : ((s.recordReport n r).seat n).run.present = true :=
    congrArg (fun x => x.run.present) (seat_updRun_self ..)
  dsimp only
  split
  · next hready => exact (Heard.takeActs ⟨hrecorded, hpresent, hready⟩ ..).coherent
  · exact hrecorded

end State
end Sys2Proof.Machine
end

section
/-! PROOF. The floor invariant over the absence cascade. -/

namespace Sys2Proof.Machine

namespace State

variable {k : Slack} {s t u : State} {n : SeatNo}

/-! ### A seat whose channel closes -/

/-- The fill rule grants to listed seats only. -/
theorem fillRule_seat_of_unlisted (hn : n ∉ s.list.entries.map Entry.seat) : s.fillRule.seat n = s.seat n := by
  have loop (j : Nat) : ∀ s : State, n ∉ s.list.entries.map Entry.seat → (s.fillLoop j).seat n = s.seat n := by
    induction j with
    | zero => exact fun _ _ => rfl
    | succ j ih =>
      intro s hn
      obtain ⟨hsame, -⟩ | ⟨e, -, -, he, hstep⟩ := fillLoop_succ j s
      · rw [hsame]
      · have hne : e.seat ≠ n := fun hen => hn (hen ▸ List.mem_map_of_mem (firstEligible_mem he))
        have hentries := (grant_serves s e.seat e.kind.turn e.effective false).entries.map Entry.seat
        rw [hstep, ih _ fun hin => hn (hentries.subset hin)]
        obtain ⟨-, hsame⟩ | ⟨c, hc, -, hseat, -⟩ := s.grant_cases e.seat e.kind.turn e.effective false
        · rw [hsame]
        · rw [hseat, if_neg hne]
  unfold State.fillRule
  split
  · exact loop 16 s hn
  · rfl

theorem Coherent.closeSeat_seat (h : s.Coherent k) (r : Reason) {c : ChanNo} (hc : (s.seat n).run.chan = some c) :
    (s.closeSeat n r).seat n = (s.closeChannel c n r).seat n := by
  obtain ⟨hbusy, hnamed⟩ := h.seats.chan_named hc
  have hcan := (s.canClose_iff c n).2 ⟨(Channel.busy_iff _).1 hbusy, hnamed⟩
  unfold State.closeSeat
  rw [hc]
  dsimp only
  rw [State.closeAndFill, if_pos hcan, fillRule_seat_of_unlisted]
  rw [closeChannel_list]
  exact h.seats.unlisted_of_chan hc

theorem Coherent.closeSeat_off (h : s.Coherent k) (n : SeatNo) (r : Reason) :
    ((s.closeSeat n r).seat n).run.chan = none := by
  cases hc : (s.seat n).run.chan with
  | none =>
    unfold State.closeSeat
    rw [hc]
    exact hc
  | some c =>
    obtain ⟨hbusy, hnamed⟩ := h.seats.chan_named hc
    obtain ⟨-, -, hseat⟩ := s.closeChannel_taken c n r ((s.canClose_iff c n).2 ⟨(Channel.busy_iff _).1 hbusy, hnamed⟩)
    rw [h.closeSeat_seat r hc, hseat, if_pos rfl]

/-! ### The cascade -/

/-- The slack of a cascade in progress: the seats of a group may still hold channels. -/
def Slack.awaiting (k : Slack) (l : List SeatNo) : Slack := { k with leaving := fun m => k.leaving m ∨ m ∈ l }

theorem Coherent.goAbsent (h : s.Coherent k) (hj : ∀ m, ¬k.joining m) (n : SeatNo) :
    (s.goAbsent n).Coherent (k.awaiting [n]) := by
  have hloose : s.Coherent { k.awaiting [n] with going := fun m => k.going m ∨ m = n } :=
    h.weaken (fun _ => id) (fun _ => id) (fun _ => .inl) (fun _ => .inl) fun _ => id
  unfold State.goAbsent
  dsimp only
  have hshown := hloose.seatChanged (setDisplay_changed s n (fun r => { r with
    present := false, unitKind := none, mismatch := false, down1 := false, down2 := false, down3 := false
    refusalShown := false }) none) (by simp) (fun e he hen hk => ?_) (by simp) (by simp)
    (fun _ => ⟨.inr ⟨.inr (List.mem_singleton.2 rfl), .inr rfl⟩, by simp⟩) (by simp)
  · generalize (s.updRun n _).setRefusal n none = t at *
    have hleft := (hshown.leaveHolders n hj).removeEntry n .absent
    refine hleft.settleGoing (P := k.going) fun m hm hk => ?_
    obtain rfl := hm.resolve_left hk
    constructor
    · rw [removeEntry_entries, mem_seats_without]
      exact fun hin => hin.1 rfl
    · rw [(removeEntry_grantFrame _ m _).holders, mem_leaveHolders hshown.sorted]
      exact fun hin => hin.1 rfl
  · subst hen
    exact (h.entries e he hk).congr (by simp) (by simp) rfl

theorem Coherent.foldl_goAbsent (hj : ∀ m, ¬k.joining m) (l : List SeatNo) (h : s.Coherent k) :
    (l.foldl (fun s n => s.goAbsent n) s).Coherent (k.awaiting l) := by
  induction l generalizing s k with
  | nil => exact h.weaken (fun _ => id) (fun _ => id) (fun _ => .inl) (fun _ => id) fun _ => id
  | cons n l ih =>
    refine (ih (k := k.awaiting [n]) hj (h.goAbsent hj n)).weaken (fun _ => id) (fun _ => id) (fun m hm => ?_)
      (fun _ => id) fun _ => id
    obtain (hm | hm) | hm := hm
    · exact .inl hm
    · exact .inr (List.mem_singleton.1 hm ▸ List.mem_cons_self)
    · exact .inr (List.mem_cons_of_mem _ hm)

theorem Coherent.foldl_closeSeat (r : Reason) (l : List SeatNo) (h : s.Coherent (k.awaiting l)) :
    (l.foldl (fun s n => s.closeSeat n r) s).Coherent k := by
  induction l generalizing s with
  | nil => exact h.weaken (fun _ => id) (fun _ => id) (fun _ hm => hm.elim id fun hm => nomatch hm) (fun _ => id) fun _ => id
  | cons n l ih =>
    have hstep : (s.closeSeat n r).Coherent (k.awaiting l) := by
      have hclosed := h.closeSeat n r
      refine hclosed.settleLeaving (P := fun m => k.leaving m ∨ m ∈ l) fun m hm hk => ?_
      obtain hm | hm := hm
      · exact absurd (.inl hm) hk
      · obtain rfl | hm := List.mem_cons.1 hm
        · exact h.closeSeat_off m r
        · exact absurd (.inr hm) hk
    exact ih hstep

theorem Coherent.cascade (h : s.Coherent k) (hj : ∀ m, ¬k.joining m) (group : List SeatNo) :
    (s.cascade group).Coherent k := by
  unfold State.cascade
  dsimp only
  refine Coherent.tell ?_ (markAll_frame _ group)
  have htold (l : List SeatNo) (t : State) (ht : t.Coherent k) :
      (l.foldl (fun s n => s.notice .seatAbsent (some n) none none) t).Coherent k := by
    induction l generalizing t with
    | nil => exact ht
    | cons n l ih => exact ih _ (ht.tell (notice_frame ..))
  exact htold group _ (Coherent.foldl_closeSeat .seatLost group (h.foldl_goAbsent hj group))

theorem Coherent.foldl_cascade (hj : ∀ m, ¬k.joining m) (l : List SeatNo) (h : s.Coherent k) :
    (l.foldl (fun s n => s.cascade [n]) s).Coherent k := by
  induction l generalizing s with
  | nil => exact h
  | cons n l ih => exact ih (h.cascade hj [n])

theorem Coherent.expireOverdue (h : s.Coherent k) (hj : ∀ m, ¬k.joining m) (before : Nat) :
    (s.expireOverdue before).Coherent k := by
  unfold State.expireOverdue
  split
  · exact h.foldl_cascade hj _
  · exact h

theorem Coherent.takeReport (h : s.Coherent .strict) (n : SeatNo) (r : Report) : (s.takeReport n r).Coherent .strict := by
  unfold State.takeReport
  split
  · exact h
  · next hstart =>
    split
    · exact h.becomePresent n r hstart
    · split
      · refine (h.cascade (fun _ => id) [n]).becomePresent n r ?_
        rw [(cascade_frame s [n]).startUp]
        exact hstart
      · exact h.ordinaryReport n r hstart

end State
end Sys2Proof.Machine
end

section
/-! PROOF. The floor invariant over the writes of the branch and floor records, the floor state, budgets and classes. -/

namespace Sys2Proof.Machine

namespace State

variable {k : Slack} {s t u : State} {n : SeatNo}

/-! ### Parts of the state the invariant does not read -/

theorem SameView.of_eq (hentries : t.list.entries = s.list.entries) (hseats : t.seats = s.seats)
    (hrefusal : t.refusal = s.refusal) (hchannels : t.channels = s.channels) (horder : t.grantOrder = s.grantOrder)
    (hholders : t.holders = s.holders) (hfloor : t.floor = s.floor) (hclasses : t.classes = s.classes)
    (hstart : t.startUp.state = s.startUp.state) : SameView s t :=
  ⟨hentries, fun n => by rw [State.seat, hseats]; rfl, fun n => by rw [State.seat, hseats]; rfl,
    fun n => by rw [refusalOf, hrefusal]; rfl, fun c => by rw [State.chan, hchannels]; rfl, horder, hholders, hfloor,
    hclasses, hstart⟩

theorem Coherent.withFloorCfg (h : s.Coherent k) (f : FloorConfig) : (s.withFloorCfg f).Coherent k :=
  h.view (.of_eq rfl rfl rfl rfl rfl rfl rfl rfl rfl)

theorem Coherent.withUplink (h : s.Coherent k) (x : UplinkPort) : (s.withUplink x).Coherent k :=
  h.view (.of_eq rfl rfl rfl rfl rfl rfl rfl rfl rfl)

theorem Coherent.withProfile (h : s.Coherent k) (x : Profile) : (s.withProfile x).Coherent k :=
  h.view (.of_eq rfl rfl rfl rfl rfl rfl rfl rfl rfl)

theorem Coherent.setRestraint (h : s.Coherent k) (r : Bool) : (s.setRestraint r).Coherent k := by
  unfold State.setRestraint
  split
  · exact h
  · refine Coherent.tell ?_ (notice_frame ..)
    exact h.view (.of_eq rfl rfl rfl rfl rfl rfl rfl rfl rfl)

theorem prune_view (s : State) : SameView s s.prune := .of_eq rfl rfl rfl rfl rfl rfl rfl rfl rfl

/-! ### The branch and floor records -/

theorem Coherent.writeBranch (h : s.Coherent k) (hj : ∀ m, ¬k.joining m) (b : BranchId) (r : BranchRecord) :
    (s.writeBranch b r).Coherent k := by
  have hstored : (s.setBranch b r).Coherent k := h.view (.of_eq rfl rfl rfl rfl rfl rfl rfl rfl rfl)
  rw [writeBranch_eq]
  exact (hstored.view (prune_view _)).cascade hj _

theorem Coherent.takeMode (h : s.Coherent k) (x : Mode) : (s.takeMode x).Coherent k := (h.withFloorCfg _).fillRule

theorem Coherent.takeGate (h : s.Coherent k) (x : Level) : (s.takeGate x).Coherent k := (h.withFloorCfg _).fillRule

theorem Coherent.takeLimit (h : s.Coherent k) (x : Nat) : (s.takeLimit x).Coherent k := by
  unfold State.takeLimit
  dsimp only
  split
  · exact (h.withFloorCfg _).fillRule
  · exact h.withFloorCfg _

theorem Coherent.takeShowBudget (h : s.Coherent k) (v : Bool) : (s.takeShowBudget v).Coherent k := by
  unfold State.takeShowBudget
  split
  · exact h
  · exact (h.withFloorCfg _).tell (markAll_frame _ _)

theorem Coherent.opt {p : Prop} [Decidable p] (ht : t.Coherent k) (hu : u.Coherent k) : (if p then t else u).Coherent k := by
  split
  · exact ht
  · exact hu

theorem Coherent.writeFloor (h : s.Coherent k) (hj : ∀ m, ¬k.joining m) (f : FloorConfig) : (s.writeFloor f).Coherent k := by
  rw [writeFloor_eq]
  have hmode : (modeTaken f s).Coherent k := .opt h (h.takeMode _)
  have hlimit : (limitTaken f (modeTaken f s)).Coherent k := .opt hmode (hmode.takeLimit _)
  have hgate : (gateTaken f (limitTaken f (modeTaken f s))).Coherent k := .opt hlimit (hlimit.takeGate _)
  have hmarks : (marksTaken f (gateTaken f (limitTaken f (modeTaken f s)))).Coherent k :=
    ((hgate.withFloorCfg _).setRestraint _).withFloorCfg _
  exact (((hmarks.withFloorCfg _).expireOverdue hj _).takeShowBudget _).withFloorCfg _

/-! ### Budgets -/

/-- Every entry's EXHAUSTED flag as the budgets and the class records stand now; the budgets may have changed. -/
structure Refreshed (s t : State) : Prop where
  entries : t.list.entries = s.list.entries.map fun e => { e with exhausted := t.isExhausted e.seat }
  seat : ∀ n : SeatNo, t.seat n = ⟨(s.seat n).cfg, { (s.seat n).run with budget := (t.seat n).run.budget }⟩
  refusal : t.refusal = s.refusal
  chan : ∀ c : ChanNo, t.chan c = s.chan c
  order : t.grantOrder = s.grantOrder
  holders : t.holders = s.holders
  floor : t.floor = s.floor
  startUp : t.startUp = s.startUp

theorem Coherent.refreshed (h : s.Coherent k) (hk : ∀ n, ¬k.entry n) (g : Refreshed s t) : t.Coherent k := by
  have hseats : t.list.entries.map Entry.seat = s.list.entries.map Entry.seat := by
    rw [g.entries, List.map_map]
    rfl
  obtain ⟨hlength, hnodup, hsorted⟩ := h.list
  refine h.resettle (P := k.entry) ⟨fun m => by rw [hseats], fun m => by rw [g.seat m]; exact ⟨rfl, rfl⟩, g.chan, g.order,
    g.holders, g.floor, g.startUp⟩ ⟨?_, ?_, ?_⟩ (fun x hx _ => ?_) ⟨fun m hm => ?_, fun m => ?_, fun hs m => ?_⟩
    (fun m hm => ?_) fun m _ hm => ?_
  · rwa [g.entries, List.length_map]
  · rwa [hseats]
  · rw [g.entries, List.pairwise_map]
    exact hsorted
  · rw [g.entries] at hx
    obtain ⟨e, he, rfl⟩ := List.mem_map.1 hx
    obtain ⟨heff, hclamped, -⟩ := h.entries e he (hk _)
    have hcfg : (t.seat e.seat).cfg = (s.seat e.seat).cfg := by rw [g.seat]
    rw [← hcfg] at heff hclamped
    exact ⟨heff, hclamped, rfl⟩
  · rw [g.seat m] at hm ⊢
    exact h.records.absent m hm
  · rw [g.seat m, refusalOf, g.refusal]
    exact h.records.shown m
  · rw [g.startUp] at hs
    rw [g.seat m]
    exact h.records.recalling hs m
  · rw [g.seat m] at hm
    exact .inl hm
  · rw [g.seat m]
    exact hm

theorem Coherent.initialBudgets (h : s.Coherent k) (hk : ∀ n, ¬k.entry n) : s.initialBudgets.Coherent k := by
  rw [initialBudgets_eq]
  have hset : Refreshed s s.budgetsSet :=
    ⟨rfl, fun n => by rw [seat_budgetsSet], rfl, fun _ => rfl, rfl, rfl, rfl, rfl⟩
  exact (h.refreshed hk hset).tell (markAll_frame _ _)

/-! ### Class records -/

theorem Coherent.setClass (h : s.Coherent k) (hk : ∀ n, ¬k.entry n) (c : SeatClass) (r : ClassRecord)
    (hsame : r.enforced = (s.classes.record c).enforced) : (s.setClass c r).Coherent k := by
  refine h.resettle (P := k.entry) ⟨fun _ => Iff.rfl, fun _ => ⟨rfl, rfl⟩, fun _ => rfl, rfl, rfl, rfl, rfl⟩ h.list
    (fun e he _ => ?_) ⟨h.records.absent, h.records.shown, h.records.recalling⟩ (fun _ hm => .inl hm) fun _ _ hm => hm
  obtain ⟨heff, hclamped, hexhausted⟩ := h.entries e he (hk _)
  refine ⟨heff, hclamped, hexhausted.trans ?_⟩
  have happlies : (s.setClass c r).applies e.seat = s.applies e.seat := by
    change budgetApplies (s.setClass c r).classes (s.seat e.seat).cfg = budgetApplies s.classes (s.seat e.seat).cfg
    unfold budgetApplies
    rw [setClass_record]
    split
    · next hcls => rw [hcls, hsame]
    · rfl
  unfold isExhausted
  rw [happlies]
  rfl

theorem Coherent.writeClass (h : s.Coherent k) (hk : ∀ n, ¬k.entry n) (c : SeatClass) (r : ClassRecord) :
    (s.writeClass c r).Coherent k := by
  by_cases hsame : r.enforced = (s.classes.record c).enforced
  · rw [writeClass_of_same hsame]
    exact h.setClass hk c r hsame
  · rw [writeClass_of_changed hsame, classWritten]
    have hentries := classEntries_eq (c := c) (r := r) fun e he => h.entries e he (hk _)
    have hset : Refreshed s ((s.setClass c r).withList { s.list with entries := s.classEntries c r }) :=
      ⟨hentries, fun _ => rfl, rfl, fun _ => rfl, rfl, rfl, rfl, rfl⟩
    exact ((h.refreshed hk hset).tell (markAll_frame _ _)).fillRule

/-! ### The floor state -/

/-- Opening a CLOSED floor (R99, R112). -/
theorem Coherent.opened (h : s.Coherent k) (hfloor : s.floor = .closed) (hready : s.startUp.state = .ready) :
    (s.withFloor .opened).Coherent k :=
  { h with
    suspend := fun c hc => by
      refine iff_of_false (fun hs => ?_) fun hx => nomatch hx.1
      have hnot := ((h.suspend c hc).1 hs).1
      rw [hfloor] at hnot
      cases hnot
    closedList := fun hno => nomatch hno
    closedChan := fun hno => nomatch hno
    still := fun hs => absurd hready hs
    records := ⟨h.records.absent, h.records.shown, h.records.recalling⟩ }

theorem Coherent.reload (h : s.Coherent k) (hk : ∀ n, ¬k.entry n) : s.reload.fillRule.Coherent k :=
  (h.initialBudgets hk).fillRule

theorem keptOpen_iff {c : ChanNo} : s.keptOpen c = true ↔
    (s.chan c).kind = some .chair ∧ ∃ n, (s.chan c).seat = some n ∧ (s.seat n).cfg.cls = .chair := by
  rw [keptOpen, Bool.and_eq_true, beq_iff_eq]
  refine and_congr_right fun _ => ?_
  cases (s.chan c).seat with
  | none => simp
  | some n => simp

/-- CLOSE FLOOR keeps only chair channels of CHAIR seats, and empties the list (R113). -/
theorem FloorOk.floorClosed (h : s.FloorOk) : s.floorClosed.Coherent .strict := by
  have hc := h.coherent
  have hframe := floorClosed_frame h
  have hchan := floorClosed_chan h
  have horder := floorClosed_grantOrder h
  have hentries : s.floorClosed.list.entries = [] := by rw [floorClosed_list h]
  have hheld {n : SeatNo} {c : ChanNo} := floorClosed_seat_of_held h (n := n) (c := c)
  have hoff {n : SeatNo} := floorClosed_seat_of_off h (n := n)
  have hfloor : s.floorClosed.floor = .closed := hframe.floor
  have hholders : s.floorClosed.holders = s.holders := hframe.holders
  have hpresent (n : SeatNo) : (s.floorClosed.seat n).run.present = (s.seat n).run.present := hframe.present n
  have hcfg (n : SeatNo) : (s.floorClosed.seat n).cfg = (s.seat n).cfg := hframe.frame.cfg n
  have hstart : s.floorClosed.startUp = s.startUp := hframe.frame.startUp
  have hrecords : s.floorClosed.RecordsOk :=
    hframe.frame.records ⟨hc.records.absent, hc.records.shown, hc.records.recalling⟩
  generalize s.floorClosed = t at *
  have hbusy {c : ChanNo} (hb : (t.chan c).busy = true) : s.keptOpen c = true ∧ t.chan c = s.chan c := by
    rw [hchan] at hb ⊢
    split at hb
    · next hkept => exact ⟨hkept, if_pos hkept⟩
    · cases hb
  have hkept {c : ChanNo} (hk : s.keptOpen c = true) : (s.chan c).busy = true := by
    obtain ⟨-, n, hn, -⟩ := keptOpen_iff.1 hk
    exact hc.channels.named hn
  have hseat (n : SeatNo) : (t.seat n).run.floor ≠ .waiting ∧ (∀ c, (t.seat n).run.chan = some c ↔
        (s.seat n).run.chan = some c ∧ s.keptOpen c = true)
      ∧ ((t.seat n).run.floor = .speaking ↔ (t.seat n).run.chan.isSome = true) := by
    cases hn : (s.seat n).run.chan with
    | none =>
      rw [hoff hn, hn]
      simp
    | some c =>
      by_cases hk : s.keptOpen c = true
      · have hspeaking : (s.seat n).run.floor = .speaking := (hc.seats n).2.2.2 (by rw [hn]; rfl)
        rw [hheld hn, if_pos hk, hspeaking, hn]
        refine ⟨by decide, fun d => ⟨fun hd => ⟨hd, Option.some.inj hd ▸ hk⟩, fun hd => hd.1⟩, by simp⟩
      · rw [hheld hn, if_neg hk, turnEnded]
        refine ⟨(fun hx => nomatch hx), fun d => iff_of_false (fun hx => nomatch hx) fun hd => hk ?_, by simp⟩
        exact Option.some.inj hd.1 ▸ hd.2
  exact {
    list := by rw [ListOk, hentries]; exact ⟨by decide, .nil, .nil⟩
    entries := fun e he => by rw [hentries] at he; cases he
    seats := fun n => by
      obtain ⟨hwaiting, hheldBy, hspeaking⟩ := hseat n
      refine ⟨iff_of_false hwaiting (by rw [hentries]; simp), fun c => ?_, hspeaking⟩
      rw [hheldBy, (hc.seats n).2.1]
      constructor
      · rintro ⟨⟨hb, hn⟩, hk⟩
        rw [hchan, if_pos hk]
        exact ⟨hb, hn⟩
      · rintro ⟨hb, hn⟩
        obtain ⟨hk, hsame⟩ := hbusy hb
        rw [hsame] at hb hn
        exact ⟨⟨hb, hn⟩, hk⟩
    channels := fun c => by
      rw [hchan]
      split
      · exact hc.channels c
      · exact ⟨fun _ => ⟨rfl, rfl, rfl, rfl⟩, fun hb => nomatch hb⟩
    order := by
      rw [GrantOrderOk, horder]
      refine ⟨hc.order.1.filter _, fun c => ?_⟩
      rw [List.mem_filter, hc.order.2]
      refine ⟨fun hk => by rw [hchan, if_pos hk.2]; exact hk.1, fun hb => ?_⟩
      obtain ⟨hk, -⟩ := hbusy hb
      exact ⟨hkept hk, hk⟩
    records := hrecords
    absentChan := fun n hn hl => by
      rw [hpresent] at hn
      rw [hoff (hc.absentChan n hn hl)]
      exact hc.absentChan n hn hl
    absentList := fun n hn hg => by
      rw [hpresent] at hn
      rw [hentries, hholders]
      exact ⟨List.not_mem_nil, (hc.absentList n hn hg).2⟩
    sorted := by rw [hholders]; exact hc.sorted
    chairs := fun n hn hk => by rw [hcfg]; exact hc.chairs n (hholders ▸ hn) hk
    priority := fun c hb => by
      obtain ⟨-, hsame⟩ := hbusy hb
      rw [hsame] at hb ⊢
      rw [hholders]
      exact hc.priority c hb
    suspend := fun c hb => by
      obtain ⟨hk, hsame⟩ := hbusy hb
      rw [hsame] at hb ⊢
      rw [hfloor]
      refine iff_of_false (fun hs => ?_) fun hx => nomatch hx.1
      exact ((hc.suspend c hb).1 hs).2 (keptOpen_iff.1 hk).1
    closedList := fun _ => hentries
    closedChan := fun _ c hb => by
      obtain ⟨hk, hsame⟩ := hbusy hb
      obtain ⟨hkind, n, hn, hchair⟩ := keptOpen_iff.1 hk
      rw [hsame]
      refine ⟨hkind, fun m hm _ => ?_⟩
      obtain rfl := Option.some.inj (hn.symm.trans hm)
      rw [hcfg]
      exact hchair
    still := fun hs => by
      rw [hstart] at hs
      obtain ⟨-, hnone, hidle⟩ := hc.still hs
      refine ⟨hfloor, hholders.trans hnone, fun c => eq_false_of_ne_true fun hb => ?_⟩
      obtain ⟨-, hsame⟩ := hbusy hb
      rw [hsame, hidle c] at hb
      cases hb }

end State
end Sys2Proof.Machine
end

section
/-! PROOF. The floor invariant over the writes of a seat's record and of its flags. -/

namespace Sys2Proof.Machine

namespace State

variable {k : Slack} {s t u : State} {n : SeatNo}

/-! ### BARRED -/

theorem Coherent.barSeat (h : s.Coherent k) (n : SeatNo) : (s.barSeat n).Coherent k := by
  unfold State.barSeat
  split
  · exact h.removeEntry n _
  · exact h.closeSeat n _
  · exact h

theorem barSeat_grantFrame (s : State) (n : SeatNo) : GrantFrame s (s.barSeat n) := by
  unfold State.barSeat
  split
  · exact removeEntry_grantFrame ..
  · exact closeSeat_grantFrame ..
  · exact .refl s

/-- A newly BARRED seat is off the floor and out of the list (R162, R166). -/
theorem Coherent.barSeat_off (h : s.Coherent k) (n : SeatNo) :
    n ∉ (s.barSeat n).list.entries.map Entry.seat ∧ ((s.barSeat n).seat n).run.chan = none := by
  obtain ⟨hwaiting, -, hspeaking⟩ := h.seats n
  unfold State.barSeat
  split
  · next hfloor =>
    rw [removeEntry_entries, mem_seats_without]
    refine ⟨fun hin => hin.1 rfl, ?_⟩
    have hlisted := hwaiting.1 hfloor
    rw [removeEntry_seat, (entryOf_isSome_iff s n).2 hlisted, if_pos ⟨rfl, rfl⟩]
  · next hfloor =>
    have hoff := h.closeSeat_off n .barred
    obtain ⟨c, hc⟩ := Option.isSome_iff_exists.1 (hspeaking.1 hfloor)
    have hclosed := (h.closeSeat n .barred).seats n
    refine ⟨fun hin => ?_, hoff⟩
    obtain ⟨hbusy, hnamed⟩ := h.seats.chan_named hc
    obtain ⟨-, -, hseat⟩ := s.closeChannel_taken c n .barred
      ((s.canClose_iff c n).2 ⟨(Channel.busy_iff _).1 hbusy, hnamed⟩)
    have hidle := hclosed.1.2 hin
    rw [h.closeSeat_seat .barred hc, hseat, if_pos rfl] at hidle
    cases hidle
  · next hfloor =>
    have hidle := (h.seats.idle_iff n).1 hfloor
    exact hidle

theorem Coherent.barSeat_idle (h : s.Coherent k) (n : SeatNo) : ((s.barSeat n).seat n).run.floor = .idle :=
  ((h.barSeat n).seats.idle_iff n).2 (h.barSeat_off n)

/-! ### The class of a seat -/

/-- A seat that was a CHAIR seat and is one no longer. -/
def Slack.deposed (k : Slack) (n : SeatNo) (before now : SeatClass) : Slack :=
  { k with chair := fun m => m = n ∧ before = .chair ∧ now ≠ .chair }

/-- The unit mismatch under a class given (R12, R162). -/
theorem Coherent.mismatchSet (h : s.Coherent k) (n : SeatNo) (now : SeatClass) :
    (s.updRun n fun r => { r with mismatch := mismatchOf r.unitKind now }).Coherent k := by
  refine h.seatChanged (setSeat_changed s n _) (by simp) (fun e he hen hk => ?_) ?_ (fun hp _ => by simpa using hp)
    (fun hn => ?_) (by simp)
  · subst hen
    exact (h.entries e he hk).congr (by simp) (by simp) rfl
  · simpa using h.records.shown n
  · have hold : (s.seat n).run.present = false := by simpa using hn
    obtain ⟨hshown, hunit, hmis, hdown⟩ := h.records.absent n hold
    refine ⟨.inl hold, ?_⟩
    simp only [updRun, seat_setSeat_self]
    exact ⟨hshown, hunit, by rw [hunit]; rfl, hdown⟩

theorem Coherent.classConsequences {before : SeatClass} (h : s.Coherent (Slack.strict.deposed n before (s.seat n).cfg.cls)) :
    (s.classConsequences n before).Coherent .strict := by
  have hmismatch := h.mismatchSet n (s.seat n).cfg.cls
  have hclass : ((s.updRun n fun r => { r with mismatch := mismatchOf r.unitKind (s.seat n).cfg.cls }).seat n).cfg.cls =
      (s.seat n).cfg.cls := by simp
  unfold State.classConsequences
  dsimp only
  generalize (s.seat n).cfg.cls = now at *
  generalize (s.updRun n fun r => { r with mismatch := mismatchOf r.unitKind now }) = t at *
  have hleft : (if before = .chair then t.leaveHolders n else t).Coherent (Slack.strict.deposed n before now) :=
    .opt (hmismatch.leaveHolders n fun _ => id) hmismatch
  have hframe : HoldFrame t (if before = .chair then t.leaveHolders n else t) := by
    split
    · exact leaveHolders_holdFrame ..
    · exact .refl t
  have hout : before = .chair → n ∉ (if before = .chair then t.leaveHolders n else t).holders := fun hb => by
    rw [if_pos hb, mem_leaveHolders hmismatch.sorted]
    exact fun hin => hin.1 rfl
  generalize (if before = .chair then t.leaveHolders n else t) = v at *
  have hclosed : (if (before = .chair && v.floor == .closed) = true then v.closeSeat n .floorClosed else v).Coherent
      (Slack.strict.deposed n before now) := .opt (hleft.closeSeat n _) hleft
  have hgrant : GrantFrame v (if (before = .chair && v.floor == .closed) = true then v.closeSeat n .floorClosed else v) := by
    split
    · exact closeSeat_grantFrame ..
    · exact .refl v
  have hoff : before = .chair → v.floor = .closed →
      ((if (before = .chair && v.floor == .closed) = true then v.closeSeat n .floorClosed else v).seat n).run.chan = none :=
    fun hb hf => by
      rw [if_pos (by simp [hb, hf])]
      exact hleft.closeSeat_off n _
  generalize (if (before = .chair && v.floor == .closed) = true then v.closeSeat n .floorClosed else v) = w at *
  have hstrict : w.Coherent .strict := by
    refine hclosed.settleChairs (P := fun _ => False) fun m hm _ => .inr ?_
    obtain ⟨rfl, hb, -⟩ := hm
    rw [hgrant.holders, hgrant.floor]
    exact ⟨hout hb, hoff hb⟩
  split
  · next hkey =>
    simp only [Bool.and_eq_true, decide_eq_true_iff, beq_iff_eq] at hkey
    obtain ⟨⟨hchair, hpresent⟩, hready⟩ := hkey
    refine (Heard.priorityKey ⟨hstrict, hpresent, hready⟩ _ false ?_).coherent
    rw [hgrant.frame.cfg, hframe.frame.cfg, hclass, hchair]
  · exact hstrict

/-! ### A SEAT row write -/

/-- The record of a SEAT row. -/
def rowSet (s : State) (n : SeatNo) (c : SeatConfig) (budget : Nat) : State :=
  s.setSeat n ⟨c, { (s.seat n).run with budget := budget }⟩

/-- The record of a SEAT row and, for a newly BARRED seat, the end of what it held (R162 steps 1 and 2). -/
def rowStored (s : State) (n : SeatNo) (c : SeatConfig) (budget : Nat) : State :=
  if (c.barred && !(s.seat n).cfg.barred) = true then (s.rowSet n c budget).barSeat n else s.rowSet n c budget

/-- The entry of the seat under the new record (R162 step 3). -/
def rowEntered (s v : State) (n : SeatNo) (c : SeatConfig) (budget : Nat) : State :=
  let old := s.seat n
  let waits := (v.entryOf n).isSome
  let clamps := waits && (c.cls != old.cfg.cls || c.speak != old.cfg.speak || c.order != old.cfg.order)
  let refreshes := waits && !clamps && (c.exempt != old.cfg.exempt || budget != old.run.budget)
  let v := if clamps then v.reclamp n else v
  if refreshes then v.refreshExhausted n else v

/-- The write's later consequences: of the class, and the marks (R162 steps 4 to 6). -/
def rowFollowed (s v : State) (n : SeatNo) (c : SeatConfig) (budget : Nat) : State :=
  let old := s.seat n
  let v := if c.cls != old.cfg.cls then v.classConsequences n old.cfg.cls else v
  let v := if budget != old.run.budget then v.markBudget n else v
  if v.applies n != budgetApplies v.classes old.cfg then v.markApplies n else v

/-- The fill rule runs after a write that changed an entry (R162). -/
def rowFills (s v : State) (n : SeatNo) (c : SeatConfig) (budget : Nat) : Bool :=
  let old := s.seat n
  let waits := (v.entryOf n).isSome
  let clamps := waits && (c.cls != old.cfg.cls || c.speak != old.cfg.speak || c.order != old.cfg.order)
  clamps || waits && !clamps && (c.exempt != old.cfg.exempt || budget != old.run.budget)

theorem writeSeat_eq (s : State) (n : SeatNo) (c : SeatConfig) (budget : Nat) : s.writeSeat n c budget =
    let v := s.rowStored n c budget
    let w := s.rowFollowed (s.rowEntered v n c budget) n c budget
    if s.rowFills v n c budget then w.fillRule else w := rfl

theorem markApplies_frame (s : State) (n : SeatNo) : TellFrame s (s.markApplies n) := by
  unfold markApplies
  split
  · exact mark_frame s n
  · exact .refl s

variable {c : SeatConfig} {budget : Nat}

/-- The slack of a SEAT row write: the seat's entry stands under the old record, and its class may have ceased to be
CHAIR. -/
def Slack.rewriting (n : SeatNo) (before now : SeatClass) : Slack :=
  { Slack.strict.deposed n before now with entry := (· = n) }

theorem rowSet_seat (s : State) (n : SeatNo) (c : SeatConfig) (budget : Nat) :
    (s.rowSet n c budget).seat n = ⟨c, { (s.seat n).run with budget := budget }⟩ := seat_setSeat_self ..

theorem Coherent.rowSet (h : s.Coherent .strict) (n : SeatNo) (c : SeatConfig) (budget : Nat) :
    (s.rowSet n c budget).Coherent (.rewriting n (s.seat n).cfg.cls c.cls) := by
  have hloose : s.Coherent (.rewriting n (s.seat n).cfg.cls c.cls) :=
    h.weaken (fun _ => False.elim) (fun _ => False.elim) (fun _ => id) (fun _ => id) fun _ => id
  unfold State.rowSet
  refine hloose.seatChanged (setSeat_changed s n _) (by simp) (fun _ _ _ hk => absurd rfl hk) ?_ (fun hp _ => ?_)
    (fun hn => ?_) fun hk hb => ?_
  · rw [seat_setSeat_self]
    exact h.records.shown n
  · rwa [seat_setSeat_self] at hp
  · rw [seat_setSeat_self] at hn ⊢
    exact ⟨.inl hn, h.records.absent n hn⟩
  · rw [seat_setSeat_self]
    exact of_not_not fun hnow => hk ⟨rfl, hb, hnow⟩

theorem Coherent.rowStored (h : s.Coherent .strict) (n : SeatNo) (c : SeatConfig) (budget : Nat) :
    (s.rowStored n c budget).Coherent (.rewriting n (s.seat n).cfg.cls c.cls) :=
  .opt ((h.rowSet n c budget).barSeat n) (h.rowSet n c budget)

theorem rowStored_frame (s : State) (n : SeatNo) (c : SeatConfig) (budget : Nat) :
    GrantFrame (s.rowSet n c budget) (s.rowStored n c budget) := by
  unfold State.rowStored
  split
  · exact barSeat_grantFrame ..
  · exact .refl _

theorem rowStored_cfg (s : State) (n : SeatNo) (c : SeatConfig) (budget : Nat) :
    ((s.rowStored n c budget).seat n).cfg = c := by
  rw [(s.rowStored_frame n c budget).frame.cfg, rowSet_seat]

/-- A newly BARRED seat is not listed once its record is stored. -/
theorem Coherent.rowStored_of_listed (h : s.Coherent .strict)
    (hn : n ∈ (s.rowStored n c budget).list.entries.map Entry.seat) : s.rowStored n c budget = s.rowSet n c budget := by
  unfold State.rowStored at hn ⊢
  split
  · next hb =>
    rw [if_pos hb] at hn
    exact absurd hn ((h.rowSet n c budget).barSeat_off n).1
  · rfl

/-- The entries of a seat whose record was stored fit as far as the record's fields are those of before. -/
theorem Coherent.rowStored_fits (h : s.Coherent .strict) {e : Entry} (he : e ∈ (s.rowStored n c budget).list.entries)
    (hen : e.seat = n) (hspeak : c.speak = (s.seat n).cfg.speak) (horder : c.order = (s.seat n).cfg.order) :
    (e.effective = effectiveLevel e.claimed (c.entitled e.kind) ∧ e.clamped = isClamped e.claimed (c.entitled e.kind))
      ∧ (c.cls = (s.seat n).cfg.cls → c.exempt = (s.seat n).cfg.exempt → budget = (s.seat n).run.budget →
        (s.rowStored n c budget).EntryFits e) := by
  have hsame := h.rowStored_of_listed (List.mem_map.2 ⟨e, he, hen⟩)
  rw [hsame] at he ⊢
  obtain ⟨heff, hclamped, hexhausted⟩ := h.entries e he id
  rw [hen] at heff hclamped hexhausted
  have hentitled : c.entitled e.kind = (s.seat n).cfg.entitled e.kind := by
    cases e.kind with
    | speak => exact hspeak
    | order => simp only [SeatConfig.entitled, hspeak, horder]
  rw [hentitled]
  refine ⟨⟨heff, hclamped⟩, fun hcls hexempt hbudget => ?_⟩
  rw [EntryFits, hen, rowSet_seat, hentitled]
  refine ⟨heff, hclamped, hexhausted.trans ?_⟩
  unfold isExhausted applies budgetApplies
  rw [rowSet_seat]
  simp only [hcls, hexempt, hbudget]
  rfl

theorem Coherent.rowEntered (h : s.Coherent .strict) :
    (s.rowEntered (s.rowStored n c budget) n c budget).Coherent (Slack.strict.deposed n (s.seat n).cfg.cls c.cls) := by
  have hv := h.rowStored n c budget
  have hcfg := s.rowStored_cfg n c budget
  have hlisted : ((s.rowStored n c budget).entryOf n).isSome = true ↔ _ := entryOf_isSome_iff _ n
  have hfits {e : Entry} (he : e ∈ (s.rowStored n c budget).list.entries) (hen : e.seat = n) := h.rowStored_fits he hen
  unfold State.rowEntered
  dsimp only
  generalize s.rowStored n c budget = v at *
  cases hwaits : (v.entryOf n).isSome with
  | false =>
    refine hv.settleEntries (P := fun _ => False) fun e he hen _ => ?_
    rw [← Bool.not_eq_true, hlisted] at hwaits
    exact absurd (hen ▸ List.mem_map_of_mem he) hwaits
  | true =>
    cases hclamps : (c.cls != (s.seat n).cfg.cls || c.speak != (s.seat n).cfg.speak || c.order != (s.seat n).cfg.order) with
    | true =>
      exact (hv.reclamp n).weaken (fun m hm => hm.2 hm.1) (fun _ => id) (fun _ => id) (fun _ => id) fun _ => id
    | false =>
      simp only [Bool.or_eq_false_iff, bne_eq_false_iff_eq] at hclamps
      obtain ⟨⟨hcls, hspeak⟩, horder⟩ := hclamps
      cases hrefreshes : (c.exempt != (s.seat n).cfg.exempt || budget != (s.seat n).run.budget) with
      | true =>
        refine (hv.refreshExhausted n fun e he hen _ => ?_).weaken (fun m hm => hm.2 hm.1) (fun _ => id) (fun _ => id)
          (fun _ => id) fun _ => id
        rw [hcfg]
        exact (hfits he hen hspeak horder).1
      | false =>
        simp only [Bool.or_eq_false_iff, bne_eq_false_iff_eq] at hrefreshes
        refine hv.settleEntries (P := fun _ => False) fun e he hen _ => ?_
        exact (hfits he hen hspeak horder).2 hcls hrefreshes.1 hrefreshes.2

theorem rowEntered_frame (s v : State) (n : SeatNo) (c : SeatConfig) (budget : Nat) :
    GrantFrame v (s.rowEntered v n c budget) := by
  unfold State.rowEntered
  dsimp only
  split
  · split
    · exact (reclamp_grantFrame ..).trans (refreshExhausted_grantFrame ..)
    · exact refreshExhausted_grantFrame ..
  · split
    · exact reclamp_grantFrame ..
    · exact .refl v

theorem Coherent.rowFollowed {v : State} (h : v.Coherent (Slack.strict.deposed n (s.seat n).cfg.cls c.cls))
    (hcfg : (v.seat n).cfg = c) : (s.rowFollowed v n c budget).Coherent .strict := by
  have hclass : (if (c.cls != (s.seat n).cfg.cls) = true then v.classConsequences n (s.seat n).cfg.cls else v).Coherent
      .strict := by
    split
    · exact Coherent.classConsequences (by rw [hcfg]; exact h)
    · next hsame =>
      refine h.weaken (fun _ => id) (fun m hm => hsame ?_) (fun _ => id) (fun _ => id) fun _ => id
      rw [bne_iff_ne, hm.2.1]
      exact hm.2.2
  have hbudget := Coherent.opt (p := (budget != (s.seat n).run.budget) = true) (hclass.tell (markBudget_frame _ n)) hclass
  exact .opt (hbudget.tell (markApplies_frame _ n)) hbudget

theorem Coherent.writeSeat (h : s.Coherent .strict) (n : SeatNo) (c : SeatConfig) (budget : Nat) :
    (s.writeSeat n c budget).Coherent .strict := by
  rw [writeSeat_eq]
  have hfollowed : (s.rowFollowed (s.rowEntered (s.rowStored n c budget) n c budget) n c budget).Coherent .strict :=
    Coherent.rowFollowed h.rowEntered (by rw [(s.rowEntered_frame _ n c budget).frame.cfg, rowStored_cfg])
  exact .opt hfollowed.fillRule hfollowed

/-! ### The seat flags -/

theorem withFlag_entitled (r : SeatConfig) (f : SeatFlag) (v : Bool) (x : RequestKind) :
    (r.withFlag f v).entitled x = r.entitled x := by cases f <;> cases x <;> rfl

theorem withFlag_exempt (r : SeatConfig) {f : SeatFlag} (v : Bool) (hf : f ≠ .exempt) : (r.withFlag f v).exempt = r.exempt := by
  cases f with
  | barred => rfl
  | exempt => exact absurd rfl hf
  | keyClose => rfl

/-- A seat's record with one flag replaced. -/
def flagSet (s : State) (n : SeatNo) (f : SeatFlag) (v : Bool) : State :=
  s.setSeat n { s.seat n with cfg := (s.seat n).cfg.withFlag f v }

theorem flagSet_seat (s : State) (n : SeatNo) (f : SeatFlag) (v : Bool) :
    (s.flagSet n f v).seat n = { s.seat n with cfg := (s.seat n).cfg.withFlag f v } := seat_setSeat_self ..

theorem Coherent.flagSet (h : s.Coherent .strict) (n : SeatNo) (f : SeatFlag) (v : Bool) :
    (s.flagSet n f v).Coherent { Slack.strict with entry := fun m => m = n ∧ f = .exempt } := by
  have hloose : s.Coherent { Slack.strict with entry := fun m => m = n ∧ f = .exempt } :=
    h.weaken (fun _ => False.elim) (fun _ => id) (fun _ => id) (fun _ => id) fun _ => id
  unfold State.flagSet
  refine hloose.seatChanged (setSeat_changed s n _) (by simp) (fun e he hen hk => ?_) ?_ (fun hp _ => ?_)
    (fun hn => ?_) fun _ hb => ?_
  · obtain ⟨heff, hclamped, hexhausted⟩ := h.entries e he id
    subst hen
    have hf : f ≠ .exempt := fun hf => hk ⟨rfl, hf⟩
    have happlies : (s.setSeat e.seat { s.seat e.seat with cfg := (s.seat e.seat).cfg.withFlag f v }).isExhausted e.seat =
        s.isExhausted e.seat := by
      unfold isExhausted applies budgetApplies
      rw [seat_setSeat_self]
      simp only [withFlag_cls, withFlag_exempt _ v hf]
      rfl
    rw [EntryFits, happlies, seat_setSeat_self]
    simp only [withFlag_entitled]
    exact ⟨heff, hclamped, hexhausted⟩
  · rw [seat_setSeat_self]
    exact h.records.shown n
  · rwa [seat_setSeat_self] at hp
  · rw [seat_setSeat_self] at hn ⊢
    exact ⟨.inl hn, h.records.absent n hn⟩
  · rw [seat_setSeat_self]
    exact (withFlag_cls ..).trans hb

theorem Coherent.flagSeat (h : s.Coherent .strict) (f : SeatFlag) (a : FlagAction) (n : SeatNo) :
    (s.flagSeat f a n).Coherent .strict := by
  have hset := h.flagSet n f (a.apply ((s.seat n).cfg.flag f))
  have hseat := s.flagSet_seat n f (a.apply ((s.seat n).cfg.flag f))
  have hentries : (s.flagSet n f (a.apply ((s.seat n).cfg.flag f))).list.entries = s.list.entries := rfl
  unfold State.flagSeat
  dsimp only
  split
  · exact h
  · change ((s.flagSet n f _).flagConsequences n f _ _).Coherent .strict
    generalize a.apply ((s.seat n).cfg.flag f) = v at *
    generalize s.flagSet n f v = t at *
    have hstrict (hf : f ≠ .exempt) : t.Coherent .strict :=
      hset.weaken (fun _ hm => hf hm.2) (fun _ => id) (fun _ => id) (fun _ => id) fun _ => id
    unfold State.flagConsequences
    cases f with
    | barred =>
      dsimp only
      split
      · exact (hstrict (by decide)).barSeat n
      · exact hstrict (by decide)
    | exempt =>
      have hrefreshed : (t.refreshExhausted n).Coherent .strict := by
        refine (hset.refreshExhausted n fun e he hen _ => ?_).weaken (fun m hm => hm.2 hm.1.1) (fun _ => id) (fun _ => id)
          (fun _ => id) fun _ => id
        rw [hentries] at he
        obtain ⟨heff, hclamped, -⟩ := h.entries e he id
        rw [hen] at heff hclamped
        rw [hseat]
        simp only [withFlag_entitled]
        exact ⟨heff, hclamped⟩
      exact .opt (hrefreshed.tell (markApplies_frame _ n)) hrefreshed
    | keyClose => exact hstrict (by decide)

theorem Coherent.foldl_flagPass (f : SeatFlag) (a : FlagAction) (span : List SeatNo) (acc : State × List Byte × Bool)
    (h : acc.1.Coherent .strict) : (span.foldl (flagPass f a) acc).1.Coherent .strict := by
  induction span generalizing acc with
  | nil => exact h
  | cons n span ih => exact ih _ (h.flagSeat f a n)

theorem Coherent.flagSpan (h : s.Coherent .strict) (f : SeatFlag) (a : FlagAction) (span : List SeatNo) :
    (s.flagSpan f a span).1.Coherent .strict := by
  unfold State.flagSpan
  dsimp only
  have hpassed := Coherent.foldl_flagPass f a span (s, [], false) h
  exact .opt hpassed.fillRule hpassed

end State
end Sys2Proof.Machine
end

section
/-! PROOF. The floor invariant over a recall's replacement of the configuration, and over start-up. -/

namespace Sys2Proof.Machine

namespace State

variable {k : Slack} {s t u : State} {n : SeatNo}

/-- The slack of a recall: seats may have ceased to be CHAIR seats. -/
def Slack.reclassing : Slack := { Slack.strict with chair := fun _ => True }

theorem Coherent.loaded (h : s.Coherent .strict) (hquiet : s.Quiet) (g : Configuration) : (s.loaded g).Coherent .reclassing := by
  have hloose : s.Coherent .reclassing :=
    h.weaken (fun _ => id) (fun _ _ => trivial) (fun _ => id) (fun _ => id) fun _ => id
  have hseat := s.loaded_seat g
  refine hloose.resettle (P := fun _ => False) ⟨fun _ => Iff.rfl, fun m => by rw [hseat]; exact ⟨rfl, rfl⟩, fun _ => rfl, rfl, rfl,
    rfl, rfl⟩ h.list (fun e he _ => ?_) ⟨fun m hm => ?_, fun m => ?_, fun hs m => ?_⟩ (fun m hm => ?_) fun _ hk => absurd trivial hk
  · have hin : e ∈ s.list.entries := he
    rw [hquiet.list] at hin
    cases hin
  · rw [hseat] at hm ⊢
    exact h.records.absent m hm
  · rw [hseat]
    exact h.records.shown m
  · rw [hseat]
    exact h.records.recalling hs m
  · rw [hseat] at hm
    exact .inl hm

/-- A smaller holder set of CHAIR seats, where no channel is busy. -/
theorem Coherent.withHolders (h : s.Coherent k) (hidle : ∀ c : ChanNo, (s.chan c).busy = false) {l : List SeatNo}
    (hl : l.Sublist s.holders) (hchair : ∀ n ∈ l, (s.seat n).cfg.cls = .chair) :
    (s.withHolders l).Coherent { k with chair := fun _ => False } :=
  have hfree {c : ChanNo} {p : Prop} (hc : (s.chan c).busy = true) : p := by
    rw [hidle c] at hc
    cases hc
  { h with
    records := ⟨h.records.absent, h.records.shown, h.records.recalling⟩
    absentList := fun m hm hk => ⟨(h.absentList m hm hk).1, fun hin => (h.absentList m hm hk).2 (hl.subset hin)⟩
    sorted := h.sorted.sublist hl
    chairs := fun m hm _ => hchair m hm
    priority := fun _ hc => hfree hc
    closedChan := fun _ _ hc => hfree hc
    still := fun hs => by
      obtain ⟨hfloor, hholders, hfree⟩ := h.still hs
      rw [hholders] at hl
      exact ⟨hfloor, List.sublist_nil.1 hl, hfree⟩ }

theorem Coherent.mismatched (h : s.Coherent .strict) : (s.mapSeats mismatched).Coherent .strict := by
  have hseat (m : SeatNo) : (s.mapSeats State.mismatched).seat m = State.mismatched (s.seat m) := seat_mapSeats _ s m
  refine h.resettle (P := fun _ => False) ⟨fun _ => Iff.rfl, fun m => by rw [hseat]; exact ⟨rfl, rfl⟩, fun _ => rfl, rfl, rfl,
    rfl, rfl⟩ h.list (fun e he _ => ?_) ⟨fun m hm => ?_, fun m => ?_, fun hs m => ?_⟩ (fun m hm => ?_) fun m _ hm => ?_
  · exact (h.entries e he id).congr (by rw [hseat]; rfl) (by rw [hseat]; rfl) rfl
  · rw [hseat] at hm ⊢
    obtain ⟨hshown, hunit, -, hdown⟩ := h.records.absent m hm
    exact ⟨hshown, hunit, by rw [State.mismatched, hunit]; rfl, hdown⟩
  · rw [hseat]
    exact h.records.shown m
  · rw [hseat]
    exact h.records.recalling hs m
  · rw [hseat] at hm
    exact .inl hm
  · rw [hseat]
    exact hm

theorem Coherent.replaceConfiguration (h : s.Coherent .strict) (hquiet : s.Quiet) (g : Configuration) :
    (s.replaceConfiguration g).Coherent .strict := by
  rw [replaceConfiguration_eq]
  have hgone := (h.loaded hquiet g).cascade (fun _ => id) ((s.loaded g).movedSeats s.branches)
  have hstill := (hquiet.loaded g).of_frame ((hquiet.loaded g).cascade_frame ((s.loaded g).movedSeats s.branches))
  generalize (s.loaded g).cascade ((s.loaded g).movedSeats s.branches) = t at *
  have hchairs := hgone.withHolders hstill.idle (l := t.chairHolders) List.filter_sublist fun m hm => by
    simpa using (List.mem_filter.1 hm).2
  have hadopted : (t.adopted g).Coherent .strict := ((Coherent.mismatched hchairs).withFloorCfg _).setRestraint _
  exact (hadopted.expireOverdue (fun _ => id) _).tell (markAll_frame _ _)

/-! ### Start-up -/

theorem Coherent.quiet (h : s.Coherent .strict) (hclosed : s.floor = .closed) (hidle : ∀ c : ChanNo, (s.chan c).busy = false) :
    s.Quiet := by
  refine ⟨h.closedList hclosed, hidle, fun n => ?_⟩
  cases hn : (s.seat n).run.chan with
  | none => rfl
  | some c =>
    have hbusy := (h.seats.chan_named hn).1
    rw [hidle c] at hbusy
    cases hbusy

theorem Coherent.withStartUp (h : s.Coherent k) {x : StartUp}
    (hstill : x.state ≠ .ready → s.floor = .closed ∧ s.holders = [] ∧ ∀ c : ChanNo, (s.chan c).busy = false)
    (hrecalling : x.state = .recalling → s.startUp.state = .recalling) : (s.withStartUp x).Coherent k :=
  { h with
    records := ⟨h.records.absent, h.records.shown, fun hs => h.records.recalling (hrecalling hs)⟩
    still := hstill }

theorem Coherent.startUpRecall (h : s.Coherent .strict) (hstart : s.startUp.state = .recalling) :
    s.startUpRecall.Coherent .strict := by
  obtain ⟨hfloor, -, hidle⟩ := h.still (by rw [hstart]; decide)
  have habsent := h.records.recalling hstart
  have hrecalled : s.recalledAtStart.Coherent .strict := by
    have hprofile := h.withProfile { s.profile with status := s.profile.recalledStatus }
    have hset := (hprofile.replaceConfiguration (hprofile.quiet hfloor hidle) s.profile.recalled).initialBudgets fun _ => id
    rwa [replaceConfiguration_of_absent (s := s.withProfile { s.profile with status := s.profile.recalledStatus })
      s.profile.recalled habsent] at hset
  obtain ⟨-, -, -, -, hfloor', hholders', hchannels', -, -⟩ := h.floorOk.recalledAtStart hstart
  rw [startUpRecall_of_absent habsent]
  refine hrecalled.withStartUp (fun _ => ⟨hfloor', hholders', fun c => ?_⟩) fun hno => nomatch hno
  rw [State.chan, hchannels']
  exact hidle c

theorem rollCallOver_state (h : s.rollCallOver = true) : s.startUp.state = .rollCall := by
  rw [rollCallOver, Bool.and_eq_true, beq_iff_eq] at h
  exact h.1

end State
end Sys2Proof.Machine
end

section
/-! PROOF. The floor invariant over the operations of the Management Unit. -/

namespace Sys2Proof.Machine

namespace State

variable {k : Slack} {s t u : State} {n : SeatNo}

/-! ### Single parts changed under the same view -/

theorem updChan_view (s : State) (c : ChanNo) {f : Channel → Channel} (hf : turnOf (f (s.chan c)) = turnOf (s.chan c)) :
    SameView s (s.updChan c f) := by
  refine ⟨rfl, fun _ => rfl, fun _ => rfl, fun _ => rfl, fun d => ?_, rfl, rfl, rfl, rfl, rfl⟩
  rw [updChan, chan_setChan]
  split
  · next hd => rw [← hd, hf]
  · rfl

theorem updRun_view (s : State) (n : SeatNo) {f : SeatRun → SeatRun} (hf : ∀ r, standing (f r) = standing r) :
    SameView s (s.updRun n f) := by
  refine ⟨rfl, fun m => ?_, fun m => ?_, fun _ => rfl, fun _ => rfl, rfl, rfl, rfl, rfl, rfl⟩
  · rw [seat_updRun]
    split <;> rfl
  · rw [seat_updRun]
    split
    · exact hf _
    · rfl

theorem updPort_view (s : State) (b : BranchId) (f : BranchPort → BranchPort) : SameView s (s.updPort b f) := by
  cases b <;> exact .of_eq rfl rfl rfl rfl rfl rfl rfl rfl rfl

theorem withMgmt_view (s : State) (x : Management) : SameView s (s.withMgmt x) := .of_eq rfl rfl rfl rfl rfl rfl rfl rfl rfl

theorem withUplink_view (s : State) (x : UplinkPort) : SameView s (s.withUplink x) := .of_eq rfl rfl rfl rfl rfl rfl rfl rfl rfl

theorem withProfile_view (s : State) (x : Profile) : SameView s (s.withProfile x) :=
  .of_eq rfl rfl rfl rfl rfl rfl rfl rfl rfl

theorem foldl_view {α : Type} (f : State → α → State) (hf : ∀ s x, SameView s (f s x)) (l : List α) (s : State) :
    SameView s (l.foldl f s) := by
  induction l generalizing s with
  | nil => exact .refl s
  | cons x l ih => exact (hf s x).trans (ih _)

theorem SameView.opt {p : Prop} [Decidable p] (ht : SameView s t) (hu : SameView s u) : SameView s (if p then t else u) := by
  split
  · exact ht
  · exact hu

theorem abandonProfile_view (s : State) : SameView s s.abandonProfile := by
  rw [abandonProfile_eq]
  exact .of_eq rfl rfl rfl rfl rfl rfl rfl rfl rfl

theorem clearCounters_view (s : State) : SameView s s.clearCounters :=
  (foldl_view _ (fun s b => updPort_view s b _) _ _).trans (withMgmt_view _ _)

/-! ### GRANT -/

theorem Coherent.grantSeat (h : s.Coherent .strict) (hready : s.startUp.state = .ready) (n : SeatNo) (force : Bool) :
    (s.grantSeat n force).1.Coherent .strict := by
  have hgrant {t : State} (ht : t.Coherent .strict) (hopen : t.floor ≠ .closed) (hstart : t.startUp.state = .ready) :
      (t.directGrant n (s.directKind n)).1.Coherent .strict :=
    ht.grant (asHolder := false) n _ _ hstart (fun hno => nomatch hno) fun hclosed => absurd hclosed hopen
  unfold State.grantSeat
  dsimp only
  split
  · exact h
  split
  · exact h
  next hopen =>
    split
    · exact hgrant h hopen hready
    split
    · exact h
    · split
      · exact h
      · next c _ =>
        have hframe := s.displace_grantFrame c
        refine (hgrant (h.displace (fun _ => id) hopen c) ?_ ?_).fillRule
        · rwa [hframe.floor]
        · rwa [hframe.frame.startUp]

end State

open State

/-! ### The bodies of the operations -/

/-- A body keeps the floor invariant. -/
def Body.Keeps (b : Body) : Prop := ∀ s, s.Coherent .strict → (b s).1.Coherent .strict

/-- A body keeps the floor invariant in READY. -/
def Body.KeepsReady (b : Body) : Prop := ∀ s, s.Coherent .strict → s.startUp.state = .ready → (b s).1.Coherent .strict

theorem Body.Keeps.ready {b : Body} (h : b.Keeps) : b.KeepsReady := fun s hs _ => h s hs

theorem only_keeps (st : Status) : Body.Keeps fun s => (s, only st) := fun _ h => h

theorem held_keeps (x : HoldClass) {b : Body} (hb : b.Keeps) : Body.Keeps (held x b) := by
  intro s h
  unfold held
  split
  · exact h
  · exact hb s h

theorem held_floor_keeps {b : Body} (hb : b.KeepsReady) : Body.Keeps (held .floor b) := by
  intro s h
  unfold held
  split
  · exact h
  · next hnone =>
    refine hb s h ?_
    unfold heldOff at hnone
    cases hstart : s.startUp.state with
    | ready => rfl
    | rollCall => rw [hstart] at hnone; cases hnone
    | recalling => rw [hstart] at hnone; cases hnone

theorem identify_keeps : Body.Keeps identify := fun _ h => h

theorem readTable_keeps (table : Byte) (first : Half) (count : Byte) : Body.Keeps (readTable table first count) := by
  intro s h
  unfold readTable
  split
  · exact h
  · split
    · exact h
    · exact h

theorem readList_keeps (p : Byte) : Body.Keeps (readList p) := by
  intro s h
  unfold readList
  dsimp only
  split
  · exact h
  · exact h

theorem readFloor_keeps (g : Byte) : Body.Keeps (readFloor g) := by
  intro s h
  unfold readFloor
  split
  · exact h
  · exact h.view (foldl_view _ (fun s c => updChan_view s c rfl) _ _)

theorem readCounters_keeps (c : Byte) : Body.Keeps (readCounters c) := by
  intro s h
  unfold readCounters
  split
  · exact h
  · exact .opt (h.view (clearCounters_view s)) h

theorem writeSeatRow_keeps (index : Half) (row : List Byte) : Body.Keeps (writeSeatRow index row) := by
  unfold writeSeatRow
  split
  · refine held_keeps .write fun s h => ?_
    dsimp only
    split
    · split
      · exact h
      · exact h.writeSeat _ _ _
    · exact h
  · exact only_keeps _

theorem writeClassRow_keeps (index : Half) (row : List Byte) : Body.Keeps (writeClassRow index row) := by
  unfold writeClassRow
  split
  · refine held_keeps .write fun s h => ?_
    split
    · exact h.writeClass (fun _ => id) _ _
    · exact h
  · exact only_keeps _

theorem writeBranchRow_keeps (index : Half) (row : List Byte) : Body.Keeps (writeBranchRow index row) := by
  unfold writeBranchRow
  split
  · refine held_keeps .write fun s h => ?_
    split
    · split
      · exact h
      · dsimp only
        exact h.writeBranch (fun _ => id) _ _
    · exact h
  · exact only_keeps _

theorem writeFloorRow_keeps (index : Half) (row : List Byte) : Body.Keeps (writeFloorRow index row) := by
  unfold writeFloorRow
  split
  · refine held_keeps .write fun s h => ?_
    split
    · exact h.writeFloor (s := s) (fun _ => id) _
    · exact h
  · exact only_keeps _

theorem writeTableFields_keeps (l : List Byte) : Body.Keeps (writeTableFields l) := by
  unfold writeTableFields
  split
  · split
    · exact only_keeps _
    split
    · split
      · exact writeSeatRow_keeps _ _
      split
      · exact writeClassRow_keeps _ _
      split
      · exact writeBranchRow_keeps _ _
      · exact writeFloorRow_keeps _ _
    · exact only_keeps _
  · exact only_keeps _

theorem seatFlags_keeps (first : Half) (count flag : Byte) (a : FlagAction) :
    Body.Keeps (seatFlags first count flag a) := by
  intro s h
  unfold seatFlags
  dsimp only
  split
  · exact h
  split
  · exact h
  · exact h.flagSpan _ a _

theorem seatFlagsByCode_keeps (first : Half) (count flag action : Byte) :
    Body.Keeps (seatFlagsByCode first count flag action) := by
  unfold seatFlagsByCode
  split
  · exact only_keeps _
  · exact seatFlags_keeps _ _ _ _
  · exact held_keeps .write (seatFlags_keeps _ _ _ _)

theorem openFloor_keeps (reload : Byte) : Body.KeepsReady (openFloor reload) := by
  intro s h hready
  unfold openFloor
  split
  · exact h
  split
  · exact h
  · next hclosed =>
    rw [not_not] at hclosed
    dsimp only
    split
    · have hreload := h.reload fun _ => id
      have hframe := s.initialBudgets_frame
      have hfill := s.initialBudgets.fillRule_grantFrame
      refine (hreload.opened ?_ ?_).fillRule
      · exact hfill.floor.trans (hframe.floor.trans hclosed)
      · rw [State.reload, hfill.frame.startUp, hframe.startUp]
        exact hready
    · exact (h.opened hclosed hready).fillRule

theorem closeFloor_keeps : Body.Keeps closeFloor := fun _ h => h.floorOk.floorClosed

theorem suspendFloor_keeps : Body.Keeps suspendFloor := by
  intro s h
  unfold suspendFloor
  split
  · exact h
  · next hopen => exact suspendAll_coherent h (not_not.1 hopen)

theorem resumeFloor_keeps : Body.Keeps resumeFloor := by
  intro s h
  unfold resumeFloor
  split
  · exact h
  · next hsuspended => exact (resumeAll_coherent h (not_not.1 hsuspended)).fillRule

theorem setMode_keeps (mode : Byte) : Body.Keeps (setMode mode) := by
  intro s h
  unfold setMode
  split
  · exact h
  · exact h.takeMode _

theorem setLimit_keeps (limit : Byte) : Body.Keeps (setLimit limit) := fun _ h => h.takeLimit _

theorem setGate_keeps (gate : Byte) : Body.Keeps (setGate gate) := fun _ h => h.takeGate _

theorem grantBody_keeps (seat : Half) (force : Byte) : Body.KeepsReady (grantBody seat force) := by
  intro s h hready
  unfold grantBody
  split
  · split
    · exact h
    · exact h.grantSeat hready _ _
  · exact h

theorem endBody_keeps (selector : Byte) (number : Half) : Body.Keeps (endBody selector number) := by
  intro s h
  unfold endBody
  split
  · split
    · split
      · exact h.closeSeat _ _
      · exact h
    · exact h
  split
  · split
    · split
      · exact h.closeAndFill _ _ _
      · exact h
    · exact h
  · exact h

theorem withdrawBody_keeps (seat : Half) : Body.Keeps (withdrawBody seat) := by
  intro s h
  unfold withdrawBody
  split
  · split
    · exact h.removeEntry _ _
    · exact h
  · exact h

theorem clearList_keeps : Body.Keeps clearList := by
  intro s h
  unfold clearList
  split
  · exact h
  · exact h.bulkRemove _

theorem reloadBudgets_keeps : Body.Keeps reloadBudgets := by
  intro s h
  unfold reloadBudgets
  dsimp only
  exact h.reload fun _ => id

theorem nextBody_keeps : Body.Keeps nextBody := fun _ h => h.next

theorem storeProfile_keeps : Body.Keeps storeProfile := fun _ h => h.withProfile _

theorem recallProfile_keeps : Body.Keeps recallProfile := by
  intro s h
  unfold recallProfile
  split
  · exact h.withProfile _
  · exact h

theorem withStartUp_view (s : State) (x : StartUp) (hx : x.state = s.startUp.state) : SameView s (s.withStartUp x) :=
  .of_eq rfl rfl rfl rfl rfl rfl rfl rfl hx

theorem resetBody_keeps : Body.Keeps resetBody := by
  intro s h
  have habandoned := h.view (abandonProfile_view s)
  unfold resetBody
  dsimp only
  generalize s.abandonProfile = t at *
  exact habandoned.view (withStartUp_view t _ rfl)

end Sys2Proof.Machine
end

section
/-! PROOF. Every command keeps the floor invariant. -/

namespace Sys2Proof.Machine

namespace State

variable {s t u : State}

theorem SameView.keeps (h : SameView s t) (hs : s.Coherent .strict) : t.Coherent .strict := hs.view h

/-! ### Management frames -/

theorem pushReply_view (s : State) (r : Reply) : SameView s (s.pushReply r) := .opt (withUplink_view _ _) (.refl s)

theorem answer_view (tag : Byte) (a : Answer) (s : State) : SameView s (s.answer tag a) := by
  cases a with
  | reply st data => exact pushReply_view ..
  | later => exact withUplink_view ..
  | resetting => exact pushReply_view ..

theorem Coherent.receive {b : Body} (h : s.Coherent .strict) (f : Frame) (hb : b.Keeps) : (s.receive f b).Coherent .strict := by
  obtain ⟨-, heq⟩ | ⟨-, -, heq⟩ | ⟨-, -, -, heq⟩ | ⟨-, heq⟩ := s.receive_cases f b
  · rwa [heq]
  · rw [heq]
    exact h.view (withMgmt_view _ _)
  · rw [heq]
    exact h.view (withUplink_view _ _)
  · rw [heq]
    exact (hb s h).view (answer_view _ _ _)

end State

theorem operation_keeps (code : Byte) (fields : List Byte) : Body.Keeps (operation code fields) := by
  cases h : Op.ofCode code with
  | none =>
    rw [operation_of_unlisted h]
    exact only_keeps _
  | some o =>
    have hcode := (Op.code_of_ofCode h).symm
    cases hfit : fieldsFit o fields with
    | false =>
      rw [operation_of_unfit h hfit]
      exact only_keeps _
    | true =>
      subst hcode
      unfold operation
      rw [Op.ofCode_code]
      cases o with
      | identify =>
        match fields, hfit with
        | [], _ => exact identify_keeps
      | readTable =>
        match fields, hfit with
        | [_, _, _, _], _ => exact readTable_keeps _ _ _
      | writeTable => exact writeTableFields_keeps _
      | seatFlags =>
        match fields, hfit with
        | [_, _, _, _, _], _ => exact seatFlagsByCode_keeps _ _ _ _
      | readList =>
        match fields, hfit with
        | [_], _ => exact readList_keeps _
      | readFloor =>
        match fields, hfit with
        | [_], _ => exact readFloor_keeps _
      | readCounters =>
        match fields, hfit with
        | [_], _ => exact readCounters_keeps _
      | storeProfile =>
        match fields, hfit with
        | [], _ => exact held_keeps _ storeProfile_keeps
      | recallProfile =>
        match fields, hfit with
        | [], _ => exact held_keeps _ recallProfile_keeps
      | reset =>
        match fields, hfit with
        | [], _ => exact held_keeps _ resetBody_keeps
      | openFloor =>
        match fields, hfit with
        | [_], _ => exact held_floor_keeps (openFloor_keeps _)
      | closeFloor =>
        match fields, hfit with
        | [], _ => exact held_keeps _ closeFloor_keeps
      | suspend =>
        match fields, hfit with
        | [], _ => exact held_keeps _ suspendFloor_keeps
      | resume =>
        match fields, hfit with
        | [], _ => exact held_keeps _ resumeFloor_keeps
      | setMode =>
        match fields, hfit with
        | [_], _ => exact held_keeps _ (setMode_keeps _)
      | setLimit =>
        match fields, hfit with
        | [_], _ => exact held_keeps _ (setLimit_keeps _)
      | setGate =>
        match fields, hfit with
        | [_], _ => exact held_keeps _ (setGate_keeps _)
      | grant =>
        match fields, hfit with
        | [_, _, _], _ => exact held_floor_keeps (grantBody_keeps _ _)
      | endTurn =>
        match fields, hfit with
        | [_, _, _], _ => exact held_keeps _ (endBody_keeps _ _)
      | withdraw =>
        match fields, hfit with
        | [_, _], _ => exact held_keeps _ (withdrawBody_keeps _)
      | clearList =>
        match fields, hfit with
        | [], _ => exact held_keeps _ clearList_keeps
      | reloadBudgets =>
        match fields, hfit with
        | [], _ => exact held_keeps _ reloadBudgets_keeps
      | next =>
        match fields, hfit with
        | [], _ => exact held_keeps _ nextBody_keeps

namespace State

variable {s t u : State}

theorem copyProgramme_view (f : Frame) (s : State) : SameView s (s.copyProgramme f) :=
  foldl_view _ (fun _ _ => .opt (updPort_view ..) (.refl _)) _ _

theorem Coherent.receiveUplink (h : s.Coherent .strict) (f : Frame) : (s.receiveUplink f).Coherent .strict := by
  unfold State.receiveUplink
  split
  · exact h.receive f (operation_keeps _ _)
  split
  · exact .opt (h.view (copyProgramme_view f s)) h
  · exact h

/-! ### The branch ports -/

theorem forward_view (x : AudioFrame) (s : State) : SameView s (s.forward x) := .opt (withUplink_view ..) (.refl s)

theorem Coherent.measureBlock (h : s.Coherent .strict) (c : ChanNo) (n : SeatNo) (l : List Half) :
    (s.measureBlock c n l).Coherent .strict := by
  have hmeasured := h.view (updChan_view s c (f := fun k => { k with
    detector := measure s.floorCfg (s.chan c).detector (blockLevel l) }) rfl)
  exact .opt (hmeasured.closeAndFill c n _) hmeasured

theorem Coherent.seatBlock (h : s.Coherent .strict) (b : BranchId) (n : SeatNo) (x : Block) :
    (s.seatBlock b n x).Coherent .strict := by
  have hstray := h.view (updPort_view s b fun p => { p with audioStray := bump p.audioStray })
  unfold State.seatBlock
  split
  · split
    · unfold State.takeBlock
      split
      · exact h.view (forward_view _ s)
      · exact (h.view (forward_view _ s)).measureBlock _ n _
    · exact hstray
  · exact hstray

theorem Coherent.arrive (h : s.Coherent .strict) (b : BranchId) (f : Frame) : (s.arrive b f).Coherent .strict := by
  unfold State.arrive
  split
  · split
    · exact h.view (updPort_view ..)
    · exact h.view (updPort_view ..)
    · exact h.view (updPort_view ..)
    · exact h.takeReport _ _
    · exact h.seatBlock b _ _
  · exact h

/-! ### Links -/

theorem Coherent.branchLinkUp (h : s.Coherent .strict) (b : BranchId) (ht : execBranchLinkUp b s = .next t) :
    t.Coherent .strict := by
  cases hup : (s.port b).up with
  | true =>
    rw [execBranchLinkUp_of_up s hup] at ht
    obtain rfl := Host.Outcome.next.inj ht
    exact h.view (updPort_view ..)
  | false =>
    rw [execBranchLinkUp_of_down s hup] at ht
    obtain rfl := Host.Outcome.next.inj ht
    exact (h.view (updPort_view ..)).tell (notice_frame ..)

theorem Coherent.branchLinkDown (h : s.Coherent .strict) (b : BranchId) (ht : execBranchLinkDown b s = .next t) :
    t.Coherent .strict := by
  cases hup : (s.port b).up with
  | true =>
    rw [execBranchLinkDown_of_up s hup] at ht
    obtain rfl := Host.Outcome.next.inj ht
    exact ((h.view (updPort_view ..)).tell (notice_frame ..)).cascade (fun _ => id) _
  | false =>
    rw [execBranchLinkDown_of_down s hup] at ht
    obtain rfl := Host.Outcome.next.inj ht
    exact h.view (updPort_view ..)

theorem Coherent.uplinkUp (h : s.Coherent .strict) (ht : execUplinkUp s = .next t) : t.Coherent .strict := by
  cases hup : s.uplink.up with
  | true =>
    rw [execUplinkUp_of_up s hup] at ht
    obtain rfl := Host.Outcome.next.inj ht
    exact h.withUplink _
  | false =>
    rw [execUplinkUp_of_down s hup] at ht
    obtain rfl := Host.Outcome.next.inj ht
    exact (h.withUplink _).tell (notice_frame ..)

theorem resetDue_view (s : State) : SameView s s.resetDue := withStartUp_view s _ rfl

theorem Coherent.uplinkDown (h : s.Coherent .strict) (ht : execUplinkDown s = .next t) : t.Coherent .strict := by
  cases hup : s.uplink.up with
  | true =>
    rw [execUplinkDown_of_up s hup] at ht
    obtain rfl := Host.Outcome.next.inj ht
    exact ((Coherent.opt (h.view (resetDue_view s)) h).withUplink _).tell (notice_frame ..)
  | false =>
    rw [execUplinkDown_of_down s hup] at ht
    obtain rfl := Host.Outcome.next.inj ht
    exact h.withUplink _

/-! ### Transmitters -/

theorem startCommand_view (b : BranchId) (s : State) : SameView s (s.startCommand b) := by
  unfold startCommand
  split
  · exact .refl s
  · exact (updPort_view s b _).trans (updRun_view _ _ fun _ => rfl)

theorem startProgramme_view (b : BranchId) (s : State) : SameView s (s.startProgramme b) := by
  unfold startProgramme
  split
  · exact .refl s
  · exact updPort_view s b _

theorem startAudio_view (s : State) : SameView s s.startAudio := by
  unfold startAudio
  split
  · exact .refl s
  · exact withUplink_view s _

theorem startReply_view (s : State) : SameView s s.startReply := by
  unfold startReply
  split
  · exact .refl s
  · exact withUplink_view s _

theorem startNotice_view (s : State) : SameView s s.startNotice := by
  unfold startNotice
  split
  · exact .refl s
  · exact withUplink_view s _

theorem completeUplink_view (s : State) : SameView s s.completeUplink := by
  unfold completeUplink
  split
  · exact .refl s
  · exact .opt ((withUplink_view s _).trans (resetDue_view _)) (withUplink_view s _)

/-! ### Timed events -/

theorem Coherent.countDown (h : s.Coherent .strict) (c : ChanNo) (n : SeatNo) (k : TurnKind) :
    (s.countDown c n k).Coherent .strict := by
  unfold State.countDown
  dsimp only
  have hstep (v : Mmss) (w b : Bool) : (if b then (s.updChan c fun x => { x with
      timer := { x.timer with value := v, warned := w } }).notice .warning (some n) (some c) none
      else s.updChan c fun x => { x with timer := { x.timer with value := v, warned := w } }).Coherent .strict := by
    have hset := h.view (updChan_view s c (f := fun x => { x with timer := { x.timer with value := v, warned := w } }) rfl)
    exact .opt (hset.tell (notice_frame ..)) hset
  split
  · split
    · exact (hstep _ _ _).closeAndFill c n _
    · refine Coherent.tell ?_ (notice_frame ..)
      exact (hstep _ _ _).view (updChan_view _ c rfl)
  · exact hstep _ _ _

theorem Coherent.elapse (h : s.Coherent .strict) (c : ChanNo) (n : SeatNo) (k : TurnKind) :
    (s.elapse c n k).Coherent .strict := by
  have hcount := h.view (updChan_view s c (f := fun x => { x with
    timer := { x.timer with phase := 0, used := bump x.timer.used } }) rfl)
  unfold State.elapse
  dsimp only
  split
  · exact (hcount.countDown c n k).tell (mark_frame _ n)
  · have hstep (v : Mmss) := hcount.view (updChan_view _ c (f := fun x => { x with timer := { x.timer with value := v } }) rfl)
    exact .opt (hstep _) ((hstep _).tell (mark_frame _ n))

theorem Coherent.refusalEnds (h : s.Coherent .strict) (n : SeatNo) :
    ((s.updRun n fun x => { x with refusalShown := false }).setRefusal n none).Coherent .strict := by
  refine h.seatChanged (setDisplay_changed s n _ _) (by simp) (fun e he hen hk => ?_) (by simp) (fun hp _ => by simpa using hp)
    (fun hn => ?_) (by simp)
  · subst hen
    exact (h.entries e he hk).congr (by simp) (by simp) rfl
  · have hold : (s.seat n).run.present = false := by simpa using hn
    obtain ⟨-, hrest⟩ := h.records.absent n hold
    exact ⟨.inl hold, by simpa using hrest⟩

/-! ### The end of a profile operation -/

theorem completeProfile_view (st : Status) (s : State) : SameView s (s.completeProfile st) := withUplink_view s _

theorem Coherent.finishRecall (h : s.Coherent .strict) : s.finishRecall.Coherent .strict := by
  unfold State.finishRecall
  dsimp only
  split
  · next hallowed =>
    obtain ⟨hclosed, hfree⟩ := recallAllowed_iff.1 hallowed
    have hidle (c : ChanNo) : (s.chan c).busy = false := by rw [Channel.busy, hfree c]; rfl
    have hset := (h.withProfile { s.profile with op := none }).withProfile
      { s.profile with op := none, status := s.profile.recalledStatus }
    have hquiet := hset.quiet hclosed hidle
    refine Coherent.view ?_ (completeProfile_view _ _)
    exact hset.replaceConfiguration hquiet _
  · exact (h.withProfile _).view (completeProfile_view _ _)

end State

/-! ### Every command -/

open State

theorem operate_keeps {s t : State} {m : MgmtHead} {o : Op} {fields : List Byte} {b : Body} (h : s.Coherent .strict)
    (hb : b.Keeps) (ht : operate m o fields b s = .next t) : t.Coherent .strict := by
  obtain rfl := Host.Outcome.next.inj ht
  exact h.receive _ hb

theorem restart_coherent (cause : ResetCause) (status : ProfileStatus) (s : State) :
    (s.restart cause status).Coherent .strict := (restart_afterReset cause status s).1.floorOk.coherent

theorem exec_coherent {i : Instr} {s t : State} (h : s.Coherent .strict) (ht : exec i s = .next t) : t.Coherent .strict := by
  cases i with
  | powerUpReset =>
    obtain rfl := Host.Outcome.next.inj ht
    exact restart_coherent _ _ s
  | commandReset =>
    obtain rfl := Host.Outcome.next.inj ht
    exact .opt (restart_coherent _ _ s) h
  | seatReport b f | seatAudio b f =>
    obtain rfl := Host.Outcome.next.inj ht
    exact h.arrive b f
  | programme f | unknownOperation f =>
    obtain rfl := Host.Outcome.next.inj ht
    exact h.receiveUplink f
  | branchLinkUp b => exact h.branchLinkUp b ht
  | branchLinkDown b => exact h.branchLinkDown b ht
  | uplinkUp => exact h.uplinkUp ht
  | uplinkDown => exact h.uplinkDown ht
  | seatCommand b =>
    obtain rfl := Host.Outcome.next.inj ht
    exact .opt (h.view (startCommand_view b s)) h
  | programmeTransmit b =>
    obtain rfl := Host.Outcome.next.inj ht
    exact .opt (h.view (startProgramme_view b s)) h
  | branchTransmitComplete b =>
    obtain rfl := Host.Outcome.next.inj ht
    exact h.view (updPort_view s b _)
  | channelAudioTransmit =>
    obtain rfl := Host.Outcome.next.inj ht
    exact .opt (h.view (startAudio_view s)) h
  | replyTransmit =>
    obtain rfl := Host.Outcome.next.inj ht
    exact .opt (h.view (startReply_view s)) h
  | noticeTransmit =>
    obtain rfl := Host.Outcome.next.inj ht
    exact .opt (h.view (startNotice_view s)) h
  | uplinkTransmitComplete =>
    obtain rfl := Host.Outcome.next.inj ht
    exact h.view (completeUplink_view s)
  | presenceTimeout n =>
    obtain rfl := Host.Outcome.next.inj ht
    exact .opt (h.cascade (fun _ => id) [n]) h
  | refusalTimerExpiry n =>
    obtain rfl := Host.Outcome.next.inj ht
    exact .opt ((h.refusalEnds n).tell (mark_frame _ n)) h
  | commandRefresh n =>
    obtain rfl := Host.Outcome.next.inj ht
    exact .opt (h.tell (mark_frame s n)) h
  | secondElapsed c =>
    obtain rfl := Host.Outcome.next.inj ht
    split
    · exact h.elapse c _ _
    · exact h
  | startUpRecallComplete =>
    obtain rfl := Host.Outcome.next.inj ht
    split
    · next hstart => exact h.startUpRecall hstart
    · exact h
  | startUpReady =>
    obtain rfl := Host.Outcome.next.inj ht
    split
    · next hover =>
      have hroll := rollCallOver_state hover
      have hstill := h.still (by rw [hroll]; decide)
      have hready := h.withStartUp (x := { s.startUp with state := .ready, since := s.now }) (fun _ => hstill)
        fun hno => nomatch hno
      exact .opt (hready.opened hstill.1 rfl).fillRule hready
    · exact h
  | storeComplete found =>
    obtain rfl := Host.Outcome.next.inj ht
    split
    · exact (h.withProfile _).view (completeProfile_view _ _)
    · exact h
  | recallComplete =>
    obtain rfl := Host.Outcome.next.inj ht
    split
    · exact h.finishRecall
    · exact h
  | identify m => exact operate_keeps h identify_keeps ht
  | readTable m table first count => exact operate_keeps h (readTable_keeps _ _ _) ht
  | writeTableSeat m index row => exact operate_keeps h (writeSeatRow_keeps _ _) ht
  | writeTableClass m index row => exact operate_keeps h (writeClassRow_keeps _ _) ht
  | writeTableBranch m index row => exact operate_keeps h (writeBranchRow_keeps _ _) ht
  | writeTableFloor m index row => exact operate_keeps h (writeFloorRow_keeps _ _) ht
  | seatFlagsTest m first count flag => exact operate_keeps h (seatFlags_keeps _ _ _ _) ht
  | seatFlagsSet m first count flag | seatFlagsClear m first count flag | seatFlagsToggle m first count flag =>
    exact operate_keeps h (held_keeps _ (seatFlags_keeps _ _ _ _)) ht
  | readList m position => exact operate_keeps h (readList_keeps _) ht
  | readFloor m group => exact operate_keeps h (readFloor_keeps _) ht
  | readCounters m clear => exact operate_keeps h (readCounters_keeps _) ht
  | storeProfile m => exact operate_keeps h (held_keeps _ storeProfile_keeps) ht
  | recallProfile m => exact operate_keeps h (held_keeps _ recallProfile_keeps) ht
  | reset m => exact operate_keeps h (held_keeps _ resetBody_keeps) ht
  | openFloor m reload => exact operate_keeps h (held_floor_keeps (openFloor_keeps _)) ht
  | closeFloor m => exact operate_keeps h (held_keeps _ closeFloor_keeps) ht
  | suspend m => exact operate_keeps h (held_keeps _ suspendFloor_keeps) ht
  | resume m => exact operate_keeps h (held_keeps _ resumeFloor_keeps) ht
  | setMode m mode => exact operate_keeps h (held_keeps _ (setMode_keeps _)) ht
  | setLimit m limit => exact operate_keeps h (held_keeps _ (setLimit_keeps _)) ht
  | setGate m gate => exact operate_keeps h (held_keeps _ (setGate_keeps _)) ht
  | grant m seat force => exact operate_keeps h (held_floor_keeps (grantBody_keeps _ _)) ht
  | endTurn m selector number => exact operate_keeps h (held_keeps _ (endBody_keeps _ _)) ht
  | withdraw m seat => exact operate_keeps h (held_keeps _ (withdrawBody_keeps _)) ht
  | clearList m => exact operate_keeps h (held_keeps _ clearList_keeps) ht
  | reloadBudgets m => exact operate_keeps h (held_keeps _ reloadBudgets_keeps) ht
  | nextSpeaker m => exact operate_keeps h (held_keeps _ nextBody_keeps) ht

/-- Settles O6: every command keeps the floor invariant, by its acts one after another, each of which keeps the invariant
but for what a later act of the command closes. -/
theorem floorStaysCoherent : Obligations.FloorStaysCoherent := fun _ _ _ hok ht => (exec_coherent hok.coherent ht).floorOk

end Sys2Proof.Machine
end

section
/-! PROOF. SEAT FLAGS over its span. -/

namespace Sys2Proof.Machine

namespace State

variable {k : Slack} {s t u : State} {n : SeatNo}

/-! ### Seats off the floor stay off it -/

theorem Coherent.unlisted_of_idle (h : s.Coherent k) (hn : (s.seat n).run.floor = .idle) :
    n ∉ s.list.entries.map Entry.seat := ((h.seats.idle_iff n).1 hn).1

theorem Coherent.fillRule_seat_of_idle (h : s.Coherent k) (hn : (s.seat n).run.floor = .idle) :
    s.fillRule.seat n = s.seat n := fillRule_seat_of_unlisted (h.unlisted_of_idle hn)

theorem Coherent.closeSeat_idle (h : s.Coherent k) (m : SeatNo) (r : Reason) (hn : (s.seat n).run.floor = .idle) :
    ((s.closeSeat m r).seat n).run.floor = .idle := by
  cases hc : (s.seat m).run.chan with
  | none =>
    unfold State.closeSeat
    rwa [hc]
  | some c =>
    obtain ⟨hbusy, hnamed⟩ := h.seats.chan_named hc
    have hcan := (s.canClose_iff c m).2 ⟨(Channel.busy_iff _).1 hbusy, hnamed⟩
    obtain ⟨-, -, hseat⟩ := s.closeChannel_taken c m r hcan
    have hidle : ((s.closeChannel c m r).seat n).run.floor = .idle := by
      rw [hseat]
      split
      · rfl
      · exact hn
    unfold State.closeSeat
    rw [hc]
    dsimp only
    rw [State.closeAndFill, if_pos hcan, (h.closeChannel c m r).fillRule_seat_of_idle hidle]
    exact hidle

theorem Coherent.barSeat_keeps_idle (h : s.Coherent k) (m : SeatNo) (hn : (s.seat n).run.floor = .idle) :
    ((s.barSeat m).seat n).run.floor = .idle := by
  unfold State.barSeat
  split
  · rw [removeEntry_seat]
    split
    · rfl
    · exact hn
  · exact h.closeSeat_idle m _ hn
  · exact hn

/-! ### One seat of the span -/

/-- What the flag operation leaves after the seats of a span, but for the floor states, channels and budgets. -/
structure Flagged (f : SeatFlag) (a : FlagAction) (span : List SeatNo) (s t : State) : Prop where
  outer : OuterFrame s t
  holders : t.holders = s.holders
  cfg : ∀ n : SeatNo, (t.seat n).cfg =
    if n ∈ span then (s.seat n).cfg.withFlag f (a.apply ((s.seat n).cfg.flag f)) else (s.seat n).cfg
  run : ∀ n : SeatNo, (t.seat n).run = { (s.seat n).run with
    floor := (t.seat n).run.floor, chan := (t.seat n).run.chan, budget := (t.seat n).run.budget }
  idle : ∀ n : SeatNo, (s.seat n).run.floor = .idle → (t.seat n).run.floor = .idle
  barred : ∀ n ∈ span, (t.seat n).cfg.barred = true → (s.seat n).cfg.barred = false → (t.seat n).run.floor = .idle

theorem withFlag_self (c : SeatConfig) (f : SeatFlag) : c.withFlag f (c.flag f) = c := by cases f <;> rfl

theorem withFlag_flag (c : SeatConfig) (f : SeatFlag) (v : Bool) : (c.withFlag f v).flag f = v := by cases f <;> rfl

theorem withFlag_barred (c : SeatConfig) {f : SeatFlag} (v : Bool) (hf : f ≠ .barred) : (c.withFlag f v).barred = c.barred := by
  cases f with
  | barred => exact absurd rfl hf
  | exempt => rfl
  | keyClose => rfl

theorem markApplies_grantFrame (s : State) (n : SeatNo) : GrantFrame s (s.markApplies n) := by
  unfold markApplies
  split
  · exact mark_grantFrame s n
  · exact .refl s

theorem flagConsequences_grantFrame (s : State) (n : SeatNo) (f : SeatFlag) (v applied : Bool) :
    GrantFrame s (s.flagConsequences n f v applied) := by
  unfold flagConsequences
  cases f with
  | barred =>
    dsimp only
    split
    · exact barSeat_grantFrame s n
    · exact .refl s
  | exempt =>
    dsimp only
    split
    · exact (refreshExhausted_grantFrame s n).trans (markApplies_grantFrame _ n)
    · exact refreshExhausted_grantFrame s n
  | keyClose => exact .refl s

theorem flagConsequences_seats (s : State) (n : SeatNo) {f : SeatFlag} (v applied : Bool) (hf : f ≠ .barred) :
    (s.flagConsequences n f v applied).seats = s.seats := by
  unfold flagConsequences
  cases f with
  | barred => exact absurd rfl hf
  | exempt =>
    dsimp only
    split
    · exact (markApplies_frame _ n).seats
    · rfl
  | keyClose => rfl

theorem flagSeat_of_same {f : SeatFlag} {a : FlagAction} (h : a.apply ((s.seat n).cfg.flag f) = (s.seat n).cfg.flag f) :
    s.flagSeat f a n = s := if_pos h

theorem flagSeat_of_changed {f : SeatFlag} {a : FlagAction} (h : a.apply ((s.seat n).cfg.flag f) ≠ (s.seat n).cfg.flag f) :
    s.flagSeat f a n = (s.flagSet n f (a.apply ((s.seat n).cfg.flag f))).flagConsequences n f
      (a.apply ((s.seat n).cfg.flag f)) (s.applies n) := if_neg h

theorem setSeat_outer (s : State) (n : SeatNo) (r : SeatRecord) : OuterFrame s (s.setSeat n r) :=
  ⟨rfl, rfl, rfl, rfl, rfl, fun _ => rfl, rfl, rfl, rfl, rfl, rfl, rfl⟩

theorem Flagged.refl (f : SeatFlag) (a : FlagAction) (s : State) : Flagged f a [] s s :=
  ⟨.refl s, rfl, fun n => by rw [if_neg List.not_mem_nil], fun _ => rfl, fun _ => id, fun _ hn => by cases hn⟩

theorem Coherent.flagSeat_flagged (h : s.Coherent .strict) (f : SeatFlag) (a : FlagAction) (n : SeatNo) :
    Flagged f a [n] s (s.flagSeat f a n) := by
  by_cases hsame : a.apply ((s.seat n).cfg.flag f) = (s.seat n).cfg.flag f
  · rw [flagSeat_of_same hsame]
    refine ⟨.refl s, rfl, fun m => ?_, fun _ => rfl, fun _ => id, fun m _ hb hno => ?_⟩
    · split
      · next hm => rw [List.mem_singleton.1 hm, hsame, withFlag_self]
      · rfl
    · rw [hb] at hno
      cases hno
  · rw [flagSeat_of_changed hsame]
    have hset := h.flagSet n f (a.apply ((s.seat n).cfg.flag f))
    have hn := s.flagSet_seat n f (a.apply ((s.seat n).cfg.flag f))
    have hother {m : SeatNo} (hm : n ≠ m) : (s.flagSet n f (a.apply ((s.seat n).cfg.flag f))).seat m = s.seat m :=
      seat_setSeat_of_ne s n m _ hm
    have houter : OuterFrame s (s.flagSet n f (a.apply ((s.seat n).cfg.flag f))) := setSeat_outer s n _
    have hholders : (s.flagSet n f (a.apply ((s.seat n).cfg.flag f))).holders = s.holders := rfl
    generalize hv : a.apply ((s.seat n).cfg.flag f) = v at *
    generalize s.flagSet n f v = u at *
    have hrun (m : SeatNo) : (u.seat m).run = (s.seat m).run := by
      by_cases hm : n = m
      · rw [← hm, hn]
      · rw [hother hm]
    have hframe := u.flagConsequences_grantFrame n f v (s.applies n)
    have hcfg (m : SeatNo) : ((u.flagConsequences n f v (s.applies n)).seat m).cfg =
        if m ∈ [n] then (s.seat m).cfg.withFlag f v else (s.seat m).cfg := by
      rw [hframe.frame.cfg]
      by_cases hm : n = m
      · rw [if_pos (List.mem_singleton.2 hm.symm), ← hm, hn]
      · rw [if_neg fun hin => hm (List.mem_singleton.1 hin).symm, hother hm]
    refine ⟨houter.trans hframe.outer, hframe.holders.trans hholders, fun m => ?_, fun m => ?_, fun m hm => ?_,
      fun m hm hb hno => ?_⟩
    · rw [hcfg]
      split
      · next hm => rw [List.mem_singleton.1 hm, hv]
      · rfl
    · rw [hframe.frame.seat m, hrun]
    · rw [← hrun] at hm
      by_cases hf : f = .barred
      · subst hf
        unfold flagConsequences
        dsimp only
        split
        · exact hset.barSeat_keeps_idle n hm
        · exact hm
      · rw [State.seat, flagConsequences_seats u n v _ hf]
        exact hm
    · rw [hcfg, if_pos hm] at hb
      by_cases hf : f = .barred
      · subst hf
        obtain rfl : v = true := hb
        rw [List.mem_singleton.1 hm]
        exact hset.barSeat_idle n
      · rw [withFlag_barred _ v hf, hno] at hb
        cases hb

/-! ### The span -/

theorem Flagged.cons {f : SeatFlag} {a : FlagAction} {span : List SeatNo} (hn : n ∉ span) (h : Flagged f a [n] s t)
    (g : Flagged f a span t u) : Flagged f a (n :: span) s u where
  outer := h.outer.trans g.outer
  holders := g.holders.trans h.holders
  cfg m := by
    rw [g.cfg, h.cfg]
    by_cases hm : m = n
    · subst hm
      simp [hn]
    · simp [hm]
  run m := by rw [g.run m, h.run m]
  idle m hm := g.idle m (h.idle m hm)
  barred m hm hb hno := by
    by_cases hmn : m = n
    · subst hmn
      have hcfg := g.cfg m
      rw [if_neg hn] at hcfg
      rw [hcfg] at hb
      exact g.idle m (h.barred m (List.mem_singleton.2 rfl) hb hno)
    · have hcfg := h.cfg m
      rw [if_neg fun hin => hmn (List.mem_singleton.1 hin)] at hcfg
      exact g.barred m ((List.mem_cons.1 hm).resolve_left hmn) hb (by rw [hcfg]; exact hno)

theorem Coherent.foldl_flagged (f : SeatFlag) (a : FlagAction) {span : List SeatNo} (hspan : span.Nodup)
    (acc : State × List Byte × Bool) (h : acc.1.Coherent .strict) :
    Flagged f a span acc.1 (span.foldl (flagPass f a) acc).1
      ∧ (span.foldl (flagPass f a) acc).2.1 = acc.2.1 ++ span.map fun n => flagByte ((acc.1.seat n).cfg.flag f) := by
  induction span generalizing acc with
  | nil => exact ⟨.refl f a acc.1, by simp⟩
  | cons n span ih =>
    obtain ⟨hn, hspan⟩ := List.nodup_cons.1 hspan
    have hone := h.flagSeat_flagged f a n
    obtain ⟨hflagged, hprior⟩ := ih hspan (flagPass f a acc n) (h.flagSeat f a n)
    refine ⟨hone.cons hn hflagged, ?_⟩
    rw [List.foldl_cons, hprior, List.map_cons]
    change acc.2.1 ++ [_] ++ _ = _
    rw [List.append_assoc]
    refine congrArg (fun l => acc.2.1 ++ (flagByte ((acc.1.seat n).cfg.flag f) :: l)) (List.map_congr_left fun m hm => ?_)
    have hcfg := hone.cfg m
    have hmn : m ≠ n := fun hmn => hn (hmn ▸ hm)
    rw [if_neg fun hin => hmn (List.mem_singleton.1 hin)] at hcfg
    exact congrArg (fun c => flagByte (c.flag f)) hcfg

theorem Flagged.fillRule {f : SeatFlag} {a : FlagAction} {span : List SeatNo} (h : Flagged f a span s t)
    (ht : t.Coherent .strict) : Flagged f a span s t.fillRule where
  outer := h.outer.trans t.fillRule_grantFrame.outer
  holders := t.fillRule_grantFrame.holders.trans h.holders
  cfg m := by rw [t.fillRule_grantFrame.frame.cfg, h.cfg]
  run m := by rw [t.fillRule_grantFrame.frame.seat m, h.run m]
  idle m hm := by
    have hidle := h.idle m hm
    rw [ht.fillRule_seat_of_idle hidle]
    exact hidle
  barred m hm hb hno := by
    rw [t.fillRule_grantFrame.frame.cfg] at hb
    have hidle := h.barred m hm hb hno
    rw [ht.fillRule_seat_of_idle hidle]
    exact hidle

theorem Coherent.flagSpan_flagged (h : s.Coherent .strict) (f : SeatFlag) (a : FlagAction) {span : List SeatNo}
    (hspan : span.Nodup) : Flagged f a span s (s.flagSpan f a span).1
      ∧ (s.flagSpan f a span).2 = span.map fun n => flagByte ((s.seat n).cfg.flag f) := by
  obtain ⟨hflagged, hprior⟩ := Coherent.foldl_flagged f a hspan (s, [], false) h
  have hc := Coherent.foldl_flagPass f a span (s, [], false) h
  unfold State.flagSpan
  dsimp only
  refine ⟨?_, hprior⟩
  split
  · exact hflagged.fillRule hc
  · exact hflagged

/-- The prior values do not rest on the floor. -/
theorem flagSpan_test_prior (f : SeatFlag) (span : List SeatNo) (s : State) :
    (s.flagSpan f .test span).2 = span.map fun n => flagByte ((s.seat n).cfg.flag f) := by
  have hpasses (acc : State × List Byte × Bool) : (span.foldl (flagPass f .test) acc).2.1 =
      acc.2.1 ++ span.map fun n => flagByte ((acc.1.seat n).cfg.flag f) := by
    induction span generalizing acc with
    | nil => simp
    | cons n span ih =>
      have hsame : (flagPass f .test acc n).1 = acc.1 := flagSeat_of_same rfl
      rw [List.foldl_cons, ih, hsame, List.map_cons]
      change acc.2.1 ++ [_] ++ _ = _
      rw [List.append_assoc]
      rfl
  exact hpasses (s, [], false)

end State

/-! ### The operation -/

theorem spanOf_nodup (first count : Nat) : (spanOf first count).Nodup :=
  ((State.allSeats_sorted.imp fun h => ne_of_lt h).sublist (List.drop_sublist _ _)).sublist (List.take_sublist _ _)

theorem flagOfCode_eq_none {x : Byte} (h : 2 < x.toNat) : flagOfCode x = none := by
  unfold flagOfCode
  split
  · omega
  · omega
  · omega
  · rfl

theorem seatFlags_of_bad {first : Half} {count flag : Byte} {a : FlagAction} (s : State)
    (h : count = 0 ∨ 64 < count.toNat ∨ 1023 < first.toNat + count.toNat - 1 ∨ 2 < flag.toNat) :
    seatFlags first count flag a s = (s, only .refusedRange) := by
  unfold seatFlags
  dsimp only
  split
  · rfl
  · next hrange =>
    have hflag : 2 < flag.toNat := by
      rw [Bool.not_eq_true] at hrange
      simp only [Bool.or_eq_false_iff, decide_eq_false_iff_not] at hrange
      obtain ⟨⟨h0, h64⟩, hend⟩ := hrange
      obtain rfl | h | h | h := h
      · exact absurd rfl h0
      · exact absurd h h64
      · exact absurd h hend
      · exact h
    rw [flagOfCode_eq_none hflag]

theorem seatFlags_of_good {first : Half} {count flag : Byte} {a : FlagAction} {g : SeatFlag} (s : State)
    (hflag : flagOfCode flag = some g) (hlow : 1 ≤ count.toNat) (hhigh : count.toNat ≤ 64)
    (hend : first.toNat + count.toNat ≤ 1024) : seatFlags first count flag a s =
      ((s.flagSpan g a (spanOf first.toNat count.toNat)).1,
        .reply .done (count :: (s.flagSpan g a (spanOf first.toNat count.toNat)).2)) := by
  unfold seatFlags
  dsimp only
  rw [if_neg, hflag]
  simp only [Bool.or_eq_true, decide_eq_true_eq]
  omega

/-- The four SEAT FLAGS rows, each under the windows it is taken in (R156, R166). -/
theorem exec_seatFlags {m : MgmtHead} {first : Half} {count flag : Byte} {s : State} {i : Instr} {a : FlagAction}
    (hi : (i = .seatFlagsTest m first count flag ∧ a = .test) ∨ (i = .seatFlagsSet m first count flag ∧ a = .set)
      ∨ (i = .seatFlagsClear m first count flag ∧ a = .clear) ∨ (i = .seatFlagsToggle m first count flag ∧ a = .toggle))
    (htakes : s.Takes (mgmtFrame m .seatFlags (bytesOf first ++ [count, flag, a.code])))
    (hwindow : a = .test ∨ (s.startUp.state ≠ .recalling ∧ s.profile.op = none)) :
    exec i s = .next ((seatFlags first count flag a s).1.answer m.tag (seatFlags first count flag a s).2) := by
  have hplain := operate_of_takes m .seatFlags _ (seatFlags first count flag a) s htakes
  have hheld (hopen : s.startUp.state ≠ .recalling ∧ s.profile.op = none) :
      operate m .seatFlags (seatFlagFields first count flag a) (held .write (seatFlags first count flag a)) s =
        .next ((seatFlags first count flag a s).1.answer m.tag (seatFlags first count flag a s).2) := by
    refine (operate_of_takes m .seatFlags _ _ s htakes).trans ?_
    rw [held_of_none _ _ _ (State.heldOff_write hopen.1 hopen.2)]
  obtain ⟨rfl, rfl⟩ | ⟨rfl, rfl⟩ | ⟨rfl, rfl⟩ | ⟨rfl, rfl⟩ := hi
  · exact hplain
  · exact hheld (hwindow.resolve_left (by decide))
  · exact hheld (hwindow.resolve_left (by decide))
  · exact hheld (hwindow.resolve_left (by decide))

/-- Settles O50: seat after seat of the span, each flag by the action, and the fill rule over seats still listed. -/
theorem seatFlagsReachTheSpan : Obligations.SeatFlagsReachTheSpan := by
  unfold Obligations.SeatFlagsReachTheSpan
  intro m first count flag s i a hi htakes hwindow
  have hexec := exec_seatFlags hi htakes hwindow
  have hup := htakes.1
  refine ⟨fun hbad => ?_, fun g hflag hlow hhigh hend => ?_⟩
  · rw [hexec, seatFlags_of_bad s hbad]
    exact congrArg _ (State.answer_reply_of_up hup)
  intro span prior
  refine ⟨?_, fun hok => ?_⟩
  · rintro rfl
    rw [hexec, seatFlags_of_good s hflag hlow hhigh hend]
    dsimp only
    rw [State.flagSpan_test, State.flagSpan_test_prior, State.answer_reply_of_up hup]
    rfl
  · obtain ⟨hflagged, hprior⟩ := hok.coherent.flagSpan_flagged g a (spanOf_nodup first.toNat count.toNat)
    have huplink := hflagged.outer.uplink
    refine ⟨_, ?_, fun n => ?_, hflagged.barred, hflagged.run, hflagged.holders, hflagged.outer.floor, hflagged.outer.classes,
      hflagged.outer.branches, hflagged.outer.floorCfg, hflagged.outer.profile, hflagged.outer.startUp⟩
    · rw [hexec, seatFlags_of_good s hflag hlow hhigh hend]
      dsimp only
      rw [hprior, State.answer_reply_of_up (by rw [huplink]; exact hup)]
      rfl
    · rw [hflagged.cfg]
      cases a <;> rfl

end Sys2Proof.Machine
end

section
/-! PROOF. A SEAT row write: its refusals, and its whole effect where nothing ends. -/

namespace Sys2Proof.Machine

namespace State

variable {s t u : State} {n : SeatNo} {c : SeatConfig} {budget : Nat}

/-! ### Marks and single records -/

theorem mark_mark (s : State) (n : SeatNo) : (s.mark n).mark n = s.mark n := by
  have hports : ((s.mark n).mark n).ports = (s.mark n).ports := by
    refine ports_ext fun b => ?_
    have hset : (s.mark n).markedSet b n = s.markedSet b n := by
      have hcmd : ((s.mark n).port b).cmdSet = s.markedSet b n := by rw [mark_port]
      have hup : ((s.mark n).port b).up = (s.port b).up := by rw [mark_port]
      rw [markedSet, hcmd, hup, mark_branches]
      unfold markedSet
      split
      · simp
      · rfl
    rw [mark_port, hset, mark_port]
  rw [mark_eq_withPorts (s.mark n), hports]
  rfl

theorem setSeat_setSeat (s : State) (n : SeatNo) (r r' : SeatRecord) : (s.setSeat n r).setSeat n r' = s.setSeat n r' := by
  have h : (s.seats.set n r).set n r' = s.seats.set n r' := Vector.set_set ..
  unfold setSeat
  rw [h]

theorem setSeat_self (s : State) (n : SeatNo) : s.setSeat n (s.seat n) = s := by
  have h : s.seats.set n (s.seat n) = s.seats := Vector.set_getElem_self _
  unfold setSeat
  rw [h]

theorem updRun_setSeat (s : State) (n : SeatNo) (r : SeatRecord) (f : SeatRun → SeatRun) :
    (s.setSeat n r).updRun n f = s.setSeat n { r with run := f r.run } := by
  rw [updRun, seat_setSeat_self, setSeat_setSeat]

theorem updRun_markAll (l : List SeatNo) (s : State) (n : SeatNo) (f : SeatRun → SeatRun) :
    (s.markAll l).updRun n f = (s.updRun n f).markAll l := by
  rw [markAll_eq_withPorts l s, markAll_eq_withPorts l (s.updRun n f), markAll_ports_congr l (s := s) (t := s.updRun n f) rfl rfl]
  rfl

theorem updRun_markMoved (before : List Entry) (s : State) (n : SeatNo) (f : SeatRun → SeatRun) :
    (s.markMoved before).updRun n f = (s.updRun n f).markMoved before := updRun_markAll ..

/-! ### A row that changes nothing -/

theorem rowSet_self : s.rowSet n (s.seat n).cfg (s.seat n).run.budget = s := s.setSeat_self n

theorem writeSeat_self : s.writeSeat n (s.seat n).cfg (s.seat n).run.budget = s := by
  have hstored : s.rowStored n (s.seat n).cfg (s.seat n).run.budget = s := by
    rw [rowStored, rowSet_self, if_neg (by simp)]
  have hentered : s.rowEntered s n (s.seat n).cfg (s.seat n).run.budget = s := by simp [rowEntered]
  have hfollowed : s.rowFollowed s n (s.seat n).cfg (s.seat n).run.budget = s := by simp [rowFollowed, applies]
  have hfills : s.rowFills s n (s.seat n).cfg (s.seat n).run.budget = false := by simp [rowFills]
  rw [writeSeat_eq, hstored]
  dsimp only
  rw [hentered, hfollowed, hfills, if_neg Bool.false_ne_true]

/-! ### A row that ends nothing -/

theorem rowStored_of_plain (h : ¬(c.barred = true ∧ (s.seat n).cfg.barred = false)) :
    s.rowStored n c budget = s.rowSet n c budget := by
  unfold rowStored
  rw [if_neg]
  rwa [Bool.and_eq_true, Bool.not_eq_true']

/-- An entry with its EXHAUSTED flag set (R77). -/
def exhaustedAs (b : Bool) (e : Entry) : Entry := { e with exhausted := b }

theorem refreshExhausted_eq (s : State) (n : SeatNo) : s.refreshExhausted n =
    s.withList { s.list with entries := replaceEntry s.list.entries n (exhaustedAs (s.isExhausted n)) } := rfl

/-- The entry of a WAITING seat, whichever of its fields the row changes (R74). -/
theorem Coherent.rowEntered_of_entry (h : s.Coherent .strict) {e : Entry} (he : e ∈ s.list.entries) (hen : e.seat = n) :
    s.rowEntered (s.rowSet n c budget) n c budget =
      ((s.rowSet n c budget).withList { s.list with
        entries := (s.rowSet n c budget).reclampedEntries n e }).markMoved s.list.entries := by
  have hlist : (s.rowSet n c budget).ListOk := h.list
  have hentry : (s.rowSet n c budget).entryOf n = some e := by
    have hs := entryOf_of_mem h.list he
    rwa [hen] at hs
  obtain ⟨heff, hclamped, hexhausted⟩ := h.entries e he id
  rw [hen] at heff hclamped hexhausted
  unfold State.rowEntered
  dsimp only
  rw [hentry]
  cases hclamps : (c.cls != (s.seat n).cfg.cls || c.speak != (s.seat n).cfg.speak || c.order != (s.seat n).cfg.order) with
  | true => exact reclamp_of_entry hlist hentry
  | false =>
    simp only [Bool.or_eq_false_iff, bne_eq_false_iff_eq] at hclamps
    obtain ⟨⟨hcls, hspeak⟩, horder⟩ := hclamps
    have hentitled : ((s.rowSet n c budget).seat n).cfg.entitled e.kind = (s.seat n).cfg.entitled e.kind := by
      rw [rowSet_seat]
      cases e.kind with
      | speak => exact hspeak
      | order => simp only [SeatConfig.entitled, hspeak, horder]
    have hreclamped : (s.rowSet n c budget).reclamped n e = exhaustedAs ((s.rowSet n c budget).isExhausted n) e := by
      unfold reclamped
      rw [hentitled, ← heff, ← hclamped]
      rfl
    have hsame : (s.rowSet n c budget).reclampedEntries n e =
        replaceEntry s.list.entries n (exhaustedAs ((s.rowSet n c budget).isExhausted n)) := by
      unfold reclampedEntries
      rw [hreclamped]
      exact (if_pos rfl).trans (replaceEntry_const (exhaustedAs _) h.list.2.1 he hen).symm
    have hseats : s.list.entries.map Entry.seat =
        (replaceEntry s.list.entries n (exhaustedAs ((s.rowSet n c budget).isExhausted n))).map Entry.seat :=
      (replaceEntry_seats _ _ (exhaustedAs _) fun _ => rfl).symm
    rw [hsame, markMoved_same hseats]
    cases hrefreshes : (c.exempt != (s.seat n).cfg.exempt || budget != (s.seat n).run.budget) with
    | true => exact refreshExhausted_eq (s.rowSet n c budget) n
    | false =>
      simp only [Bool.or_eq_false_iff, bne_eq_false_iff_eq] at hrefreshes
      have hkept : (s.rowSet n c budget).isExhausted n = s.isExhausted n := by
        unfold isExhausted applies budgetApplies
        rw [rowSet_seat]
        simp only [hcls, hrefreshes]
        rfl
      have hentries : replaceEntry s.list.entries n (exhaustedAs ((s.rowSet n c budget).isExhausted n)) =
          s.list.entries := by
        refine (List.map_congr_left fun x hx => ?_).trans (List.map_id _)
        split
        · next hxn =>
          obtain rfl : x = e := List.inj_on_of_nodup_map h.list.2.1 hx he (hxn.trans hen.symm)
          rw [hkept, ← hexhausted]
          rfl
        · rfl
      rw [hentries]
      rfl

end State
end Sys2Proof.Machine
end

section
/-! PROOF. A SEAT row write that ends nothing: the whole next state. -/

namespace Sys2Proof.Machine

/-- The unit mismatch of a seat under a new class (R12, R162). -/
def rowMismatch (old : SeatRecord) (c : SeatConfig) : Bool :=
  if c.cls = old.cfg.cls then old.run.mismatch else mismatchOf old.run.unitKind c.cls

namespace State

variable {s t u v : State} {n : SeatNo} {c : SeatConfig} {budget : Nat}

/-- A row write shows a changed budget, or a budget that came to apply or ceased to (R9, R162). -/
def RowShows (s : State) (n : SeatNo) (c : SeatConfig) (budget : Nat) : Prop :=
  s.floorCfg.showBudget = true ∧ (s.seat n).run.floor ≠ .speaking
    ∧ ((budget ≠ (s.seat n).run.budget ∧ budgetApplies s.classes c = true) ∨ budgetApplies s.classes c ≠ s.applies n)

theorem rowMarks_eq (hseat : (v.seat n).cfg = c) (hfloor : (v.seat n).run.floor = (s.seat n).run.floor)
    (hclasses : v.classes = s.classes) (hcfg : v.floorCfg = s.floorCfg) [Decidable (s.RowShows n c budget)] :
    (let w := if budget != (s.seat n).run.budget then v.markBudget n else v
     if w.applies n != budgetApplies w.classes (s.seat n).cfg then w.markApplies n else w) =
      if s.RowShows n c budget then v.mark n else v := by
  have happlied (w : State) (hw : w.seat n = v.seat n) (hc : w.classes = v.classes) :
      w.applies n = budgetApplies s.classes c := by
    unfold applies
    rw [hw, hc, hseat, hclasses]
  have hmarks (w : State) (hw : w.seat n = v.seat n) (hf : w.floorCfg = v.floorCfg) : w.markApplies n =
      if ((s.seat n).run.floor != .speaking && s.floorCfg.showBudget) = true then w.mark n else w := by
    unfold markApplies
    rw [hw, hf, hcfg]
    unfold SeatRun.offFloor
    rw [hfloor]
  have hbudget : v.markBudget n = if ((s.seat n).run.floor != .speaking && s.floorCfg.showBudget
      && budgetApplies s.classes c) = true then v.mark n else v := by
    unfold markBudget
    rw [happlied v rfl rfl, hcfg]
    unfold SeatRun.offFloor
    rw [hfloor]
  have hshows : s.RowShows n c budget ↔ ((s.seat n).run.floor != .speaking && s.floorCfg.showBudget) = true
      ∧ ((budget ≠ (s.seat n).run.budget ∧ budgetApplies s.classes c = true) ∨ budgetApplies s.classes c ≠ s.applies n) := by
    rw [Bool.and_eq_true, bne_iff_ne, and_comm (a := _ ≠ _), and_assoc]
    rfl
  have hold : budgetApplies s.classes (s.seat n).cfg = s.applies n := rfl
  have hmark : (v.mark n).applies n = budgetApplies s.classes c := happlied _ (mark_seat ..) (mark_classes ..)
  have htwice := mark_mark v n
  dsimp only
  simp only [hshows]
  rw [hbudget]
  generalize ((s.seat n).run.floor != .speaking && s.floorCfg.showBudget) = on at *
  cases on with
  | false =>
    simp [hmarks v rfl rfl]
  | true =>
    have hone := hmarks v rfl rfl
    have htwo := hmarks (v.mark n) (mark_seat ..) (mark_floorCfg ..)
    by_cases hb : budget = (s.seat n).run.budget
    · simp [hb, happlied v rfl rfl, hclasses, hold, hone]
    · cases ha : budgetApplies s.classes c with
      | false => simp [hb, happlied v rfl rfl, hclasses, hold, hone, ha]
      | true => simp [hb, ha, hmark, hclasses, hold, htwo, htwice]

/-- The class, the marks and nothing else follow a row of a seat that is a CHAIR seat neither before nor after, or keeps
its class (R162 steps 4 to 6). -/
theorem rowFollowed_of_plain (hseat : v.seat n = (s.rowSet n c budget).seat n)
    (hclasses : v.classes = s.classes) (hcfg : v.floorCfg = s.floorCfg)
    (hplain : c.cls = (s.seat n).cfg.cls ∨ (c.cls ≠ .chair ∧ (s.seat n).cfg.cls ≠ .chair))
    [Decidable (s.RowShows n c budget)] :
    s.rowFollowed v n c budget =
      (let w := v.updRun n fun r => { r with mismatch := rowMismatch (s.seat n) c }
       if s.RowShows n c budget then w.mark n else w) := by
  rw [rowSet_seat] at hseat
  have hclass : (if (c.cls != (s.seat n).cfg.cls) = true then v.classConsequences n (s.seat n).cfg.cls else v) =
      v.updRun n fun r => { r with mismatch := rowMismatch (s.seat n) c } := by
    by_cases hc : c.cls = (s.seat n).cfg.cls
    · have hself : (⟨c, { (s.seat n).run with budget := budget }⟩ : SeatRecord) = v.seat n := hseat.symm
      rw [if_neg (by simp [hc]), updRun, hseat, rowMismatch, if_pos hc]
      exact ((congrArg (v.setSeat n) hself).trans (setSeat_self v n)).symm
    · obtain ⟨hnow, hold⟩ := hplain.resolve_left hc
      rw [if_pos (by simpa using hc), classConsequences]
      rw [hseat, if_neg hold, if_neg (by simp [hnow]), if_neg (by simp [hold]), updRun, updRun, hseat]
      unfold rowMismatch
      rw [if_neg hc]
  have hrecord : (v.updRun n fun r => { r with mismatch := rowMismatch (s.seat n) c }).seat n =
      ⟨c, { (s.seat n).run with budget := budget, mismatch := rowMismatch (s.seat n) c }⟩ := by
    rw [updRun, seat_setSeat_self, hseat]
  have hclasses' : (v.updRun n fun r => { r with mismatch := rowMismatch (s.seat n) c }).classes = s.classes := hclasses
  have hcfg' : (v.updRun n fun r => { r with mismatch := rowMismatch (s.seat n) c }).floorCfg = s.floorCfg := hcfg
  unfold rowFollowed
  dsimp only
  rw [hclass]
  generalize (v.updRun n fun r => { r with mismatch := rowMismatch (s.seat n) c }) = w at *
  exact rowMarks_eq (by rw [hrecord]) (by rw [hrecord]) hclasses' hcfg'

/-- The record of a row of a seat whose class has no consequence but for the unit mismatch. -/
def rowPlain (s : State) (n : SeatNo) (c : SeatConfig) (budget : Nat) : State :=
  s.setSeat n ⟨c, { (s.seat n).run with budget := budget, mismatch := rowMismatch (s.seat n) c }⟩

theorem updRun_rowSet (s : State) (n : SeatNo) (c : SeatConfig) (budget : Nat) :
    ((s.rowSet n c budget).updRun n fun r => { r with mismatch := rowMismatch (s.seat n) c }) = s.rowPlain n c budget :=
  updRun_setSeat ..

/-- A row of a seat that does not wait (R162). -/
theorem writeSeat_of_unlisted (hbarred : ¬(c.barred = true ∧ (s.seat n).cfg.barred = false))
    (hplain : c.cls = (s.seat n).cfg.cls ∨ (c.cls ≠ .chair ∧ (s.seat n).cfg.cls ≠ .chair))
    (hn : n ∉ s.list.entries.map Entry.seat) [Decidable (s.RowShows n c budget)] :
    s.writeSeat n c budget =
      if s.RowShows n c budget then (s.rowPlain n c budget).mark n else s.rowPlain n c budget := by
  have hnone : (s.rowSet n c budget).entryOf n = none := by
    rw [← Option.not_isSome_iff_eq_none, entryOf_isSome_iff]
    exact hn
  have hentered : s.rowEntered (s.rowSet n c budget) n c budget = s.rowSet n c budget := by
    simp [rowEntered, hnone]
  have hfills : s.rowFills (s.rowSet n c budget) n c budget = false := by simp [rowFills, hnone]
  rw [writeSeat_eq, rowStored_of_plain hbarred]
  dsimp only
  rw [hentered, hfills, if_neg Bool.false_ne_true, rowFollowed_of_plain (v := s.rowSet n c budget) rfl rfl rfl hplain]
  dsimp only
  rw [updRun_rowSet]

/-- A row of a WAITING seat (R74, R162). -/
theorem Coherent.writeSeat_of_entry (h : s.Coherent .strict)
    (hbarred : ¬(c.barred = true ∧ (s.seat n).cfg.barred = false))
    (hplain : c.cls = (s.seat n).cfg.cls ∨ (c.cls ≠ .chair ∧ (s.seat n).cfg.cls ≠ .chair))
    {e : Entry} (he : e ∈ s.list.entries) (hen : e.seat = n) [Decidable (s.RowShows n c budget)] :
    s.writeSeat n c budget =
      let entered := ((s.rowPlain n c budget).withList { s.list with
        entries := (s.rowSet n c budget).reclampedEntries n e }).markMoved s.list.entries
      let listed := if s.RowShows n c budget then entered.mark n else entered
      if c.cls ≠ (s.seat n).cfg.cls ∨ c.speak ≠ (s.seat n).cfg.speak ∨ c.order ≠ (s.seat n).cfg.order
        ∨ c.exempt ≠ (s.seat n).cfg.exempt ∨ budget ≠ (s.seat n).run.budget then listed.fillRule else listed := by
  have hsome : ((s.rowSet n c budget).entryOf n).isSome = true :=
    (entryOf_isSome_iff _ n).2 (List.mem_map.2 ⟨e, he, hen⟩)
  have hfills : s.rowFills (s.rowSet n c budget) n c budget = true ↔
      c.cls ≠ (s.seat n).cfg.cls ∨ c.speak ≠ (s.seat n).cfg.speak ∨ c.order ≠ (s.seat n).cfg.order
        ∨ c.exempt ≠ (s.seat n).cfg.exempt ∨ budget ≠ (s.seat n).run.budget := by
    unfold rowFills
    dsimp only
    rw [hsome]
    have habsorb (x y : Bool) : (x || (!x && y)) = (x || y) := by cases x <;> rfl
    rw [Bool.true_and, Bool.true_and, habsorb]
    simp only [Bool.or_eq_true, bne_iff_ne, or_assoc]
  rw [writeSeat_eq, rowStored_of_plain hbarred]
  dsimp only
  simp only [hfills]
  rw [h.rowEntered_of_entry he hen]
  have hframe := markMoved_frame ((s.rowSet n c budget).withList { s.list with
    entries := (s.rowSet n c budget).reclampedEntries n e }) s.list.entries
  have hmismatch : (((s.rowSet n c budget).withList { s.list with
      entries := (s.rowSet n c budget).reclampedEntries n e }).markMoved s.list.entries).updRun n
        (fun r => { r with mismatch := rowMismatch (s.seat n) c }) =
      ((s.rowPlain n c budget).withList { s.list with
        entries := (s.rowSet n c budget).reclampedEntries n e }).markMoved s.list.entries := by
    rw [updRun_markMoved, ← updRun_rowSet]
    rfl
  rw [rowFollowed_of_plain (congrArg (·[n.val]) hframe.seats) hframe.classes hframe.floorCfg hplain]
  dsimp only
  rw [hmismatch]

end State
end Sys2Proof.Machine
end

section
/-! PROOF. Which acts leave a seat's budget, and what the chair's key leaves of other seats. -/

namespace Sys2Proof.Machine

namespace State

variable {k : Slack} {s t u : State} {n m : SeatNo}

/-! ### Budgets -/

theorem grant_budget (s : State) (m : SeatNo) (q : TurnKind) (l : Level) (a : Bool) (n : SeatNo) :
    ((s.grant m q l a).seat n).run.budget = (s.seat n).run.budget := by
  obtain ⟨-, hsame⟩ | ⟨c, -, -, hseat, -⟩ := s.grant_cases m q l a
  · rw [hsame]
  · rw [hseat]
    split <;> rfl

theorem fillRule_budget (s : State) (n : SeatNo) : (s.fillRule.seat n).run.budget = (s.seat n).run.budget :=
  fillRule_induct (R := fun s t => (t.seat n).run.budget = (s.seat n).run.budget) (fun _ => rfl)
    (fun _ _ _ h g => g.trans h) (fun s _ _ => s.grant_budget _ _ _ _ n) s

theorem removeEntry_budget (s : State) (m : SeatNo) (r : Reason) (n : SeatNo) :
    ((s.removeEntry m r).seat n).run.budget = (s.seat n).run.budget := by
  rw [removeEntry_seat]
  split <;> rfl

theorem relist_budget (s : State) (m : SeatNo) (l : Level) (n : SeatNo) :
    ((s.relist m l).seat n).run.budget = (s.seat n).run.budget := by
  obtain ⟨-, heq⟩ | ⟨-, hnone, heq⟩ := s.relist_cases m l
  · rw [heq]
  · rw [heq, notice_seat, insertBy_seat _ _ _ hnone]
    split <;> rfl

/-- A close takes the used seconds of no other seat. -/
theorem closeChannel_seat_of_ne (s : State) (c : ChanNo) (r : Reason) (h : m ≠ n) :
    (s.closeChannel c m r).seat n = s.seat n := by
  by_cases hcan : s.canClose c m = true
  · obtain ⟨-, -, hseat⟩ := s.closeChannel_taken c m r hcan
    rw [hseat, if_neg h]
  · rw [closeChannel, if_neg hcan]

theorem closeSeat_budget_of_ne (s : State) (r : Reason) (h : m ≠ n) :
    ((s.closeSeat m r).seat n).run.budget = (s.seat n).run.budget := by
  unfold closeSeat
  split
  · next c _ =>
    unfold closeAndFill
    split
    · rw [fillRule_budget, closeChannel_seat_of_ne s c r h]
    · rfl
  · rfl

theorem closeSeat_of_off (s : State) (r : Reason) (h : (s.seat n).run.chan = none) : s.closeSeat n r = s := by
  unfold closeSeat
  rw [h]

theorem Coherent.displace_budget (h : s.Coherent k) (c : ChanNo) (hn : (s.seat n).run.chan = none) :
    ((s.displace c).seat n).run.budget = (s.seat n).run.budget := by
  unfold State.displace
  split
  · next m l hm _ =>
    have hne : m ≠ n := fun hmn => by
      have hchan := ((h.seats m).2.1 c).2 ⟨h.channels.named hm, hm⟩
      rw [hmn, hn] at hchan
      cases hchan
    dsimp only
    split
    · rw [relist_budget, closeChannel_seat_of_ne s c _ hne]
    · rw [closeChannel_seat_of_ne s c _ hne]
  · rfl

theorem Coherent.chairGrant_budget (h : s.Coherent k) (a : Bool) (hn : (s.seat n).run.chan = none) :
    ((s.chairGrant m a).seat n).run.budget = (s.seat n).run.budget := by
  unfold State.chairGrant
  split
  · exact s.grant_budget ..
  · split
    · rfl
    · next c _ => rw [fillRule_budget, grant_budget, h.displace_budget c hn]

theorem refused_seat (s : State) (n : SeatNo) (q : Reason) :
    (s.refused n q).seat m = if n = m then ⟨(s.seat m).cfg, { (s.seat m).run with refusalShown := true }⟩ else s.seat m := by
  unfold refused
  rw [notice_seat, mark_seat, setRefusal_seat, seat_updRun]

/-! ### The chair's KEY2 level -/

theorem Coherent.priorityKey_budget (h : s.Coherent k) (down was : Bool) (hn : (s.seat n).run.chan = none) :
    ((s.priorityKey n down was).seat n).run.budget = (s.seat n).run.budget := by
  cases down with
  | false => rw [priorityKey_of_up, State.seat, (leaveHolders_holdFrame s n).seats]; rfl
  | true =>
    by_cases hin : n ∈ s.holders
    · rw [priorityKey_of_holder was hin]
    cases hbarred : (s.seat n).cfg.barred with
    | true =>
      rw [priorityKey_of_barred was hin hbarred]
      split
      · rfl
      · rw [refused_seat, if_pos rfl]
    | false =>
      rw [priorityKey_of_down was hin hbarred, State.seat, (joinHolders_holdFrame _ n).seats]
      split
      · rfl
      · exact h.chairGrant_budget true hn

/-- A BARRED seat's KEY2 level leaves its floor state. -/
theorem priorityKey_floor_of_barred (down was : Bool) (hbarred : (s.seat n).cfg.barred = true) :
    ((s.priorityKey n down was).seat n).run.floor = (s.seat n).run.floor := by
  cases down with
  | false => rw [priorityKey_of_up, State.seat, (leaveHolders_holdFrame s n).seats]; rfl
  | true =>
    by_cases hin : n ∈ s.holders
    · rw [priorityKey_of_holder was hin]
    rw [priorityKey_of_barred was hin hbarred]
    split
    · rfl
    · rw [refused_seat, if_pos rfl]

/-- The KEY2 level of a CHAIR seat shows no refusal at another seat. -/
theorem priorityKey_shown_of_ne (down was : Bool) (hm : n ≠ m) :
    ((s.priorityKey n down was).seat m).run.refusalShown = (s.seat m).run.refusalShown := by
  cases down with
  | false => rw [priorityKey_of_up, State.seat, (leaveHolders_holdFrame s n).seats]; rfl
  | true =>
    by_cases hin : n ∈ s.holders
    · rw [priorityKey_of_holder was hin]
    cases hbarred : (s.seat n).cfg.barred with
    | true =>
      rw [priorityKey_of_barred was hin hbarred]
      split
      · rfl
      · rw [refused_seat, if_neg hm]
    | false =>
      rw [priorityKey_of_down was hin hbarred, State.seat, (joinHolders_holdFrame _ n).seats]
      split
      · rfl
      · change ((s.chairGrant n true).seat m).run.refusalShown = _
        rw [(chairGrant_grantFrame s n true).frame.seat m]

/-- The holder set after a CHAIR seat's KEY2 level: it holds exactly by the level, unless it is BARRED (R50). -/
theorem mem_priorityKey (hsorted : s.holders.Pairwise (· < ·)) (down was : Bool) (m : SeatNo) :
    m ∈ (s.priorityKey n down was).holders ↔
      if m = n then down = true ∧ (n ∈ s.holders ∨ (s.seat n).cfg.barred = false) else m ∈ s.holders := by
  cases down with
  | false =>
    rw [priorityKey_of_up, mem_leaveHolders hsorted]
    split
    · next h => simp [h]
    · next h => simp [h]
  | true =>
    by_cases hin : n ∈ s.holders
    · rw [priorityKey_of_holder was hin]
      split
      · next h => simp [h, hin]
      · rfl
    cases hbarred : (s.seat n).cfg.barred with
    | true =>
      have hheld : (if was then s else s.refused n .barred).holders = s.holders := by
        split
        · rfl
        · exact ((mark_frame _ n).trans (notice_frame ..)).holders
      rw [priorityKey_of_barred was hin hbarred, hheld]
      split
      · next h => simp [h, hin]
      · rfl
    | false =>
      have hheld : (if (s.seat n).run.floor = .speaking then s else s.chairGrant n true).holders = s.holders := by
        split
        · rfl
        · exact (chairGrant_grantFrame s n true).holders
      rw [priorityKey_of_down was hin hbarred, mem_joinHolders, hheld]
      split
      · next h => simp [h]
      · next h => simp [h]

end State
end Sys2Proof.Machine
end

section
/-! PROOF. What a SEAT row write leaves, part after part. -/

namespace Sys2Proof.Machine

namespace State

variable {k : Slack} {s t u v : State} {n m : SeatNo} {c : SeatConfig} {budget : Nat}

/-! ### Every seat but one -/

/-- The outer frame, and every seat but one but for its floor state, channel and budget. -/
structure OthersFrame (n : SeatNo) (s t : State) : Prop extends OuterFrame s t where
  seat : ∀ m : SeatNo, m ≠ n → t.seat m = ⟨(s.seat m).cfg, { (s.seat m).run with
    floor := (t.seat m).run.floor, chan := (t.seat m).run.chan, budget := (t.seat m).run.budget }⟩

theorem OthersFrame.refl (n : SeatNo) (s : State) : OthersFrame n s s := ⟨.refl s, fun _ _ => rfl⟩

theorem OthersFrame.trans (h : OthersFrame n s t) (g : OthersFrame n t u) : OthersFrame n s u where
  toOuterFrame := h.toOuterFrame.trans g.toOuterFrame
  seat m hm := by rw [g.seat m hm, h.seat m hm]

theorem OthersFrame.opt {p : Prop} [Decidable p] (ht : OthersFrame n s t) (hu : OthersFrame n s u) :
    OthersFrame n s (if p then t else u) := by
  split
  · exact ht
  · exact hu

theorem GrantFrame.others (h : GrantFrame s t) (n : SeatNo) : OthersFrame n s t := ⟨h.outer, fun m _ => by rw [h.frame.seat m]⟩

theorem HoldFrame.others (h : HoldFrame s t) (n : SeatNo) : OthersFrame n s t := ⟨h.outer, fun m _ => by rw [h.frame.seat m]⟩

theorem setSeat_others (s : State) (n : SeatNo) (r : SeatRecord) : OthersFrame n s (s.setSeat n r) :=
  ⟨setSeat_outer s n r, fun m hm => by rw [seat_setSeat_of_ne s n m r hm.symm]⟩

theorem priorityKey_others (s : State) (n : SeatNo) (down was : Bool) : OthersFrame n s (s.priorityKey n down was) where
  toOuterFrame := (s.priorityKey_keyFrame n down was).toOuterFrame
  seat m hm := by rw [(s.priorityKey_keyFrame n down was).seat m, priorityKey_shown_of_ne down was hm.symm]

/-! ### The class consequences in their parts -/

/-- The unit mismatch set, and the holder set left by a seat that was a CHAIR seat. -/
def classLeft (s : State) (n : SeatNo) (before : SeatClass) : State :=
  let t := s.updRun n fun r => { r with mismatch := mismatchOf r.unitKind (s.seat n).cfg.cls }
  if before = .chair then t.leaveHolders n else t

/-- The channel of a seat that was a CHAIR seat closed on a CLOSED floor. -/
def classClosed (s : State) (n : SeatNo) (before : SeatClass) : State :=
  let v := s.classLeft n before
  if before = .chair && v.floor == .closed then v.closeSeat n .floorClosed else v

theorem classConsequences_eq (s : State) (n : SeatNo) (before : SeatClass) : s.classConsequences n before =
    let w := s.classClosed n before
    if (s.seat n).cfg.cls = .chair && (w.seat n).run.present && w.startUp.state == .ready then
      w.priorityKey n (w.seat n).run.down2 false
    else w := rfl

theorem classLeft_frame (s : State) (n : SeatNo) (before : SeatClass) :
    HoldFrame (s.updRun n fun r => { r with mismatch := mismatchOf r.unitKind (s.seat n).cfg.cls }) (s.classLeft n before) := by
  unfold classLeft
  dsimp only
  split
  · exact leaveHolders_holdFrame ..
  · exact .refl _

theorem classClosed_frame (s : State) (n : SeatNo) (before : SeatClass) :
    GrantFrame (s.classLeft n before) (s.classClosed n before) := by
  unfold classClosed
  dsimp only
  split
  · exact closeSeat_grantFrame ..
  · exact .refl _

theorem classLeft_seat (s : State) (n : SeatNo) (before : SeatClass) : (s.classLeft n before).seat n =
    ⟨(s.seat n).cfg, { (s.seat n).run with mismatch := mismatchOf (s.seat n).run.unitKind (s.seat n).cfg.cls }⟩ := by
  rw [State.seat, (s.classLeft_frame n before).seats]
  exact seat_setSeat_self ..

/-- The record of a seat of changed class once its mismatch is set, its holder set left and its channel closed. -/
theorem classClosed_seat (s : State) (n : SeatNo) (before : SeatClass) : (s.classClosed n before).seat n =
    ⟨(s.seat n).cfg, { (s.seat n).run with
      mismatch := mismatchOf (s.seat n).run.unitKind (s.seat n).cfg.cls
      floor := ((s.classClosed n before).seat n).run.floor, chan := ((s.classClosed n before).seat n).run.chan
      budget := ((s.classClosed n before).seat n).run.budget }⟩ := by
  rw [(s.classClosed_frame n before).frame.seat n, classLeft_seat]

theorem classConsequences_others (s : State) (n : SeatNo) (before : SeatClass) :
    OthersFrame n s (s.classConsequences n before) := by
  rw [classConsequences_eq]
  have hclosed : OthersFrame n s (s.classClosed n before) := (setSeat_others s n _).trans
    (((s.classLeft_frame n before).others n).trans ((s.classClosed_frame n before).others n))
  exact .opt (hclosed.trans (priorityKey_others ..)) hclosed

/-- The record of a seat after its class consequences (R162 step 4). -/
theorem classConsequences_seat (s : State) (n : SeatNo) (before : SeatClass) : (s.classConsequences n before).seat n =
    ⟨(s.seat n).cfg, { (s.seat n).run with
      mismatch := mismatchOf (s.seat n).run.unitKind (s.seat n).cfg.cls
      floor := ((s.classConsequences n before).seat n).run.floor
      chan := ((s.classConsequences n before).seat n).run.chan
      budget := ((s.classConsequences n before).seat n).run.budget
      refusalShown := ((s.classConsequences n before).seat n).run.refusalShown }⟩ := by
  have hkey : KeyFrame (s.classClosed n before) (s.classConsequences n before) := by
    rw [classConsequences_eq]
    exact .opt (priorityKey_keyFrame ..) (.refl _)
  rw [hkey.seat n, s.classClosed_seat n before]

/-- A seat off the floor has nothing to close. -/
theorem classClosed_of_off (before : SeatClass) (h : (s.seat n).run.chan = none) :
    s.classClosed n before = s.classLeft n before := by
  have hoff : ((s.classLeft n before).seat n).run.chan = none := by
    rw [classLeft_seat]
    exact h
  unfold classClosed
  dsimp only
  rw [closeSeat_of_off _ _ hoff]
  split <;> rfl

theorem Coherent.classLeft {before now : SeatClass} (h : s.Coherent (Slack.strict.deposed n before now)) :
    (s.classLeft n before).Coherent (Slack.strict.deposed n before now) := by
  have hset := h.mismatchSet n (s.seat n).cfg.cls
  exact .opt (hset.leaveHolders n fun _ => id) hset

theorem Coherent.classConsequences_budget {before : SeatClass}
    (h : s.Coherent (Slack.strict.deposed n before (s.seat n).cfg.cls)) (hoff : (s.seat n).run.chan = none) :
    ((s.classConsequences n before).seat n).run.budget = (s.seat n).run.budget := by
  have hseat := s.classLeft_seat n before
  rw [classConsequences_eq, classClosed_of_off before hoff]
  dsimp only
  split
  · rw [h.classLeft.priorityKey_budget _ _ (by rw [hseat]; exact hoff), hseat]
  · rw [hseat]

theorem classConsequences_floor_of_barred (before : SeatClass) (hoff : (s.seat n).run.chan = none)
    (hbarred : (s.seat n).cfg.barred = true) :
    ((s.classConsequences n before).seat n).run.floor = (s.seat n).run.floor := by
  have hseat := s.classLeft_seat n before
  rw [classConsequences_eq, classClosed_of_off before hoff]
  dsimp only
  split
  · rw [priorityKey_floor_of_barred _ _ (by rw [hseat]; exact hbarred), hseat]
  · rw [hseat]

theorem mem_classClosed (hsorted : s.holders.Pairwise (· < ·)) (before : SeatClass) (m : SeatNo) :
    m ∈ (s.classClosed n before).holders ↔ (before = .chair → m ≠ n) ∧ m ∈ s.holders := by
  rw [(s.classClosed_frame n before).holders]
  unfold classLeft
  dsimp only
  split
  · next hb =>
    simp only [hb, true_imp_iff]
    exact mem_leaveHolders (s := s.updRun n _) hsorted n m
  · next hb =>
    simp only [hb, false_imp_iff, true_and]
    rfl

theorem classClosed_sorted (hsorted : s.holders.Pairwise (· < ·)) (before : SeatClass) :
    (s.classClosed n before).holders.Pairwise (· < ·) := by
  rw [(s.classClosed_frame n before).holders]
  unfold classLeft
  dsimp only
  split
  · rw [leaveHolders_holders]
    split
    · exact hsorted.sublist List.erase_sublist
    · exact hsorted
  · exact hsorted

/-- The class consequences of a seat leave the membership of every other. -/
theorem mem_classConsequences_of_ne (hsorted : s.holders.Pairwise (· < ·)) (before : SeatClass) (hm : m ≠ n) :
    m ∈ (s.classConsequences n before).holders ↔ m ∈ s.holders := by
  have hclosed : m ∈ (s.classClosed n before).holders ↔ m ∈ s.holders := by
    rw [mem_classClosed hsorted]
    exact ⟨fun h => h.2, fun h => ⟨fun _ => hm, h⟩⟩
  rw [classConsequences_eq, ← hclosed]
  dsimp only
  split
  · rw [mem_priorityKey (classClosed_sorted hsorted before), if_neg hm]
  · rfl

/-- A seat that becomes a CHAIR seat joins the holder set where its KEY2 is DOWN and it may (R3, R162). -/
theorem mem_classConsequences_of_new_chair (hsorted : s.holders.Pairwise (· < ·)) {before : SeatClass} (hout : n ∉ s.holders)
    (hnow : (s.seat n).cfg.cls = .chair) : n ∈ (s.classConsequences n before).holders ↔
      (s.seat n).run.present = true ∧ s.startUp.state = .ready ∧ (s.seat n).run.down2 = true
        ∧ (s.seat n).cfg.barred = false := by
  have hclosed : n ∉ (s.classClosed n before).holders := fun h => hout ((mem_classClosed hsorted before n).1 h).2
  have hseat := s.classClosed_seat n before
  have hstart : (s.classClosed n before).startUp = s.startUp :=
    (s.classClosed_frame n before).outer.startUp.trans (s.classLeft_frame n before).outer.startUp
  have hsorted' := classClosed_sorted (n := n) hsorted before
  rw [classConsequences_eq]
  dsimp only
  rw [hstart]
  generalize s.classClosed n before = w at *
  have hcfg : (w.seat n).cfg = (s.seat n).cfg := by rw [hseat]
  have hpresent : (w.seat n).run.present = (s.seat n).run.present := by rw [hseat]
  have hdown : (w.seat n).run.down2 = (s.seat n).run.down2 := by rw [hseat]
  rw [hpresent, hdown]
  split
  · next hready =>
    simp only [Bool.and_eq_true, decide_eq_true_iff, beq_iff_eq] at hready
    obtain ⟨⟨-, hp⟩, hr⟩ := hready
    rw [mem_priorityKey hsorted', if_pos rfl, hcfg]
    exact ⟨fun h => ⟨hp, hr, h.1, h.2.resolve_left hclosed⟩, fun h => ⟨h.2.2.1, .inr h.2.2.2⟩⟩
  · next hready =>
    refine ⟨fun h => absurd h hclosed, fun h => absurd ?_ hready⟩
    simp [hnow, h.1, h.2.1]

end State
end Sys2Proof.Machine
end

section
/-! PROOF. A SEAT row write as a whole: the row's seat, the other seats, the holder set. -/

namespace Sys2Proof.Machine

namespace State

variable {s t u v w : State} {n m : SeatNo} {c : SeatConfig} {budget : Nat}

/-! ### The parts of the write -/

theorem rowEntered_seats (s v : State) (n : SeatNo) (c : SeatConfig) (budget : Nat) :
    (s.rowEntered v n c budget).seats = v.seats := by
  unfold rowEntered
  dsimp only
  split
  · rw [refreshExhausted_seats]
    split
    · rw [reclamp_seats]
    · rfl
  · split
    · rw [reclamp_seats]
    · rfl

/-- The class consequences, where the class changes (R162 step 4). -/
def rowClassed (s v : State) (n : SeatNo) (c : SeatConfig) : State :=
  if c.cls != (s.seat n).cfg.cls then v.classConsequences n (s.seat n).cfg.cls else v

theorem markBudget_grantFrame (s : State) (n : SeatNo) : GrantFrame s (s.markBudget n) := by
  unfold markBudget
  split
  · exact mark_grantFrame s n
  · exact .refl s

theorem rowFollowed_frame (s v : State) (n : SeatNo) (c : SeatConfig) (budget : Nat) :
    TellFrame (s.rowClassed v n c) (s.rowFollowed v n c budget) ∧ GrantFrame (s.rowClassed v n c) (s.rowFollowed v n c budget) := by
  have htold (u : State) : TellFrame u (if (budget != (s.seat n).run.budget) = true then u.markBudget n else u)
      ∧ GrantFrame u (if (budget != (s.seat n).run.budget) = true then u.markBudget n else u) := by
    split
    · exact ⟨markBudget_frame u n, markBudget_grantFrame u n⟩
    · exact ⟨.refl u, .refl u⟩
  have happlied (u : State) : TellFrame u (if (u.applies n != budgetApplies u.classes (s.seat n).cfg) = true then
        u.markApplies n else u)
      ∧ GrantFrame u (if (u.applies n != budgetApplies u.classes (s.seat n).cfg) = true then u.markApplies n else u) := by
    split
    · exact ⟨markApplies_frame u n, markApplies_grantFrame u n⟩
    · exact ⟨.refl u, .refl u⟩
  exact ⟨(htold _).1.trans (happlied _).1, (htold _).2.trans (happlied _).2⟩

/-- The row stored, with what it ends and the entry it leaves (R162 steps 1 to 3). -/
def rowBegun (s : State) (n : SeatNo) (c : SeatConfig) (budget : Nat) : State :=
  s.rowEntered (s.rowStored n c budget) n c budget

theorem rowBegun_frame (s : State) (n : SeatNo) (c : SeatConfig) (budget : Nat) :
    GrantFrame (s.rowSet n c budget) (s.rowBegun n c budget) :=
  (s.rowStored_frame n c budget).trans (s.rowEntered_frame _ n c budget)

theorem rowBegun_seat (s : State) (n : SeatNo) (c : SeatConfig) (budget : Nat) : (s.rowBegun n c budget).seat n =
    ⟨c, { (s.seat n).run with
      floor := ((s.rowBegun n c budget).seat n).run.floor, chan := ((s.rowBegun n c budget).seat n).run.chan
      budget := ((s.rowBegun n c budget).seat n).run.budget }⟩ := by
  rw [(s.rowBegun_frame n c budget).frame.seat n, rowSet_seat]

theorem rowBegun_holders (s : State) (n : SeatNo) (c : SeatConfig) (budget : Nat) : (s.rowBegun n c budget).holders = s.holders :=
  (s.rowBegun_frame n c budget).holders

theorem writeSeat_frame (s : State) (n : SeatNo) (c : SeatConfig) (budget : Nat) :
    GrantFrame (s.rowClassed (s.rowBegun n c budget) n c) (s.writeSeat n c budget) := by
  rw [writeSeat_eq]
  dsimp only
  have hfollowed := (s.rowFollowed_frame (s.rowBegun n c budget) n c budget).2
  unfold State.rowBegun at hfollowed ⊢
  split
  · exact hfollowed.trans (fillRule_grantFrame _)
  · exact hfollowed

/-! ### The other seats -/

theorem writeSeat_others (s : State) (n : SeatNo) (c : SeatConfig) (budget : Nat) : OthersFrame n s (s.writeSeat n c budget) := by
  refine .trans (.trans (setSeat_others s n _) ((s.rowBegun_frame n c budget).others n))
    (.trans ?_ ((s.writeSeat_frame n c budget).others n))
  exact .opt (classConsequences_others ..) (.refl n _)

theorem mem_writeSeat_of_ne (hsorted : s.holders.Pairwise (· < ·)) (hm : m ≠ n) :
    m ∈ (s.writeSeat n c budget).holders ↔ m ∈ s.holders := by
  have hbegun := s.rowBegun_holders n c budget
  rw [(s.writeSeat_frame n c budget).holders, ← hbegun]
  unfold rowClassed
  split
  · exact mem_classConsequences_of_ne (by rwa [hbegun]) _ hm
  · rfl

/-! ### The row's seat -/

theorem writeSeat_cfg (s : State) (n : SeatNo) (c : SeatConfig) (budget : Nat) : ((s.writeSeat n c budget).seat n).cfg = c := by
  rw [(s.writeSeat_frame n c budget).frame.cfg]
  unfold rowClassed
  split
  · rw [classConsequences_seat, rowBegun_seat]
  · rw [rowBegun_seat]

theorem writeSeat_mismatch (s : State) (n : SeatNo) (c : SeatConfig) (budget : Nat) :
    ((s.writeSeat n c budget).seat n).run.mismatch = rowMismatch (s.seat n) c := by
  rw [(s.writeSeat_frame n c budget).frame.seat n]
  unfold rowClassed rowMismatch
  by_cases hc : c.cls = (s.seat n).cfg.cls
  · rw [if_neg (by simp [hc]), if_pos hc, rowBegun_seat]
  · rw [if_pos (by simp [hc]), if_neg hc, classConsequences_seat, rowBegun_seat]

/-- A seat that becomes a CHAIR seat holds priority by its KEY2 level (R3, R162). -/
theorem Coherent.mem_writeSeat_of_new_chair (h : s.Coherent .strict) (hnow : c.cls = .chair)
    (hbefore : (s.seat n).cfg.cls ≠ .chair) : n ∈ (s.writeSeat n c budget).holders ↔
      (s.seat n).run.present = true ∧ s.startUp.state = .ready ∧ (s.seat n).run.down2 = true ∧ c.barred = false := by
  have hbegun := s.rowBegun_holders n c budget
  have hseat := s.rowBegun_seat n c budget
  have hstart : (s.rowBegun n c budget).startUp = s.startUp := (s.rowBegun_frame n c budget).outer.startUp
  have hout : n ∉ s.holders := fun hin => hbefore (h.chairs n hin id)
  rw [(s.writeSeat_frame n c budget).holders]
  unfold State.rowClassed
  rw [if_pos (by rw [hnow, bne_iff_ne]; exact fun hc => hbefore hc.symm),
    mem_classConsequences_of_new_chair (by rw [hbegun]; exact h.sorted) (by rwa [hbegun]) (by rw [hseat]; exact hnow),
    hstart, hseat]

theorem Coherent.rowBegun (h : s.Coherent .strict) (n : SeatNo) (c : SeatConfig) (budget : Nat) :
    (s.rowBegun n c budget).Coherent (Slack.strict.deposed n (s.seat n).cfg.cls c.cls) := h.rowEntered

/-- A seat off the floor has the row's budget until the class consequences, and nothing to close. -/
theorem Coherent.rowBegun_off (h : s.Coherent .strict) (hn : (s.seat n).run.floor ≠ .speaking) :
    ((s.rowBegun n c budget).seat n).run.budget = budget ∧ ((s.rowBegun n c budget).seat n).run.chan = none := by
  have hoff : (s.seat n).run.chan = none := by
    rw [← Option.not_isSome_iff_eq_none, ← (h.seats n).2.2]
    exact hn
  have hset := s.rowSet_seat n c budget
  unfold State.rowBegun
  rw [State.seat, rowEntered_seats]
  change ((s.rowStored n c budget).seat n).run.budget = budget ∧ ((s.rowStored n c budget).seat n).run.chan = none
  unfold State.rowStored
  split
  · refine ⟨?_, ((h.rowSet n c budget).barSeat_off n).2⟩
    unfold State.barSeat
    rw [hset]
    dsimp only
    split
    · rw [removeEntry_budget, hset]
    · next hspeaking => exact absurd hspeaking hn
    · rw [hset]
  · rw [hset]
    exact ⟨rfl, hoff⟩

theorem Coherent.writeSeat_budget (h : s.Coherent .strict) (hn : (s.seat n).run.floor ≠ .speaking) :
    ((s.writeSeat n c budget).seat n).run.budget = budget := by
  obtain ⟨hbudget, hoff⟩ := h.rowBegun_off (c := c) (budget := budget) hn
  have hcfg : ((s.rowBegun n c budget).seat n).cfg = c := by rw [rowBegun_seat]
  have hclassed : ((s.rowClassed (s.rowBegun n c budget) n c).seat n).run.budget = budget := by
    unfold State.rowClassed
    split
    · rw [Coherent.classConsequences_budget (by rw [hcfg]; exact h.rowBegun n c budget) hoff, hbudget]
    · exact hbudget
  have htold := (s.rowFollowed_frame (s.rowBegun n c budget) n c budget).1
  have hfollowed : ((s.rowFollowed (s.rowBegun n c budget) n c budget).seat n).run.budget = budget := by
    rw [State.seat, htold.seats]
    exact hclassed
  rw [writeSeat_eq]
  unfold State.rowBegun at hfollowed
  dsimp only
  split
  · rw [fillRule_budget, hfollowed]
  · exact hfollowed

/-- A newly BARRED seat ends IDLE (R4, R162). -/
theorem Coherent.writeSeat_idle (h : s.Coherent .strict) (hnow : c.barred = true) (hbefore : (s.seat n).cfg.barred = false) :
    ((s.writeSeat n c budget).seat n).run.floor = .idle := by
  have hstored : ((s.rowStored n c budget).seat n).run.floor = .idle := by
    unfold State.rowStored
    rw [if_pos (by simp [hnow, hbefore])]
    exact (h.rowSet n c budget).barSeat_idle n
  have hidle : ((s.rowBegun n c budget).seat n).run.floor = .idle := by
    unfold State.rowBegun
    rw [State.seat, rowEntered_seats]
    exact hstored
  have hoff := (((h.rowBegun n c budget).seats.idle_iff n).1 hidle).2
  have hcfg : ((s.rowBegun n c budget).seat n).cfg = c := by rw [rowBegun_seat]
  have hclassed : ((s.rowClassed (s.rowBegun n c budget) n c).seat n).run.floor = .idle := by
    unfold State.rowClassed
    split
    · rw [classConsequences_floor_of_barred _ hoff (by rw [hcfg]; exact hnow), hidle]
    · exact hidle
  have htold := (s.rowFollowed_frame (s.rowBegun n c budget) n c budget).1
  have hfollowed : ((s.rowFollowed (s.rowBegun n c budget) n c budget).seat n).run.floor = .idle := by
    rw [State.seat, htold.seats]
    exact hclassed
  have hcoherent : (s.rowFollowed (s.rowBegun n c budget) n c budget).Coherent .strict :=
    Coherent.rowFollowed (h.rowBegun n c budget) hcfg
  rw [writeSeat_eq]
  unfold State.rowBegun at hfollowed hcoherent
  dsimp only
  split
  · rw [hcoherent.fillRule_seat_of_idle hfollowed, hfollowed]
  · exact hfollowed

end State

/-! ### The operation -/

theorem exec_writeTableSeat {m : MgmtHead} {index : Half} {c1 c0 x1 x2 x3 x4 b1 b0 y1 y2 y3 y4 : Byte} {s : State}
    (htakes : s.Takes (mgmtFrame m .writeTable (0 :: bytesOf index ++ [c1, c0, x1, x2, x3, x4, b1, b0, y1, y2, y3, y4])))
    (hstart : s.startUp.state ≠ .recalling) (hop : s.profile.op = none) :
    exec (.writeTableSeat m index [c1, c0, x1, x2, x3, x4, b1, b0, y1, y2, y3, y4]) s = .next (
      if h : index.toNat < 1024 then
        if (configOfWord (c1 ++ c0)).cls = .chair && (s.seat ⟨index.toNat, h⟩).cfg.cls != .chair
            && 8 ≤ s.otherChairs ⟨index.toNat, h⟩ then s.answer m.tag (only .refusedLimit)
        else (s.writeSeat ⟨index.toNat, h⟩ (configOfWord (c1 ++ c0)) (b1 ++ b0).toNat).answer m.tag
          (only (doneOr (orderClamped (c1 ++ c0))))
      else s.answer m.tag (only .refusedRange)) := by
  refine (operate_of_takes m .writeTable _ (writeSeatRow index _) s htakes).trans ?_
  unfold writeSeatRow
  dsimp only
  rw [held_of_none _ _ _ (State.heldOff_write hstart hop)]
  unfold half
  split
  · split <;> rfl
  · rfl

end Sys2Proof.Machine
end

section
/-! PROOF. The SEAT row of WRITE TABLE. -/

namespace Sys2Proof.Machine

theorem entitled_eq (c : SeatConfig) (k : RequestKind) :
    c.entitled k = match k, c.order with
      | .order, some o => o
      | _, _ => c.speak := by
  unfold SeatConfig.entitled
  cases k with
  | speak => rfl
  | order => cases c.order <;> rfl

/-- Settles O46: the refusals, the row already held, a row without class consequences written out, and for any row what
its parts leave. -/
theorem seatRowWriteStoresAndFollows : Obligations.SeatRowWriteStoresAndFollows := by
  unfold Obligations.SeatRowWriteStoresAndFollows
  intro m index c1 c0 x1 x2 x3 x4 b1 b0 y1 y2 y3 y4 s row c budget htakes hstart hop
  have hexec : exec (.writeTableSeat m index row) s = _ := exec_writeTableSeat htakes hstart hop
  have hup := htakes.1
  refine ⟨fun hlarge => ?_, fun n hn => ?_⟩
  · rw [hexec, dif_neg (by omega)]
    exact congrArg _ (State.answer_reply_of_up hup)
  have hindex : index.toNat < 1024 := hn ▸ n.isLt
  obtain rfl : n = ⟨index.toNat, hindex⟩ := Fin.ext hn
  rw [dif_pos hindex] at hexec
  generalize (⟨index.toNat, hindex⟩ : SeatNo) = n at *
  intro old eight
  have height : (decide (c.cls = .chair) && old.cfg.cls != .chair && decide (8 ≤ s.otherChairs n)) = true ↔
      c.cls = .chair ∧ old.cfg.cls ≠ .chair ∧ eight := by
    rw [Bool.and_eq_true, Bool.and_eq_true, decide_eq_true_iff, bne_iff_ne, decide_eq_true_iff, and_assoc]
    rfl
  have hwritten (hfew : ¬(c.cls = .chair ∧ old.cfg.cls ≠ .chair ∧ eight)) : exec (.writeTableSeat m index row) s =
      .next ((s.writeSeat n c budget).replied m.tag
        (if 4 < ((c1 ++ c0).extractLsb' 9 3).toNat then .adjusted else .done) []) := by
    refine hexec.trans ((congrArg _ (if_neg (mt height.1 hfew))).trans ?_)
    have hst : doneOr (orderClamped (c1 ++ c0)) =
        if 4 < ((c1 ++ c0).extractLsb' 9 3).toNat then Status.adjusted else .done := by
      unfold doneOr orderClamped
      simp only [decide_eq_true_iff]
    rw [← hst]
    refine congrArg _ (State.answer_reply_of_up ?_)
    rw [(s.writeSeat_others n c budget).uplink]
    exact hup
  refine ⟨fun hnow hbefore hmany => ?_, fun hsame hbudget => ?_, fun hok hbarred hplain => ?_, fun hok hfew => ?_⟩
  · refine hexec.trans ((congrArg _ (if_pos (height.2 ⟨hnow, hbefore, hmany⟩))).trans ?_)
    exact congrArg _ (State.answer_reply_of_up hup)
  · rw [hwritten fun h => h.2.1 (hsame ▸ h.1), hsame, hbudget]
    exact congrArg (fun u : State => Host.Outcome.next (u.replied m.tag _ [])) s.writeSeat_self
  · intro st applied stored shown
    have hfew : ¬(c.cls = .chair ∧ old.cfg.cls ≠ .chair ∧ eight) := fun h =>
      hplain.elim (fun hc => h.2.1 (hc ▸ h.1)) fun hc => hc.1 h.1
    have hcoherent := hok.coherent
    have hplainly : s.rowPlain n c budget = stored := rfl
    have hdecides : Decidable (s.RowShows n c budget) := inferInstanceAs (Decidable (_ ∧ _ ∧ _))
    have hshown (u : State) : (if s.RowShows n c budget then u.mark n else u) = shown u := if_congr Iff.rfl rfl rfl
    rw [hwritten hfew]
    refine ⟨fun hwaits => ?_, fun e he hen => ?_⟩
    · have hout : n ∉ s.list.entries.map Entry.seat := mt (hcoherent.seats n).1.2 hwaits
      have hwrite : s.writeSeat n c budget = _ := State.writeSeat_of_unlisted hbarred hplain hout
      rw [hwrite, hshown]
      rfl
    · intro entitled e' moved listed
      have hreclamped : (s.rowSet n c budget).reclamped n e = e' := by
        unfold State.reclamped State.isExhausted State.applies
        rw [State.rowSet_seat]
        dsimp only
        rw [entitled_eq c e.kind]
        rfl
      have hmoved : (s.rowSet n c budget).reclampedEntries n e = moved := by
        unfold State.reclampedEntries
        rw [hreclamped]
        rfl
      have hwrite : s.writeSeat n c budget = _ := hcoherent.writeSeat_of_entry hbarred hplain he hen
      rw [hwrite]
      dsimp only
      rw [hshown, hmoved]
      rfl
  · have hcoherent := hok.coherent
    refine ⟨s.writeSeat n c budget, hwritten hfew, s.writeSeat_cfg n c budget, fun k hk => ?_, hcoherent.writeSeat_budget,
      hcoherent.writeSeat_idle, ?_, fun hno hin => hno ?_, hcoherent.mem_writeSeat_of_new_chair,
      fun k hk => State.mem_writeSeat_of_ne hcoherent.sorted hk, (s.writeSeat_others n c budget).seat, ?_⟩
    · rw [(s.writeSeat_others n c budget).seat k hk]
    · exact s.writeSeat_mismatch n c budget
    · have hchair := (hcoherent.writeSeat n c budget).chairs n hin id
      rwa [s.writeSeat_cfg n c budget] at hchair
    · have h := s.writeSeat_others n c budget
      exact ⟨h.classes, h.branches, h.floorCfg, h.floor, h.profile, h.startUp⟩

end Sys2Proof.Machine
end

section
/-! PROOF. Which notices an act builds, and that command sets only grow. -/

namespace Sys2Proof.Machine

namespace State

variable {s t u : State} {l l' : List Notice} {kinds : List NoticeKind} {q : NoticeKind}
  {a b : List (Option SeatNo × Option Reason)}

theorem port_congr (h : t.ports = s.ports) (b : BranchId) : t.port b = s.port b := by
  cases b <;> simp only [port, h]

/-- The notices that wait, but for their gap flags. -/
def ungapped (s : State) : List Notice := s.uplink.notices.map fun x => { x with gap := false }

/-- An act appends its marks to the command sets, and builds notices that all enter a queue with room. -/
structure Told (s t : State) (l : List Notice) : Prop where
  up : t.uplink.up = s.uplink.up
  enables : t.floorCfg.enables = s.floorCfg.enables
  longer : s.uplink.notices.length ≤ t.uplink.notices.length
  notices : s.uplink.up = true → s.floorCfg.enables = BitVec.allOnes 13 → t.uplink.notices.length < 32 →
    t.ungapped = s.ungapped ++ l
  marks : ∀ b : BranchId, (s.port b).cmdSet <+: (t.port b).cmdSet

theorem Told.trans (h : Told s t l) (g : Told t u l') : Told s u (l ++ l') where
  up := g.up.trans h.up
  enables := g.enables.trans h.enables
  longer := h.longer.trans g.longer
  notices hup hon hroom := by
    rw [g.notices (h.up.trans hup) (h.enables.trans hon) hroom, h.notices hup hon (g.longer.trans_lt hroom),
      List.append_assoc]
  marks b := (h.marks b).trans (g.marks b)

theorem Told.silent (huplink : t.uplink = s.uplink) (hcfg : t.floorCfg = s.floorCfg)
    (hmarks : ∀ b : BranchId, (s.port b).cmdSet <+: (t.port b).cmdSet) : Told s t [] where
  up := by rw [huplink]
  enables := by rw [hcfg]
  longer := by rw [huplink]
  notices _ _ _ := by rw [ungapped, huplink, List.append_nil, ungapped]
  marks := hmarks

theorem mark_told (s : State) (n : SeatNo) : Told s (s.mark n) [] := by
  refine .silent (mark_uplink s n) (mark_floorCfg ..) fun b => ?_
  rw [mark_port]
  dsimp only
  unfold markedSet
  split
  · exact List.prefix_append _ _
  · exact List.prefix_refl _

theorem markAll_told (l : List SeatNo) (s : State) : Told s (s.markAll l) [] := by
  induction l generalizing s with
  | nil => exact .silent rfl rfl fun _ => List.prefix_refl _
  | cons n l ih => exact (s.mark_told n).trans (ih _)

theorem notifies_of_allOnes (h : s.floorCfg.enables = BitVec.allOnes 13) (k : NoticeKind) : s.notifies k = true := by
  unfold notifies
  rw [h]
  cases k <;> decide

theorem notice_told (s : State) (k : NoticeKind) (n : Option SeatNo) (c : Option ChanNo) (r : Option Reason) :
    Told s (s.notice k n c r) [⟨k, false, n, c, r, s.list.entries.length, s.floor⟩] := by
  have hframe := notice_frame s k n c r
  have hsilent (hsame : (s.notice k n c r).uplink = s.uplink) (hno : ¬(s.uplink.up = true
      ∧ s.floorCfg.enables = BitVec.allOnes 13 ∧ s.uplink.notices.length < 32)) :
      Told s (s.notice k n c r) [⟨k, false, n, c, r, s.list.entries.length, s.floor⟩] :=
    ⟨by rw [hsame], by rw [hframe.floorCfg], by rw [hsame],
      fun hup hon hroom => absurd ⟨hup, hon, by rwa [hsame] at hroom⟩ hno,
      fun b => by rw [notice_port]⟩
  cases hk : s.notifies k with
  | false =>
    refine hsilent (by rw [notice_of_disabled s n c r hk]) fun h => ?_
    rw [notifies_of_allOnes h.2.1] at hk
    cases hk
  | true =>
    by_cases hroom : s.uplink.up = true ∧ s.uplink.notices.length < 32
    · have heq := notice_of_room n c r hk hroom.1 hroom.2
      have huplink : (s.notice k n c r).uplink = { s.uplink with notices := s.uplink.notices ++
          [⟨k, s.mgmt.gap, n, c, r, s.list.entries.length, s.floor⟩] } := by rw [heq]; rfl
      refine ⟨by rw [huplink], by rw [hframe.floorCfg], by simp [huplink], fun _ _ _ => ?_,
        fun b => by rw [notice_port]⟩
      rw [ungapped, huplink, List.map_append]
      rfl
    · refine hsilent ?_ fun h => hroom ⟨h.1, h.2.2⟩
      rw [notice_of_no_room n c r hk (by rwa [not_and_or, Bool.not_eq_true, not_lt] at hroom)]
      rfl

/-! ### Notices of one kind among notices of some kinds -/

/-- The seats and reasons of the notices of one kind. -/
def ofKind (q : NoticeKind) (l : List Notice) : List (Option SeatNo × Option Reason) :=
  (l.filter fun x => x.kind == q).map fun x => (x.seat, x.reason)

/-- An act builds notices of some kinds only, and of one kind exactly these. -/
def Tells (kinds : List NoticeKind) (q : NoticeKind) (s t : State) (a : List (Option SeatNo × Option Reason)) : Prop :=
  ∃ l : List Notice, Told s t l ∧ (∀ x ∈ l, x.kind ∈ kinds) ∧ ofKind q l = a

theorem Tells.trans (h : Tells kinds q s t a) (g : Tells kinds q t u b) : Tells kinds q s u (a ++ b) := by
  obtain ⟨l, hl, hkinds, rfl⟩ := h
  obtain ⟨l', hl', hkinds', rfl⟩ := g
  refine ⟨l ++ l', hl.trans hl', fun x hx => (List.mem_append.1 hx).elim (hkinds x) (hkinds' x), ?_⟩
  rw [ofKind, List.filter_append, List.map_append]
  rfl

/-- What follows without a notice of the kind. -/
theorem Tells.andThen (h : Tells kinds q s t a) (g : Tells kinds q t u []) : Tells kinds q s u a := by
  have hboth := h.trans g
  rwa [List.append_nil] at hboth

theorem Told.tells (h : Told s t []) : Tells kinds q s t [] := ⟨[], h, fun _ hx => (nomatch hx), rfl⟩

theorem Tells.same (huplink : t.uplink = s.uplink) (hcfg : t.floorCfg = s.floorCfg) (hports : t.ports = s.ports) :
    Tells kinds q s t [] :=
  (Told.silent huplink hcfg fun b => by rw [port_congr hports b]).tells

theorem Tells.refl (s : State) : Tells kinds q s s [] := .same rfl rfl rfl

theorem Tells.opt {p : Prop} [Decidable p] (ht : Tells kinds q s t a) (hu : Tells kinds q s u a) :
    Tells kinds q s (if p then t else u) a := by
  split
  · exact ht
  · exact hu

theorem Tells.foldl {α : Type} (f : State → α → State) (h : ∀ s x, Tells kinds q s (f s x) []) (l : List α) (s : State) :
    Tells kinds q s (l.foldl f s) [] := by
  induction l generalizing s with
  | nil => exact .refl s
  | cons x l ih => exact (h s x).andThen (ih _)

/-- A kind among those built, but not the one counted. -/
def Aside (kinds : List NoticeKind) (q k : NoticeKind) : Prop := k ∈ kinds ∧ k ≠ q

theorem notice_tells_key (s : State) (n : Option SeatNo) (c : Option ChanNo) (r : Option Reason) (hk : q ∈ kinds) :
    Tells kinds q s (s.notice q n c r) [(n, r)] :=
  ⟨_, s.notice_told q n c r, fun x hx => by rw [List.mem_singleton.1 hx]; exact hk, by simp [ofKind]⟩

theorem notice_tells (s : State) {k : NoticeKind} (n : Option SeatNo) (c : Option ChanNo) (r : Option Reason)
    (hk : Aside kinds q k) : Tells kinds q s (s.notice k n c r) [] :=
  ⟨_, s.notice_told k n c r, fun x hx => by rw [List.mem_singleton.1 hx]; exact hk.1, by simp [ofKind, hk.2]⟩

/-! ### The acts of the floor -/

theorem setRestraint_tells (s : State) (r : Bool) (hk : Aside kinds q .restraint) :
    Tells kinds q s (s.setRestraint r) [] := by
  unfold setRestraint
  have hset : Tells kinds q s (s.withList { s.list with restraint := r }) [] := .same rfl rfl rfl
  exact .opt (.refl s) (hset.andThen (notice_tells _ _ _ _ hk))

/-- A removal, by what its UNLISTED notice counts as (R70). -/
theorem takeOut_tells (s : State) (n : SeatNo) (r : Reason) (hk : Aside kinds q .restraint)
    (h : ∀ u : State, Tells kinds q u (u.notice .unlisted (some n) none (some r)) a) :
    Tells kinds q s (s.takeOut n r) a := by
  unfold takeOut
  have hlist : Tells kinds q s (s.withList { s.list with entries := without s.list.entries n }) [] := .same rfl rfl rfl
  exact (hlist.trans (h _)).andThen ((setRestraint_tells _ _ hk).andThen
    ((mark_told _ n).tells.andThen (markAll_told _ _).tells))

theorem markOpt_tells (s : State) (n : Option SeatNo) : Tells kinds q s (s.markOpt n) [] := by
  cases n with
  | none => exact .refl s
  | some n => exact (mark_told s n).tells

theorem addCause_tells (s : State) (c : ChanNo) (x : Cause) (hk : Aside kinds q .held) :
    Tells kinds q s (s.addCause c x) [] := by
  unfold addCause
  have hset (k : Channel) : Tells kinds q s (s.setChan c k) [] := .same rfl rfl rfl
  exact .opt (.refl s) (.opt (hset _) ((hset _).andThen ((notice_tells _ _ _ _ hk).andThen (markOpt_tells ..))))

theorem removeCause_tells (s : State) (c : ChanNo) (x : Cause) (hk : Aside kinds q .released) :
    Tells kinds q s (s.removeCause c x) [] := by
  unfold removeCause
  have hset (k : Channel) : Tells kinds q s (s.setChan c k) [] := .same rfl rfl rfl
  exact .opt (.refl s) (.opt (hset _) ((hset _).andThen ((notice_tells _ _ _ _ hk).andThen (markOpt_tells ..))))

theorem leaveHolders_tells (s : State) (n : SeatNo) (hheld : Aside kinds q .held) (hreleased : Aside kinds q .released) :
    Tells kinds q s (s.leaveHolders n) [] := by
  unfold leaveHolders
  have hleft : Tells kinds q s (s.withHolders (s.holders.erase n)) [] := .same rfl rfl rfl
  refine .opt (.opt (hleft.andThen (.foldl _ (fun t c => removeCause_tells t c _ hreleased) _ _)) ?_) (.refl s)
  split
  · exact hleft.andThen (addCause_tells _ _ _ hheld)
  · exact hleft

theorem grant_tells (s : State) (n : SeatNo) (k : TurnKind) (level : Level) (x : Bool)
    (hgranted : Aside kinds q .granted) (hheld : Aside kinds q .held) (hunlisted : Aside kinds q .unlisted)
    (hrestraint : Aside kinds q .restraint) :
    Tells kinds q s (s.grant n k level x) [] := by
  unfold grant
  refine .opt ?_ (.refl s)
  split
  · exact .refl s
  · next c _ =>
    have htaken : Tells kinds q s (s.takeGranted n) [] := .opt
      (takeOut_tells s n _ hrestraint fun u => notice_tells u _ _ _ hunlisted) (.refl s)
    have hset (u : State) (ch : Channel) : Tells kinds q u
        (((u.setChan c ch).withGrantOrder (u.grantOrder ++ [c])).seatFloor n .speaking (some c)) [] := .same rfl rfl rfl
    have hshown := htaken.andThen ((hset _ ((s.takeGranted n).grantedChannel n k level x)).andThen
      ((mark_told _ n).tells.andThen (notice_tells _ (some n) (some c) none hgranted)))
    exact .opt (hshown.andThen (notice_tells _ _ _ _ hheld)) hshown

theorem fillRule_tells (s : State) (hgranted : Aside kinds q .granted) (hheld : Aside kinds q .held)
    (hunlisted : Aside kinds q .unlisted) (hrestraint : Aside kinds q .restraint) :
    Tells kinds q s s.fillRule [] :=
  fillRule_induct (R := fun s t => Tells kinds q s t []) (fun s => .refl s) (fun _ _ _ h g => h.andThen g)
    (fun s _ _ => grant_tells s _ _ _ _ hgranted hheld hunlisted hrestraint) s

end State
end Sys2Proof.Machine
end

section
/-! PROOF. The first pass of the absence cascade: the seats go ABSENT. -/

namespace Sys2Proof.Machine

namespace State

variable {k : Slack} {s t u : State} {n m : SeatNo}

/-! ### One seat -/

theorem removeCause_timer (s : State) (c : ChanNo) (x : Cause) (d : ChanNo) :
    ((s.removeCause c x).chan d).timer = (s.chan d).timer := by
  have hset (k : Channel) (hk : k.timer = (s.chan c).timer) : ((s.setChan c k).chan d).timer = (s.chan d).timer := by
    rw [chan_setChan]
    split
    · next h => rw [hk, h]
    · rfl
  have hcaused : (causeSet (s.chan c) x false).timer = (s.chan c).timer := by cases x <;> rfl
  unfold removeCause
  dsimp only
  split
  · rfl
  · split
    · exact hset _ hcaused
    · rw [markOpt_chan, notice_chan]
      exact hset _ hcaused

theorem addCause_timer (s : State) (c : ChanNo) (x : Cause) (d : ChanNo) :
    ((s.addCause c x).chan d).timer = (s.chan d).timer := by
  have hcaused : (causeSet (s.chan c) x true).timer = (s.chan c).timer := by cases x <;> rfl
  have hset : ((s.setChan c { causeSet (s.chan c) x true with state := .held }).chan d).timer = (s.chan d).timer := by
    rw [chan_setChan]
    split
    · next h => exact hcaused.trans (by rw [h])
    · rfl
  unfold addCause
  dsimp only
  split
  · rfl
  · split
    · exact hset
    · rw [markOpt_chan, notice_chan]
      exact hset

theorem leaveHolders_timer (s : State) (n : SeatNo) (d : ChanNo) : ((s.leaveHolders n).chan d).timer = (s.chan d).timer := by
  have hfold (l : List ChanNo) (t : State) :
      ((l.foldl (fun s c => s.removeCause c .priority) t).chan d).timer = (t.chan d).timer := by
    induction l generalizing t with
    | nil => rfl
    | cons c l ih => exact (ih _).trans (removeCause_timer ..)
  unfold leaveHolders
  dsimp only
  split
  · split
    · exact hfold _ _
    · split
      · exact addCause_timer (s.withHolders _) ..
      · rfl
  · rfl

theorem goAbsent_timer (s : State) (n : SeatNo) (d : ChanNo) : ((s.goAbsent n).chan d).timer = (s.chan d).timer := by
  unfold goAbsent
  rw [chan, removeEntry_channels]
  exact leaveHolders_timer ((s.updRun n _).setRefusal n none) n d

theorem goAbsent_entries (s : State) (n : SeatNo) : (s.goAbsent n).list.entries = without s.list.entries n := by
  unfold goAbsent
  rw [removeEntry_entries, (leaveHolders_holdFrame _ n).list]
  rfl

theorem mem_goAbsent_holders (hsorted : s.holders.Pairwise (· < ·)) (n m : SeatNo) :
    m ∈ (s.goAbsent n).holders ↔ m ≠ n ∧ m ∈ s.holders := by
  unfold goAbsent
  rw [(removeEntry_grantFrame _ n _).holders]
  exact mem_leaveHolders (s := (s.updRun n _).setRefusal n none) hsorted n m

/-- The kinds of notice of the first pass (R17). -/
def goneKinds : List NoticeKind := [.released, .held, .unlisted, .restraint]

theorem removeEntry_tells (s : State) (n : SeatNo) : Tells goneKinds .unlisted s (s.removeEntry n .absent)
    (if (s.entryOf n).isSome = true then [(some n, some .absent)] else []) := by
  obtain ⟨hnone, h⟩ | ⟨hsome, h⟩ := removeEntry_cases s n .absent
  · rw [h, hnone]
    exact .refl s
  · have hfloor : Tells goneKinds .unlisted s (s.seatFloor n .idle none) [] := .same rfl rfl rfl
    rw [h, if_pos hsome]
    exact hfloor.trans (takeOut_tells _ n .absent ⟨by decide, by decide⟩ fun u => notice_tells_key u _ _ _ (by decide))

theorem goAbsent_tells (s : State) (n : SeatNo) : Tells goneKinds .unlisted s (s.goAbsent n)
    (if (s.entryOf n).isSome = true then [(some n, some .absent)] else []) := by
  unfold goAbsent
  dsimp only
  have hgone : Tells goneKinds .unlisted s ((s.updRun n fun r => { r with
      present := false, unitKind := none, mismatch := false, down1 := false, down2 := false, down3 := false
      refusalShown := false }).setRefusal n none) [] := .same rfl rfl rfl
  have hlisted : ((s.updRun n fun r => { r with
      present := false, unitKind := none, mismatch := false, down1 := false, down2 := false, down3 := false
      refusalShown := false }).setRefusal n none).entryOf n = s.entryOf n := rfl
  generalize (s.updRun n _).setRefusal n none = t at *
  have hleft := leaveHolders_tells (kinds := goneKinds) (q := .unlisted) t n ⟨by decide, by decide⟩ ⟨by decide, by decide⟩
  have hstill : (t.leaveHolders n).entryOf n = s.entryOf n := by
    rw [entryOf, (leaveHolders_holdFrame t n).list, ← hlisted]
    rfl
  have hremoved := removeEntry_tells (t.leaveHolders n) n
  rw [hstill] at hremoved
  exact (hgone.andThen hleft).trans hremoved

/-! ### The group -/

theorem foldl_goAbsent_timer (group : List SeatNo) (s : State) (d : ChanNo) :
    ((group.foldl (fun s n => s.goAbsent n) s).chan d).timer = (s.chan d).timer := by
  induction group generalizing s with
  | nil => rfl
  | cons n l ih => exact (ih _).trans (goAbsent_timer s n d)

theorem Coherent.mem_foldl_goAbsent_holders (hj : ∀ m, ¬k.joining m) (group : List SeatNo) (h : s.Coherent k) (m : SeatNo) :
    m ∈ (group.foldl (fun s n => s.goAbsent n) s).holders ↔ m ∉ group ∧ m ∈ s.holders := by
  induction group generalizing s k with
  | nil => simp
  | cons n l ih =>
    rw [List.foldl_cons, ih (k := k.awaiting [n]) hj (h.goAbsent hj n), mem_goAbsent_holders h.sorted, List.mem_cons, not_or]
    tauto

theorem foldl_goAbsent_budget (group : List SeatNo) (s : State) (m : SeatNo) :
    ((group.foldl (fun s n => s.goAbsent n) s).seat m).run.budget = (s.seat m).run.budget := by
  induction group generalizing s with
  | nil => rfl
  | cons n l ih =>
    rw [List.foldl_cons, ih, goAbsent_seat]
    split <;> rfl

/-- The first pass closes no channel: a listed seat has none. -/
theorem foldl_goAbsent_chan (group : List SeatNo) (s : State)
    (hoff : ∀ m ∈ s.list.entries.map Entry.seat, (s.seat m).run.chan = none) (m : SeatNo) :
    ((group.foldl (fun s n => s.goAbsent n) s).seat m).run.chan = (s.seat m).run.chan := by
  induction group generalizing s with
  | nil => rfl
  | cons n l ih =>
    have hkept (m : SeatNo) : ((s.goAbsent n).seat m).run.chan = (s.seat m).run.chan := by
      rw [goAbsent_seat]
      split
      · next hn =>
        subst hn
        dsimp only
        split
        · next hlisted => exact (hoff n ((entryOf_isSome_iff s n).1 hlisted)).symm
        · rfl
      · rfl
    rw [List.foldl_cons, ih _ fun m hm => ?_, hkept]
    rw [goAbsent_entries, mem_seats_without] at hm
    rw [hkept]
    exact hoff m hm.2

theorem foldl_goAbsent_tells {group : List SeatNo} (hgroup : group.Nodup) (s : State) :
    Tells goneKinds .unlisted s (group.foldl (fun s n => s.goAbsent n) s)
      ((group.filter fun n => (s.entryOf n).isSome).map fun n => (some n, some .absent)) := by
  induction group generalizing s with
  | nil => exact .refl s
  | cons n l ih =>
    obtain ⟨hn, hl⟩ := List.nodup_cons.1 hgroup
    have hlisted : (l.filter fun m => ((s.goAbsent n).entryOf m).isSome) = l.filter fun m => (s.entryOf m).isSome := by
      refine List.filter_congr fun m hm => Bool.eq_iff_iff.2 ?_
      have hmn : m ≠ n := fun h => hn (h ▸ hm)
      rw [entryOf_isSome_iff, entryOf_isSome_iff, goAbsent_entries, mem_seats_without]
      exact ⟨fun h => h.2, fun h => ⟨hmn, h⟩⟩
    have hboth := (goAbsent_tells s n).trans (ih hl (s.goAbsent n))
    rw [hlisted] at hboth
    rw [List.filter_cons]
    split
    · next hsome => rwa [if_pos hsome] at hboth
    · next hnone => rwa [if_neg hnone] at hboth

end State
end Sys2Proof.Machine
end

section
/-! PROOF. The second pass of the absence cascade: the channels of the group close. -/

namespace Sys2Proof.Machine

namespace State

variable {k : Slack} {s t u : State} {n m : SeatNo}

/-! ### One seat -/

/-- The budget a seat keeps once what it used is deducted (R140). -/
def closedBudget (s : State) (n : SeatNo) : Nat :=
  if s.applies n then (s.seat n).run.budget - ((s.seat n).run.chan.map fun c => (s.chan c).timer.used).getD 0
  else (s.seat n).run.budget

theorem closedBudget_of_off (h : (s.seat n).run.chan = none) : s.closedBudget n = (s.seat n).run.budget := by
  unfold closedBudget
  rw [h]
  split <;> rfl

theorem Coherent.canClose (h : s.Coherent k) {c : ChanNo} (hc : (s.seat n).run.chan = some c) : s.canClose c n = true := by
  obtain ⟨hbusy, hnamed⟩ := h.seats.chan_named hc
  exact (s.canClose_iff c n).2 ⟨(Channel.busy_iff _).1 hbusy, hnamed⟩

theorem Coherent.closeSeat_of_on (h : s.Coherent k) (r : Reason) {c : ChanNo} (hc : (s.seat n).run.chan = some c) :
    s.closeSeat n r = (s.closeChannel c n r).fillRule := by
  unfold State.closeSeat
  rw [hc]
  exact if_pos (h.canClose hc)

theorem Coherent.closeSeat_budget (h : s.Coherent k) (n : SeatNo) (r : Reason) :
    ((s.closeSeat n r).seat n).run.budget = s.closedBudget n := by
  cases hc : (s.seat n).run.chan with
  | none => rw [closeSeat_of_off s r hc, closedBudget_of_off hc]
  | some c =>
    obtain ⟨-, -, hseat⟩ := s.closeChannel_taken c n r (h.canClose hc)
    rw [h.closeSeat_of_on r hc, fillRule_budget, hseat, if_pos rfl]
    unfold closedBudget
    rw [hc]
    rfl

/-- A close leaves every other seat that is not listed. -/
theorem Coherent.closeSeat_seat_of_ne (h : s.Coherent k) (r : Reason) (hm : m ≠ n)
    (hlisted : m ∉ s.list.entries.map Entry.seat) : (s.closeSeat n r).seat m = s.seat m := by
  cases hc : (s.seat n).run.chan with
  | none => rw [closeSeat_of_off s r hc]
  | some c =>
    rw [h.closeSeat_of_on r hc, fillRule_seat_of_unlisted (by rwa [closeChannel_list]), closeChannel_seat_of_ne s c r hm.symm]

/-- A close leaves the channels of other seats. -/
theorem Coherent.closeSeat_chan_of_ne (h : s.Coherent k) (r : Reason) (hm : m ≠ n) {d : ChanNo}
    (hd : (s.seat m).run.chan = some d) : (s.closeSeat n r).chan d = s.chan d := by
  cases hc : (s.seat n).run.chan with
  | none => rw [closeSeat_of_off s r hc]
  | some c =>
    obtain ⟨hchan, -, -⟩ := s.closeChannel_taken c n r (h.canClose hc)
    obtain ⟨hbusy, hnamed⟩ := h.seats.chan_named hd
    have hcd : c ≠ d := fun hcd => by
      rw [← hcd, (h.seats.chan_named hc).2] at hnamed
      exact hm (Option.some.inj hnamed).symm
    have hkept : (s.closeChannel c n r).chan d = s.chan d := by rw [hchan, if_neg hcd]
    rw [h.closeSeat_of_on r hc, (fillRule_serves _).chan d (by rw [hkept]; exact (Channel.busy_iff _).1 hbusy), hkept]

theorem Coherent.closeSeat_closedBudget_of_ne (h : s.Coherent k) (r : Reason) (hm : m ≠ n)
    (hlisted : m ∉ s.list.entries.map Entry.seat) : (s.closeSeat n r).closedBudget m = s.closedBudget m := by
  have happlies : (s.closeSeat n r).applies m = s.applies m := by
    unfold applies
    rw [(closeSeat_grantFrame s n r).frame.cfg, (closeSeat_grantFrame s n r).frame.classes]
  unfold closedBudget
  rw [happlies, h.closeSeat_seat_of_ne r hm hlisted]
  cases hd : (s.seat m).run.chan with
  | none => rfl
  | some d => rw [Option.map_some, Option.map_some, h.closeSeat_chan_of_ne r hm hd]

/-- The kinds of notice of the second pass (R17). -/
def lostKinds : List NoticeKind := [.closed, .unlisted, .restraint, .granted, .held]

theorem closeChannel_tells (s : State) (c : ChanNo) (n : SeatNo) (r : Reason) (hcan : s.canClose c n = true) :
    Tells lostKinds .closed s (s.closeChannel c n r) [(some n, some r)] := by
  unfold closeChannel
  rw [if_pos hcan]
  dsimp only
  have hdeducted : Tells lostKinds .closed s (s.deduct n (s.chan c).timer.used) [] := .opt (.same rfl rfl rfl) (.refl s)
  have hfreed (u : State) (f : Channel → Channel) : Tells lostKinds .closed u
      (((u.updChan c f).withGrantOrder (u.grantOrder.erase c)).seatFloor n .idle none) [] := .same rfl rfl rfl
  have hmarked := hdeducted.andThen ((hfreed _ fun k =>
    { k with state := .free, seat := none, kind := none, level := none, priority := false, suspend := false }).andThen
      (mark_told _ n).tells)
  exact hmarked.trans (notice_tells_key _ (some n) (some c) (some r) (by decide))

theorem Coherent.closeSeat_tells (h : s.Coherent k) (n : SeatNo) (r : Reason) : Tells lostKinds .closed s (s.closeSeat n r)
    (if (s.seat n).run.chan.isSome = true then [(some n, some r)] else []) := by
  cases hc : (s.seat n).run.chan with
  | none =>
    rw [closeSeat_of_off s r hc]
    exact .refl s
  | some c =>
    rw [h.closeSeat_of_on r hc]
    exact (closeChannel_tells s c n r (h.canClose hc)).andThen (fillRule_tells _ ⟨by decide, by decide⟩
      ⟨by decide, by decide⟩ ⟨by decide, by decide⟩ ⟨by decide, by decide⟩)

/-! ### The group -/

theorem foldl_closeSeat_budget_of_notMem (r : Reason) (l : List SeatNo) (s : State) (hm : m ∉ l) :
    ((l.foldl (fun s n => s.closeSeat n r) s).seat m).run.budget = (s.seat m).run.budget := by
  induction l generalizing s with
  | nil => rfl
  | cons n l ih =>
    obtain ⟨hn, hl⟩ := not_or.1 (mt List.mem_cons.2 hm)
    exact (ih _ hl).trans (closeSeat_budget_of_ne s r (Ne.symm hn))

/-- Each seat of an ABSENT group pays once what it used. -/
theorem Coherent.foldl_closeSeat_budget (hgoing : ∀ m, ¬k.going m) (r : Reason) (l : List SeatNo) (h : s.Coherent k)
    (habsent : (s.seat m).run.present = false) (hm : m ∈ l) :
    ((l.foldl (fun s n => s.closeSeat n r) s).seat m).run.budget = s.closedBudget m := by
  induction l generalizing s with
  | nil => cases hm
  | cons n l ih =>
    have hclosed := h.closeSeat n r
    have hstill : ((s.closeSeat n r).seat m).run.present = false := by
      rw [(closeSeat_grantFrame s n r).present]
      exact habsent
    rw [List.foldl_cons]
    by_cases hmn : m = n
    · subst hmn
      have hbudget := h.closeSeat_budget m r
      by_cases hml : m ∈ l
      · rw [ih hclosed hstill hml, closedBudget_of_off (h.closeSeat_off m r), hbudget]
      · rw [foldl_closeSeat_budget_of_notMem r l _ hml, hbudget]
    · have hml := (List.mem_cons.1 hm).resolve_left hmn
      rw [ih hclosed hstill hml]
      exact h.closeSeat_closedBudget_of_ne r hmn (h.absentList m habsent (hgoing m)).1

theorem Coherent.foldl_closeSeat_tells (hgoing : ∀ m, ¬k.going m) (r : Reason) {l : List SeatNo} (hl : l.Nodup)
    (h : s.Coherent k) (habsent : ∀ m ∈ l, (s.seat m).run.present = false) :
    Tells lostKinds .closed s (l.foldl (fun s n => s.closeSeat n r) s)
      ((l.filter fun n => (s.seat n).run.chan.isSome).map fun n => (some n, some r)) := by
  induction l generalizing s with
  | nil => exact .refl s
  | cons n l ih =>
    obtain ⟨hn, hl⟩ := List.nodup_cons.1 hl
    have hkept (m : SeatNo) (hm : m ∈ l) : (s.closeSeat n r).seat m = s.seat m :=
      h.closeSeat_seat_of_ne r (fun hmn => hn (hmn ▸ hm))
        (h.absentList m (habsent m (List.mem_cons_of_mem n hm)) (hgoing m)).1
    have hon : (l.filter fun m => ((s.closeSeat n r).seat m).run.chan.isSome) =
        l.filter fun m => (s.seat m).run.chan.isSome := List.filter_congr fun m hm => by rw [hkept m hm]
    have hboth := (h.closeSeat_tells n r).trans (ih hl (h.closeSeat n r) fun m hm => by
      rw [hkept m hm]
      exact habsent m (List.mem_cons_of_mem n hm))
    rw [hon] at hboth
    rw [List.filter_cons]
    split
    · next hsome => rwa [if_pos hsome] at hboth
    · next hnone => rwa [if_neg hnone] at hboth

/-! ### The SEAT_ABSENT notices and the marks -/

theorem foldl_notice_frame (k : NoticeKind) (l : List SeatNo) (s : State) :
    TellFrame s (l.foldl (fun s n => s.notice k (some n) none none) s) := by
  induction l generalizing s with
  | nil => exact .refl s
  | cons n l ih => exact (notice_frame ..).trans (ih _)

theorem foldl_notice_told (k : NoticeKind) (l : List SeatNo) (s : State) :
    Told s (l.foldl (fun s n => s.notice k (some n) none none) s)
      (l.map fun n => ⟨k, false, some n, none, none, s.list.entries.length, s.floor⟩) := by
  induction l generalizing s with
  | nil => exact .silent rfl rfl fun _ => List.prefix_refl _
  | cons n l ih =>
    have hframe := notice_frame s k (some n) none none
    have hrest := ih (s.notice k (some n) none none)
    rw [hframe.list, hframe.floor] at hrest
    exact (notice_told s k (some n) none none).trans hrest

theorem mem_mark {b : BranchId} (hbranch : s.branches.branchOf n = some b) (hup : (s.port b).up = true) :
    n ∈ ((s.mark n).port b).cmdSet := by
  rw [mark_port]
  dsimp only
  unfold markedSet
  split
  · exact List.mem_append_right _ (List.mem_singleton.2 rfl)
  · next h =>
    by_contra hout
    exact h (by simp [hbranch, hup, hout])

theorem mem_markAll {b : BranchId} {l : List SeatNo} (hn : n ∈ l) (hbranch : s.branches.branchOf n = some b)
    (hup : (s.port b).up = true) : n ∈ ((s.markAll l).port b).cmdSet := by
  induction l generalizing s with
  | nil => cases hn
  | cons m l ih =>
    obtain rfl | hl := List.mem_cons.1 hn
    · exact ((markAll_told l (s.mark n)).marks b).subset (mem_mark hbranch hup)
    · refine ih (s := s.mark m) hl (by rw [mark_branches]; exact hbranch) ?_
      rw [mark_port]
      exact hup

end State
end Sys2Proof.Machine
end

section
/-! PROOF. The absence cascade as a whole. -/

namespace Sys2Proof.Machine

namespace State

variable {s : State} {n : SeatNo}

/-- The state after the two passes over a group. -/
def twicePassed (s : State) (group : List SeatNo) : State :=
  group.foldl (fun s n => s.closeSeat n .seatLost) (group.foldl (fun s n => s.goAbsent n) s)

theorem cascade_eq (s : State) (group : List SeatNo) : s.cascade group =
    (group.foldl (fun s n => s.notice .seatAbsent (some n) none none) (s.twicePassed group)).markAll group := rfl

theorem cascade_tellFrame (s : State) (group : List SeatNo) : TellFrame (s.twicePassed group) (s.cascade group) :=
  (foldl_notice_frame ..).trans (markAll_frame _ group)

theorem Coherent.firstPass (h : s.Coherent .strict) (group : List SeatNo) :
    (group.foldl (fun s n => s.goAbsent n) s).Coherent (Slack.strict.awaiting group) := h.foldl_goAbsent (fun _ => id) group

theorem Coherent.firstPass_chan (h : s.Coherent .strict) (group : List SeatNo) (n : SeatNo) :
    ((group.foldl (fun s n => s.goAbsent n) s).seat n).run.chan = (s.seat n).run.chan :=
  foldl_goAbsent_chan group s (fun m hm => by
    rw [← Option.not_isSome_iff_eq_none, ← (h.seats m).2.2, (h.seats m).1.2 hm]
    decide) n

theorem firstPass_absent {group : List SeatNo} (s : State) (hn : n ∈ group) :
    ((group.foldl (fun s n => s.goAbsent n) s).seat n).run.present = false := by
  rw [(foldl_goAbsent_frame group s).seat n, if_pos hn]
  rfl

theorem Coherent.firstPass_closedBudget (h : s.Coherent .strict) (group : List SeatNo) (n : SeatNo) :
    (group.foldl (fun s n => s.goAbsent n) s).closedBudget n = s.closedBudget n := by
  have hframe := foldl_goAbsent_frame group s
  have happlies : (group.foldl (fun s n => s.goAbsent n) s).applies n = s.applies n := by
    unfold applies
    rw [hframe.classes, hframe.seat n]
  unfold closedBudget
  rw [happlies, h.firstPass_chan group, foldl_goAbsent_budget]
  cases (s.seat n).run.chan with
  | none => rfl
  | some c => rw [Option.map_some, Option.map_some, foldl_goAbsent_timer]

/-- The budgets after a cascade: each seat of the group pays what it used, once (R140). -/
theorem Coherent.cascade_budget (h : s.Coherent .strict) (group : List SeatNo) (n : SeatNo) :
    ((s.cascade group).seat n).run.budget = if n ∈ group then s.closedBudget n else (s.seat n).run.budget := by
  rw [State.seat, (s.cascade_tellFrame group).seats]
  change ((s.twicePassed group).seat n).run.budget = _
  unfold twicePassed
  split
  · next hn =>
    rw [(h.firstPass group).foldl_closeSeat_budget (fun _ => id) .seatLost group (s.firstPass_absent hn) hn,
      h.firstPass_closedBudget group]
  · next hn => rw [foldl_closeSeat_budget_of_notMem _ group _ hn, foldl_goAbsent_budget]

theorem Coherent.mem_cascade_holders (h : s.Coherent .strict) (group : List SeatNo) (n : SeatNo) :
    n ∈ (s.cascade group).holders ↔ n ∉ group ∧ n ∈ s.holders := by
  rw [(s.cascade_grantFrame group).holders]
  exact h.mem_foldl_goAbsent_holders (fun _ => id) group n

/-- What a cascade tells, pass by pass (R17, R177). -/
theorem Coherent.cascade_told (h : s.Coherent .strict) {group : List SeatNo} (hgroup : group.Nodup) :
    ∃ first second : List Notice,
      Told s (s.cascade group) (first ++ second ++ group.map fun n =>
        ⟨.seatAbsent, false, some n, none, none, (s.cascade group).list.entries.length, s.floor⟩)
      ∧ (∀ x ∈ first, x.kind ∈ goneKinds)
      ∧ ofKind .unlisted first =
        ((group.filter fun n => (s.seat n).run.floor == .waiting).map fun n => (some n, some .absent))
      ∧ (∀ x ∈ second, x.kind ∈ lostKinds)
      ∧ ofKind .closed second = (group.filter fun n => (s.seat n).run.floor == .speaking).map fun n =>
          (some n, some .seatLost) := by
  obtain ⟨first, hfirst, hgone, hunlisted⟩ := foldl_goAbsent_tells hgroup s
  obtain ⟨second, hsecond, hlost, hclosed⟩ :=
    (h.firstPass group).foldl_closeSeat_tells (fun _ => id) .seatLost hgroup fun n hn => s.firstPass_absent hn
  have hwaiting : (group.filter fun n => (s.entryOf n).isSome) = group.filter fun n => (s.seat n).run.floor == .waiting :=
    List.filter_congr fun n _ => by rw [Bool.eq_iff_iff, entryOf_isSome_iff, beq_iff_eq, (h.seats n).1]
  have hspeaking : (group.filter fun n => ((group.foldl (fun s n => s.goAbsent n) s).seat n).run.chan.isSome) =
      group.filter fun n => (s.seat n).run.floor == .speaking :=
    List.filter_congr fun n _ => by rw [Bool.eq_iff_iff, h.firstPass_chan group, beq_iff_eq, (h.seats n).2.2]
  rw [hwaiting] at hunlisted
  rw [hspeaking] at hclosed
  have hfloor : (s.twicePassed group).floor = s.floor := by
    rw [← (s.cascade_tellFrame group).floor]
    exact (s.cascade_frame group).floor
  have hthird := (foldl_notice_told .seatAbsent group (s.twicePassed group)).trans (markAll_told group _)
  rw [List.append_nil, ← (s.cascade_tellFrame group).list, hfloor] at hthird
  exact ⟨first, second, (hfirst.trans hsecond).trans hthird, hgone, hunlisted, hlost, hclosed⟩

/-! ### The command sets -/

theorem goAbsent_marks (s : State) (n : SeatNo) (b : BranchId) : (s.port b).cmdSet <+: ((s.goAbsent n).port b).cmdSet := by
  obtain ⟨l, htold, -⟩ := goAbsent_tells s n
  exact htold.marks b

theorem closeSeat_marks (s : State) (n : SeatNo) (r : Reason) (b : BranchId) :
    (s.port b).cmdSet <+: ((s.closeSeat n r).port b).cmdSet := by
  unfold closeSeat
  split
  · next c _ =>
    unfold closeAndFill
    split
    · next hcan =>
      obtain ⟨l, htold, -⟩ := (closeChannel_tells s c n r hcan).andThen (fillRule_tells _ ⟨by decide, by decide⟩
        ⟨by decide, by decide⟩ ⟨by decide, by decide⟩ ⟨by decide, by decide⟩)
      exact htold.marks b
    · exact List.prefix_refl _
  · exact List.prefix_refl _

theorem foldl_marks {α : Type} (f : State → α → State) {b : BranchId}
    (h : ∀ s x, (s.port b).cmdSet <+: ((f s x).port b).cmdSet) (l : List α) (s : State) :
    (s.port b).cmdSet <+: ((l.foldl f s).port b).cmdSet := by
  induction l generalizing s with
  | nil => exact List.prefix_refl _
  | cons x l ih => exact (h s x).trans (ih _)

theorem cascade_marks (s : State) (group : List SeatNo) (b : BranchId) :
    (s.port b).cmdSet <+: ((s.cascade group).port b).cmdSet := by
  have hpasses : (s.port b).cmdSet <+: ((s.twicePassed group).port b).cmdSet :=
    (foldl_marks _ (fun s n => goAbsent_marks s n b) group s).trans
      (foldl_marks _ (fun s n => closeSeat_marks s n .seatLost b) group _)
  have htold := (foldl_notice_told .seatAbsent group (s.twicePassed group)).trans (markAll_told group _)
  exact hpasses.trans (htold.marks b)

theorem mem_cascade_cmdSet {group : List SeatNo} {b : BranchId} (hn : n ∈ group) (hbranch : s.branches.branchOf n = some b)
    (hup : (s.port b).up = true) : n ∈ ((s.cascade group).port b).cmdSet := by
  have hframe : OuterFrame s (group.foldl (fun s n => s.notice .seatAbsent (some n) none none) (s.twicePassed group)) :=
    (foldl_goAbsent_frame group s).toOuterFrame.trans (.trans
      (GrantFrame.foldl _ (fun t m => closeSeat_grantFrame t m _) _ _).outer
      (GrantFrame.foldl _ (fun t _ => notice_grantFrame t _ _ _ _) _ _).outer)
  rw [cascade_eq]
  generalize group.foldl (fun s n => s.notice .seatAbsent (some n) none none) (s.twicePassed group) = t at *
  exact mem_markAll hn (by rw [hframe.branches]; exact hbranch) (by rw [hframe.port]; exact hup)

end State

/-- Settles O23: the two passes, then the notices and the marks. -/
theorem cascadeClearsItsGroup : Obligations.CascadeClearsItsGroup := by
  unfold Obligations.CascadeClearsItsGroup
  intro s group hok t
  have h := hok.coherent
  have hframe := s.cascade_frame group
  have hcascade : t.Coherent .strict := h.cascade (fun _ => id) group
  have hbudget := h.cascade_budget group
  have hholders := h.mem_cascade_holders group
  have hpass := s.cascade_tellFrame group
  refine ⟨fun n hn => ?_, fun n hn => ?_, hframe.floor, hframe.floorCfg, hframe.classes, hframe.branches, hframe.profile,
    hframe.startUp, fun b => ⟨hframe.port b, ?_, fun n hn hbranch hup => ?_⟩, rfl, fun hgroup hup hon hroom => ?_⟩
  · have habsent : (t.seat n).run.present = false := by
      rw [hframe.seat n, if_pos hn]
      rfl
    obtain ⟨hlisted, hholder⟩ := hcascade.absentList n habsent id
    have hchan := hcascade.absentChan n habsent id
    have hidle := (hcascade.seats.idle_iff n).2 ⟨hlisted, hchan⟩
    have hpaid := hbudget n
    rw [if_pos hn] at hpaid
    refine ⟨by rw [hframe.refusalOf, if_pos hn], hholder, hlisted, ?_⟩
    rw [hframe.seat n, if_pos hn, hpaid, hidle, hchan]
    rfl
  · have hpaid := hbudget n
    rw [if_neg hn] at hpaid
    refine ⟨by rw [hframe.refusalOf, if_neg hn], ?_, ?_⟩
    · rw [hholders]
      exact ⟨fun hin => hin.2, fun hin => ⟨hn, hin⟩⟩
    · rw [← hpaid]
      exact (hframe.seat n).trans (by rw [if_neg hn])
  · exact s.cascade_marks group b
  · exact State.mem_cascade_cmdSet hn hbranch hup
  · obtain ⟨first, second, htold, hgone, hunlisted, hlost, hclosed⟩ := h.cascade_told (hgroup.imp fun hlt => ne_of_lt hlt)
    refine ⟨first, second, ?_, fun x hx => ?_, hunlisted, fun x hx => ?_, hclosed⟩
    · refine (htold.notices hup hon hroom).trans ?_
      rw [← List.append_assoc, ← List.append_assoc]
      rfl
    · simpa [State.goneKinds] using hgone x hx
    · simpa [State.lostKinds] using hlost x hx

end Sys2Proof.Machine
end
